-- ==== Sys2Proof/Word.lean ====
section
/-! DEFINITION. The byte of every record and frame, and the plainest helpers on numbers. -/

namespace Sys2Proof

/-- One byte of a record, a frame or the image (R196). -/
abbrev Byte := BitVec 8

/-- A 16-bit value of a notice record (R187). -/
abbrev Half := BitVec 16

/-- A saturating count of `bits` bits stops at its largest value (R1). -/
def satAdd (bits a b : Nat) : Nat := min (2 ^ bits - 1) (a + b)

end Sys2Proof
end

