-- ==== Sys2Proof/Syntax.lean ====
section
/-! DEFINITION. The commands of the block: one constructor per row of spec/opcode_table.json. -/

namespace Sys2Proof

/-- The two loop ports (R143). -/
inductive Port where
  | a
  | b
  deriving DecidableEq, Repr

/-- The five transaction kinds of the host port (R179). -/
inductive TxnKind where
  | measWrite
  | cmdWrite
  | replyRead
  | noticeRead
  | statusRead
  deriving DecidableEq, Repr

/-- One received symbol: eight data bits, mark bit, parity bit and the level found at the stop bit
(R143). -/
structure Symbol where
  data : Byte
  mark : Bool
  parity : Bool
  stop : Bool
  deriving DecidableEq, Repr

/-- The rows of spec/opcode_table.json. A row that is a command taken from the command slot carries
no operand here: its arguments stand in the record the slot holds (R181, R200; log 5). -/
inductive Instr where
  | powerOn
  | resetNFall
  | resetNRise
  | imageReadComplete (bytes : List Byte)
  | imageReadFailed
  | imageReadRetry
  | startWindowExpiry
  | join
  | reset
  | resetTakesEffect
  | loadAgeing
  | readString
  | readFloor
  | readView
  | readWithdrawals
  | forgetStation
  | readCounters
  | reqBypass
  | reqReturn
  | reqTest
  | abortTest
  | openVisit
  | isolate
  | replace
  | restore
  | note
  | closeVisit
  | readVisit
  | unknownCommand
  | measWrite (bytes : List Byte)
  | measTakeIn
  | takeInEnd
  | cmdWrite (bytes : List Byte)
  | replyRead
  | noticeRead
  | statusRead
  | badTransaction (first : Byte)
  | symbolReceived (port : Port) (symbol : Symbol)
  | lineBreak (port : Port)
  | frameCompleted (port : Port)
  | transmitNextFrame (port : Port)
  | inFlightTagExpiry (tag : Nat)
  | statusPeriod
  | peerStale (station : Nat)
  | peerLost (station : Nat)
  | provisionalHoldExpiry (owner claimId : Nat)
  | claimTimerExpiry
  | retryTimerExpiry
  | withdrawalOverdue (claimId : Nat)
  | ageingTick
  | dayBoundary
  | testLimitExpiry
  | hostStale
  | unsupervised
  | ssFbRise
  | ssFbFall
  | mbsClosedRise
  | mbsClosedFall
  | invOkRise
  | invOkFall
  | autoRetransfer
  | syncFail
  | confirmTimeout
  | zcInvEdge
  | zcBypEdge
  | phaseCounterWrap
  | keyOnFall
  | keyOnRise
  | visitOverdue
  | visitLong
  | powerOff
  | transactionEndsEarly
  | transactionBegins (kind : TxnKind)
  deriving DecidableEq, Repr

end Sys2Proof
end

