-- ==== Sys2Proof/Decode.lean ====
section
/-! DEFINITION. The command that a word spells. No row of spec/opcode_table.json gives any bits
(every row's fields are empty), so no word spells a command (log 34). -/

namespace Sys2Proof

/-- The command that the bits `w` spell by the table: none, since the table gives no row bits. -/
def decodeTableWord (_nbits _w : Nat) : Option Instr := none

end Sys2Proof
end

