-- ==== Sys2Proof/Config.lean ====
section
/-! DEFINITION. What the spec leaves open: constants with no body. Nothing in Lean can evaluate
them, so a claim that holds holds whatever they are. -/

namespace Sys2Proof.Config

/-- Which of the things that may come next does come next, at the `n`-th free choice (R2: events of
one moment are taken in either order; R181, R166: moments the part does not fix). Log 3. -/
opaque choice : Nat → Nat

/-- A 16-bit value the spec gives no value for, at the `n`-th draw (R172 before any take-in). Log 17. -/
opaque freeWord : Nat → Half

/-- The 16-bit notice value of a quantity that does not fit 16 bits (R187). Log 16. -/
opaque narrow : Int → Half

/-- The value reported for a frequency that is not valid (R175, R186). Log 18. -/
opaque invalidFrequency : Nat → Half

/-- How an `unsanctioned` byte other than 0 and 1 in a FORCED body is taken (R198). Log 28. -/
opaque unstatedMark : Byte → Bool

end Sys2Proof.Config
end

