-- ==== Sys2Proof/Machine/State.lean ====
section
/-! DEFINITION. The state of the block as plain data: every piece of state the spec gives it
(INVENTORY.md, '## State', gives the rule and the reset value of each field). -/

namespace Sys2Proof.Machine

/-! ### Names of the start-up controller (R190 to R195) -/

/-- The four states of the start-up controller (R190). -/
inductive StartState where
  | loading
  | configFault
  | startWindow
  | joined
  deriving DecidableEq, Repr

/-- Why CONFIG_FAULT was entered (R191). -/
inductive FaultReason where
  | noAck
  | badSum
  | badVersion
  | fieldRange
  deriving DecidableEq, Repr

/-- The ten parameters of one string (R4). -/
structure StringParams where
  n : Nat
  cRated : Nat
  lDesign : Nat
  nCyc : Nat
  eta : Nat
  warn : Nat
  endSoh : Nat
  endVoltage : Nat
  stepThreshold : Nat
  dischThreshold : Nat
  deriving DecidableEq, Repr

/-- The loaded configuration (R195). `strings` holds the parameter blocks below `stringCount`. -/
structure Image where
  version : Nat
  station : Nat
  quorum : Nat
  statusPeriod : Nat
  claimTimeout : Nat
  retryLimit : Nat
  startWindow : Nat
  hostTimeout : Nat
  syncTimeout : Nat
  pRated : Nat
  bypNominal : Nat
  band : Nat
  syncWindow : Nat
  slipMax : Nat
  confirmTimeout : Nat
  retransferDelay : Nat
  reservePct : Nat
  autonomyMin : Nat
  exposurePct : Nat
  stringCount : Nat
  strings : List StringParams
  deriving DecidableEq, Repr

/-- The start-up controller (R190 to R193). -/
structure StartUp where
  state : StartState
  attempt : Nat
  readSince : Option Nat
  retryAt : Option Nat
  reason : Option FaultReason
  fieldIndex : Nat
  windowEnds : Option Nat
  deriving DecidableEq, Repr

/-! ### The string ageing unit (R3 to R50) -/

/-- State of a string (R5, R7). -/
inductive StringState where
  | inService
  | test
  | isolated
  deriving DecidableEq, Repr

/-- Health class of a string (R24). -/
inductive HealthClass where
  | good
  | worn
  | ended
  deriving DecidableEq, Repr

/-- Verdict of a test discharge (R36). -/
inductive Verdict where
  | pass
  | failVoltage
  | inconclusive
  | abortedHost
  | abortedDeficit
  | abortedStale
  | abortedBypass
  deriving DecidableEq, Repr

/-- The four causes of an aborted or given-up test (R41, R45). -/
inductive AbortCause where
  | host
  | deficit
  | stale
  | bypass
  deriving DecidableEq, Repr

/-- The record of the last test discharge of a string (R36). -/
structure LastTest where
  startMs : Nat
  socStart : Nat
  target : Nat
  limitMin : Nat
  delivered : Nat
  verdict : Option Verdict
  endMs : Option Nat
  kappa : Option Nat
  deriving DecidableEq, Repr

/-- The capture baseline of a string: the previous take-in's sample (R31). -/
structure Baseline where
  voltage : Nat
  current : Int
  valid : Bool
  state : StringState
  deriving DecidableEq, Repr

/-- One string record (R5), with its capture baseline (R31). -/
structure StringRec where
  state : StringState
  cls : HealthClass
  ageUnknown : Bool
  unmeasured : Bool
  tempSuspect : Bool
  q : Nat
  rem : Nat
  qFull : Nat
  soc : Nat
  aCal : Nat
  tDah : Nat
  tRem : Nat
  deepCount : Nat
  dischEvents : Nat
  dischSeconds : Nat
  dischMs : Nat
  iRef : Int
  tSum : Int
  tN : Nat
  tLast : Int
  daySum : Nat
  fDay : Nat
  u : Nat
  rho : Nat
  soh : Nat
  eUsable : Nat
  eAvail : Nat
  daysLeft : Nat
  resList : List Nat
  rRef : Option Nat
  testCap : Option Nat
  lastTest : Option LastTest
  captureRejects : Nat
  loaded : Bool
  baseline : Option Baseline
  deriving DecidableEq, Repr

/-- State of the test job (R36). -/
inductive JobState where
  | idle
  | claiming
  | running
  deriving DecidableEq, Repr

/-- The test job (R36). `k`, `target` and `limitMin` are held outside IDLE. -/
structure TestJob where
  state : JobState
  k : Nat
  target : Nat
  limitMin : Nat
  givenUp : Option AbortCause
  limitAt : Option Nat
  deriving DecidableEq, Repr

/-- The tick count of the day and the local time of the next ageing tick (R16). -/
structure Ticks where
  count : Nat
  nextAt : Option Nat
  deriving DecidableEq, Repr

/-! ### The floor view unit (R51 to R70) -/

/-- Scope of a withdrawal or a visit (R72). -/
inductive Scope where
  | cabinet
  | string (k : Nat)
  deriving DecidableEq, Repr

/-- Kind of a withdrawal (R72). -/
inductive WKind where
  | bypass
  | maint
  | test
  | service
  deriving DecidableEq, Repr

/-- State of a peer view entry (R51). -/
inductive EntryState where
  | absent
  | present
  | stale
  | lost
  deriving DecidableEq, Repr

/-- The nine station flags (R52, R198). -/
structure StationFlags where
  hostStale : Bool
  unsupervised : Bool
  deficit : Bool
  onBypass : Bool
  maint : Bool
  visitOpen : Bool
  visitOverdue : Bool
  visitLong : Bool
  ageUnknown : Bool
  deriving DecidableEq, Repr

/-- State of a string as reported: NONE beside the three states of R5 (R52). -/
inductive ReportState where
  | inService
  | test
  | isolated
  | none
  deriving DecidableEq, Repr

/-- One string report of a view entry (R52). -/
structure StringReport where
  state : ReportState
  cls : HealthClass
  ageUnknown : Bool
  unmeasured : Bool
  tempSuspect : Bool
  eAvail : Nat
  deriving DecidableEq, Repr

/-- Overdue level of a visit (R122). -/
inductive OverdueLevel where
  | none
  | overdue
  | long
  deriving DecidableEq, Repr

/-- The STATUS core: what a STATUS and a CLAIM both carry of their origin (R54, R150). -/
structure StatusCore where
  period : Nat
  flags : StationFlags
  pAvail : Nat
  load : Nat
  strings : List StringReport
  reserve : Nat
  autonomy : Nat
  exposure : Nat
  deriving DecidableEq, Repr

/-- One entry of the peer view table (R52). -/
structure PeerEntry where
  state : EntryState
  lastSeq : Nat
  seqOpen : Bool
  age : Nat
  core : StatusCore
  claimInFlight : Option Nat
  visitScope : Option Scope
  overdue : OverdueLevel
  deriving DecidableEq, Repr

/-- The margin state (R67). -/
inductive Margin where
  | normal
  | deficit
  deriving DecidableEq, Repr

/-- The floor totals of a view (R65). -/
structure Totals where
  c : Nat
  l : Nat
  d : Nat
  x : Nat
  e : Nat
  deriving DecidableEq, Repr

/-- What the last evaluation of the margin state formed (R65, R66). -/
structure Figures where
  totals : Totals
  headroom : Int
  runtime : Nat
  exposedBp : Nat
  capacityOk : Bool
  energyOk : Bool
  exposureOk : Bool
  deriving DecidableEq, Repr

/-- The floor view unit. `peers` holds sixteen entries, station 1 first. -/
structure View where
  peers : List PeerEntry
  seq : Nat
  statusAt : Option Nat
  margin : Margin
  duplicate : Bool
  figures : Figures
  deriving DecidableEq, Repr

/-! ### The claim unit (R71 to R97) -/

/-- One entry of the withdrawal list (R71). -/
structure Withdrawal where
  owner : Nat
  claimId : Nat
  kind : WKind
  scope : Scope
  active : Bool
  forced : Bool
  unsanctioned : Bool
  planned : Option Nat
  enteredMs : Nat
  overdue : Bool
  deriving DecidableEq, Repr

/-- Who asks the claim unit (R75). -/
inductive Requester where
  | sequencer
  | ageing
  | visit
  deriving DecidableEq, Repr

/-- The request the claim slot holds outside FREE (R75). `lastId` is the claim id of the last CLAIM
sent for it (log 27). -/
structure Request where
  requester : Requester
  kind : WKind
  scope : Scope
  planned : Nat
  retries : Nat
  givenUp : Bool
  lastId : Nat
  deriving DecidableEq, Repr

/-- The claim slot (R75). -/
inductive Slot where
  | free
  | inFlight (req : Request) (claimId tag expiresAt : Nat)
  | retryWait (req : Request) (retryAt : Nat)
  deriving DecidableEq, Repr

/-- The claim unit (R71 to R75). -/
structure Claims where
  list : List Withdrawal
  lastId : Nat
  lost : Nat
  incomplete : Bool
  slot : Slot
  deriving DecidableEq, Repr

/-! ### The transfer sequencer (R98 to R121) -/

/-- State of the transfer sequencer (R101). -/
inductive SeqState where
  | online
  | syncWait
  | claiming
  | transferOut
  | onBypass
  | forced
  | latched
  | maint
  | transferIn
  deriving DecidableEq, Repr

/-- Direction of a transfer (R105). -/
inductive Direction where
  | out
  | into
  deriving DecidableEq, Repr

/-- Mode of a transfer (R105). -/
inductive XferMode where
  | sync
  | brk
  deriving DecidableEq, Repr

/-- The transfer timer (R105). -/
structure XferTimer where
  dir : Direction
  mode : XferMode
  held : Bool
  since : Nat
  expiresAt : Nat
  deriving DecidableEq, Repr

/-- Start-window position of the cabinet (R119). -/
inductive Found where
  | inverter
  | bypass
  | maintBypass
  deriving DecidableEq, Repr

/-- The transfer sequencer (R101). -/
structure Sequencer where
  state : SeqState
  prior : Option SeqState
  planned : Option Nat
  pending : Bool
  superseded : Bool
  syncAt : Option Nat
  xfer : Option XferTimer
  retransferAt : Option Nat
  history : List Nat
  found : Found
  bypOk : Bool
  deriving DecidableEq, Repr

/-! ### The phase capture unit (R175 to R178) -/

/-- What the unit holds for one zero-crossing line (R175). `freq` is the valid frequency in 0.01 Hz,
or none while it is invalid. -/
structure ZcLine where
  tLast : Option Nat
  period : Option Nat
  wraps : Nat
  freq : Option Nat
  deriving DecidableEq, Repr

/-- The phase capture unit (R175 to R178). Its counter is `State.us` modulo 65536. -/
structure Phase where
  inv : ZcLine
  byp : ZcLine
  angle : Int
  lock : Nat
  deriving DecidableEq, Repr

/-! ### The visit unit (R122 to R142) -/

/-- Kind of an action in a visit (R123). -/
inductive ActionKind where
  | isolated
  | replaced
  | restored
  | note
  | maintEntered
  | maintLeft
  deriving DecidableEq, Repr

/-- One action of a visit (R123). -/
structure VisitAction where
  kind : ActionKind
  string : Option Nat
  ms : Nat
  value : Nat
  deriving DecidableEq, Repr

/-- The visit record (R122). `admitting` is its state: ADMITTING, or OPEN. -/
structure Visit where
  visitId : Nat
  tech : Nat
  scope : Scope
  planned : Nat
  openedMs : Nat
  admitting : Bool
  givenUp : Bool
  overdue : OverdueLevel
  actions : List VisitAction
  actionsLost : Bool
  keyOut : Bool
  deriving DecidableEq, Repr

/-- Final outcome of a claim (R87). -/
inductive ClaimOutcome where
  | granted
  | objected
  | marginLocal
  | contended
  | unheard
  | lost
  | abandoned
  | refused
  deriving DecidableEq, Repr

/-- One record of the visit history (R124): outcome CLOSED where `admission` is absent, and
NOT_ADMITTED with the claim's final outcome and the cancelled mark where it is present. -/
structure ClosedVisit where
  visit : Visit
  closedMs : Nat
  admission : Option (ClaimOutcome × Bool)
  deriving DecidableEq, Repr

/-- The visit unit (R122). -/
structure Visits where
  current : Option Visit
  history : List ClosedVisit
  counter : Nat
  deriving DecidableEq, Repr

/-! ### The measurement intake and the host watchdog (R164 to R174) -/

/-- Role of a measurement buffer (R165). -/
inductive BufferRole where
  | free
  | writing
  | ready
  | inUse
  deriving DecidableEq, Repr

/-- One measurement buffer (R165). -/
structure Buffer where
  role : BufferRole
  bytes : List Byte
  deriving DecidableEq, Repr

/-- The held sample and the hold count of one string index (R168, R169). -/
structure Hold where
  voltage : Nat
  current : Int
  temperature : Int
  count : Nat
  deriving DecidableEq, Repr

/-- The measurement intake (R165 to R170). -/
structure Intake where
  buffers : List Buffer
  lastCounter : Option Nat
  lastTakeMs : Option Nat
  inUseSince : Option Nat
  pAvail : Nat
  load : Nat
  vBypass : Nat
  holds : List Hold
  skipped : Nat
  repeated : Nat
  short : Nat
  baselineNext : Bool
  deriving DecidableEq, Repr

/-- Stage of the host watchdog (R171). -/
inductive DogStage where
  | off
  | watching
  | hostStale
  | unsupervised
  deriving DecidableEq, Repr

/-- The host watchdog (R171). -/
structure Watchdog where
  stage : DogStage
  expiresAt : Option Nat
  deriving DecidableEq, Repr

/-! ### The host port (R179 to R189) -/

/-- Reply codes (R183); `none` is the code of the empty reply. -/
inductive ReplyCode where
  | none
  | ok
  | accepted
  | busy
  | badState
  | badArg
  | stale
  | notJoined
  | refused
  | mismatch
  | full
  deriving DecidableEq, Repr

/-- A reply record (R183, R197). -/
structure Reply where
  cmd : Byte
  seq : Byte
  code : ReplyCode
  result : List Byte
  deriving DecidableEq, Repr

/-- The notice kinds in the order of section 9.5 (R196). -/
inductive NoticeKind where
  | stringClass
  | testStarted
  | testDenied
  | testEnd
  | peerState
  | policyMismatch
  | duplicateStation
  | deficitEnter
  | deficitLeave
  | viewFull
  | withdrawalOverdue
  | syncFail
  | transferResult
  | transferDone
  | transferFault
  | forcedBypass
  | bypassLatched
  | autoRetransfer
  | unexpectedReturn
  | unsanctionedMaint
  | visitOpened
  | visitNotAdmitted
  | visitClosed
  | visitOverdue
  | visitLong
  | keyRemoved
  | keyReturned
  | peerVisitLong
  | linkUp
  | linkDown
  | hostStale
  | unsupervised
  | hostBack
  deriving DecidableEq, Repr

/-- A notice record (R187). -/
structure Notice where
  kind : NoticeKind
  subject : Half
  v1 : Half
  v2 : Half
  v3 : Half
  time : BitVec 32
  deriving DecidableEq, Repr

/-- The command slot (R181). A pending record keeps the microsecond of its CMD_WRITE. -/
inductive CmdSlot where
  | empty
  | pending (record : List Byte) (since : Nat)
  | replied (reply : Reply)
  deriving DecidableEq, Repr

/-- The status word as captured (R189). -/
structure StatusWord where
  start : Byte
  slot : Byte
  conditions : BitVec 16
  top : Byte
  count : Byte
  overflow : Nat
  deriving DecidableEq, Repr

/-- An open transaction and what it captured at its kind byte (R180). -/
inductive Txn where
  | measWrite (buffer : Option Nat)
  | cmdWrite
  | replyRead (captured : Option Reply)
  | noticeRead (captured : Option Notice)
  | statusRead (captured : StatusWord)
  deriving DecidableEq, Repr

/-- The host port (R179 to R189). `shifted` is the record the last read to end shifted out, and empty
after a transaction that named no kind; what the data output reads is `HostPort.dataOut` (R179; log 7). -/
structure HostPort where
  slot : CmdSlot
  notices : List Notice
  overflow : Nat
  irq : Bool
  rejected : Nat
  bad : Nat
  txn : Option Txn
  shifted : List Byte
  resetAt : Option Nat
  resetNow : Bool
  deriving DecidableEq, Repr

/-! ### The loop ports (R143 to R163) -/

/-- The five frame kinds (R149). -/
inductive FrameKind where
  | status
  | claim
  | grant
  | drop
  | forced
  deriving DecidableEq, Repr

/-- A frame in transmission: its bytes, the tag where it is an own frame, and the microsecond at
which the frame and its idle symbol have been sent (R160, log 11). -/
structure Transmission where
  bytes : List Byte
  ownTag : Option Nat
  doneAt : Nat
  deriving DecidableEq, Repr

/-- One loop port (R144 to R148, R160, R163). `completed` holds frames assembled and not yet
handled (log 10). -/
structure PortState where
  up : Bool
  hearing : Nat
  run : Nat
  symErr : Nat
  frmErr : Nat
  lost : Nat
  circ : Nat
  overruns : Nat
  rx : Option (List Byte)
  completed : List (List Byte)
  fwd : List (List Byte)
  tx : Option Transmission
  deriving DecidableEq, Repr

/-- A frame of the own transmit queue (R159); `claimId` is 0 where it is no CLAIM. -/
structure OwnFrame where
  kind : FrameKind
  tag : Nat
  claimId : Nat
  bytes : List Byte
  deriving DecidableEq, Repr

/-- An own frame in flight (R157). -/
structure Flight where
  tag : Nat
  kind : FrameKind
  claimId : Nat
  sentMs : Nat
  deriving DecidableEq, Repr

/-- The loop ports (R157 to R163). -/
structure LoopPorts where
  a : PortState
  b : PortState
  queue : List OwnFrame
  inFlight : List Flight
  tagCounter : Nat
  ownDrops : Nat
  deriving DecidableEq, Repr

/-! ### Lines -/

/-- Levels of the lines into the part (R99, R133, R162). -/
structure Pins where
  resetN : Bool
  ssFb : Bool
  mbsClosed : Bool
  invOk : Bool
  keyOn : Bool
  deriving DecidableEq, Repr

/-- Levels of the lines to the power stage and the UNSUPERVISED line (R98, R36, R171). -/
structure Lines where
  xferByp : Bool
  xferInv : Bool
  mbsPermit : Bool
  dischReq : Bool
  unsupervised : Bool
  deriving DecidableEq, Repr

/-! ### The whole -/

/-- The state of the block. `pending`, `freeCount` and `statusDue` are the model's own fields. -/
structure State where
  pending : List Instr
  freeCount : Nat
  statusDue : Bool
  us : Nat
  power : Bool
  pins : Pins
  outs : Lines
  startup : StartUp
  image : Option Image
  strings : List StringRec
  job : TestJob
  ticks : Ticks
  view : View
  claims : Claims
  seq : Sequencer
  phase : Phase
  visit : Visits
  intake : Intake
  dog : Watchdog
  host : HostPort
  loop : LoopPorts
  deriving DecidableEq, Repr

/-- Reasons a step can fault. The spec gives the block no event after which it stops, so there is
none. -/
inductive Fault where
  deriving DecidableEq, Repr

/-- Reasons a step can be refused. -/
inductive Refusal where
  /-- Raised by `exec` alone, for a row that has no meaning yet. Safe. -/
  | notModelled (mnemonic : String)
  deriving DecidableEq, Repr

/-! ### Values at reset -/

/-- No station flag set. -/
def StationFlags.clear : StationFlags :=
  ⟨false, false, false, false, false, false, false, false, false⟩

/-- The report of an index with no string (R3). -/
def StringReport.blank : StringReport := ⟨.none, .good, false, false, false, 0⟩

/-- The reset values of a view entry's STATUS core (R52). -/
def StatusCore.blank : StatusCore :=
  ⟨1000, StationFlags.clear, 0, 0,
    [StringReport.blank, StringReport.blank, StringReport.blank, StringReport.blank], 0, 0, 0⟩

/-- The reset values of a view entry (R52). -/
def PeerEntry.blank : PeerEntry := ⟨.absent, 0, false, 0, StatusCore.blank, none, none, .none⟩

/-- The figures before the first evaluation (log 25). -/
def Figures.blank : Figures := ⟨⟨0, 0, 0, 0, 0⟩, 0, 0, 0, false, false, false⟩

/-- A loop port at reset: DOWN, every count 0, nothing held (R162). -/
def PortState.blank : PortState := ⟨false, 0, 0, 0, 0, 0, 0, 0, none, [], [], none⟩

/-- A zero-crossing line at reset (R175). -/
def ZcLine.blank : ZcLine := ⟨none, none, 0, none⟩

/-- A held sample at reset (R168). -/
def Hold.blank : Hold := ⟨0, 0, 200, 0⟩

/-- The test job at reset (R36). -/
def TestJob.blank : TestJob := ⟨.idle, 0, 0, 0, none, none⟩

/-- The machine right after reset: powered, RESET_N high, LOADING with the first read attempt under
way, every block in its reset state (R190). The levels of the other input lines are log 1. -/
def State.reset : State where
  pending := []
  freeCount := 0
  statusDue := false
  us := 0
  power := true
  pins := ⟨true, false, false, false, false⟩
  outs := ⟨false, false, false, false, false⟩
  startup := ⟨.loading, 1, some 0, none, none, 0, none⟩
  image := none
  strings := []
  job := TestJob.blank
  ticks := ⟨0, none⟩
  view := ⟨List.replicate 16 PeerEntry.blank, 0, none, .normal, false, Figures.blank⟩
  claims := ⟨[], 0, 0, false, .free⟩
  seq := ⟨.online, none, none, false, false, none, none, none, [], .inverter, false⟩
  phase := ⟨ZcLine.blank, ZcLine.blank, 0, 0⟩
  visit := ⟨none, [], 0⟩
  intake := ⟨[⟨.free, []⟩, ⟨.free, []⟩, ⟨.free, []⟩], none, none, none, 0, 0, 0,
    [Hold.blank, Hold.blank, Hold.blank, Hold.blank], 0, 0, 0, false⟩
  dog := ⟨.off, none⟩
  host := ⟨.empty, [], 0, false, 0, 0, none, [], none, false⟩
  loop := ⟨PortState.blank, PortState.blank, [], [], 0, 0⟩

/-! ### One update for each field -/

/-- `s` with another `pending`. -/
def State.withPending (s : State) (x : List Instr) : State := { s with pending := x }

/-- `s` with another `freeCount`. -/
def State.withFreeCount (s : State) (x : Nat) : State := { s with freeCount := x }

/-- `s` with another `statusDue`. -/
def State.withStatusDue (s : State) (x : Bool) : State := { s with statusDue := x }

/-- `s` with another `us`. -/
def State.withUs (s : State) (x : Nat) : State := { s with us := x }

/-- `s` with another `power`. -/
def State.withPower (s : State) (x : Bool) : State := { s with power := x }

/-- `s` with another `pins`. -/
def State.withPins (s : State) (x : Pins) : State := { s with pins := x }

/-- `s` with another `outs`. -/
def State.withOuts (s : State) (x : Lines) : State := { s with outs := x }

/-- `s` with another `startup`. -/
def State.withStartup (s : State) (x : StartUp) : State := { s with startup := x }

/-- `s` with another `image`. -/
def State.withImage (s : State) (x : Option Image) : State := { s with image := x }

/-- `s` with another `strings`. -/
def State.withStrings (s : State) (x : List StringRec) : State := { s with strings := x }

/-- `s` with another `job`. -/
def State.withJob (s : State) (x : TestJob) : State := { s with job := x }

/-- `s` with another `ticks`. -/
def State.withTicks (s : State) (x : Ticks) : State := { s with ticks := x }

/-- `s` with another `view`. -/
def State.withView (s : State) (x : View) : State := { s with view := x }

/-- `s` with another `claims`. -/
def State.withClaims (s : State) (x : Claims) : State := { s with claims := x }

/-- `s` with another `seq`. -/
def State.withSeq (s : State) (x : Sequencer) : State := { s with seq := x }

/-- `s` with another `phase`. -/
def State.withPhase (s : State) (x : Phase) : State := { s with phase := x }

/-- `s` with another `visit`. -/
def State.withVisit (s : State) (x : Visits) : State := { s with visit := x }

/-- `s` with another `intake`. -/
def State.withIntake (s : State) (x : Intake) : State := { s with intake := x }

/-- `s` with another `dog`. -/
def State.withDog (s : State) (x : Watchdog) : State := { s with dog := x }

/-- `s` with another `host`. -/
def State.withHost (s : State) (x : HostPort) : State := { s with host := x }

/-- `s` with another `loop`. -/
def State.withLoop (s : State) (x : LoopPorts) : State := { s with loop := x }

end Sys2Proof.Machine
end

