-- ==== Sys2Proof/Machine/Operands.lean ====
section
/-! DEFINITION. Byte layouts and codes: reading and writing the fields of the configuration image,
the measurement frame, the command record, the loop frames and the reply results (R195 to R202). -/

namespace Sys2Proof.Machine

/-! ### Bytes (R196: least significant byte first, two's complement) -/

/-- The unsigned byte at offset `i`. -/
def byteAt (l : List Byte) (i : Nat) : Nat := (l.getD i 0#8).toNat

/-- The unsigned 16-bit field at offset `i`. -/
def u16At (l : List Byte) (i : Nat) : Nat := byteAt l i + 256 * byteAt l (i + 1)

/-- The unsigned 32-bit field at offset `i`. -/
def u32At (l : List Byte) (i : Nat) : Nat := u16At l i + 65536 * u16At l (i + 2)

/-- The signed 16-bit field at offset `i`. -/
def s16At (l : List Byte) (i : Nat) : Int := (BitVec.ofNat 16 (u16At l i)).toInt

/-- One byte. -/
def le8 (n : Nat) : List Byte := [BitVec.ofNat 8 n]

/-- Two bytes. -/
def le16 (n : Nat) : List Byte := [BitVec.ofNat 8 n, BitVec.ofNat 8 (n / 256)]

/-- Four bytes. -/
def le32 (n : Nat) : List Byte := le16 n ++ le16 (n / 65536)

/-- Two bytes of a signed value. -/
def leInt16 (i : Int) : List Byte := le16 (BitVec.ofInt 16 i).toNat

/-- One byte for a mark or a yes/no result: 1 for set, yes or pass, 0 for clear, no or fail (a FORCED body's
mark as R198 gives it; in replies DESIGN CHOICE, log 42). -/
def leMark (b : Bool) : List Byte := [if b then 1#8 else 0#8]

/-- An optional field: presence byte, then its bytes, zeros of the same number when absent (R196). -/
def leOpt {α : Type} (width : Nat) (f : α → List Byte) : Option α → List Byte
  | none => 0#8 :: List.replicate width 0#8
  | some x => 1#8 :: f x

/-- A list field: a count byte, then its entries (R197). -/
def leList {α : Type} (f : α → List Byte) (l : List α) : List Byte := le8 l.length ++ l.flatMap f

/-- The value of a mark at bit `n` of a set of flags. -/
def bitIf (b : Bool) (n : Nat) : Nat := if b then 2 ^ n else 0

/-! ### Codes (R196, R198, R202; log 14) -/

/-- Kind of a withdrawal (R198). -/
def WKind.code : WKind → Nat
  | .bypass => 1
  | .maint => 2
  | .test => 3
  | .service => 4

/-- Scope code (R198). -/
def Scope.code : Scope → Nat
  | .cabinet => 1
  | .string k => 4 + k

/-- Kind-and-scope byte (R198). -/
def kindScopeCode (k : WKind) (c : Scope) : Nat := 16 * k.code + c.code

/-- The scope a scope code names, if it names one (R198). -/
def scopeOf (n : Nat) : Option Scope :=
  if n = 1 then some .cabinet else if 4 ≤ n ∧ n ≤ 7 then some (.string (n - 4)) else none

/-- The kind a kind code names, if it names one (R198). -/
def kindOf (n : Nat) : Option WKind :=
  if n = 1 then some .bypass else if n = 2 then some .maint
  else if n = 3 then some .test else if n = 4 then some .service else none

/-- Whether a kind pairs with a scope (R72). -/
def pairs : WKind → Scope → Bool
  | .bypass, .cabinet => true
  | .maint, .cabinet => true
  | .test, .string _ => true
  | .service, .string _ => true
  | .bypass, .string _ => false
  | .maint, .string _ => false
  | .test, .cabinet => false
  | .service, .cabinet => false

/-- The kind and scope a kind-and-scope byte carries, where the pair is one of R72. -/
def kindScopeOf (n : Nat) : Option (WKind × Scope) :=
  match kindOf (n / 16 % 8), scopeOf (n % 8) with
  | some k, some c => if pairs k c then some (k, c) else none
  | _, _ => none

/-- State of a reported string (R198). -/
def ReportState.code : ReportState → Nat
  | .inService => 0
  | .test => 1
  | .isolated => 2
  | .none => 3

/-- The report state of a two-bit code (R198). -/
def reportStateOf (n : Nat) : ReportState :=
  if n = 0 then .inService else if n = 1 then .test else if n = 2 then .isolated else .none

/-- State of a string as it is reported (R3, R52). -/
def StringState.report : StringState → ReportState
  | .inService => .inService
  | .test => .test
  | .isolated => .isolated

/-- Health class (R198). -/
def HealthClass.code : HealthClass → Nat
  | .good => 0
  | .worn => 1
  | .ended => 2

/-- The class of a two-bit code (R198; 3 fails the content check of R149). -/
def classOf (n : Nat) : HealthClass := if n = 0 then .good else if n = 1 then .worn else .ended

/-- Overdue level (R202). -/
def OverdueLevel.code : OverdueLevel → Nat
  | .none => 0
  | .overdue => 1
  | .long => 2

/-- The overdue level of a code (R202). -/
def overdueOf (n : Nat) : OverdueLevel :=
  if n = 0 then .none else if n = 1 then .overdue else .long

/-- Scope of a visit in a STATUS: 0 for none (R198). -/
def visitScopeCode : Option Scope → Nat
  | none => 0
  | some c => c.code

/-- Start-up state (R199). -/
def StartState.code : StartState → Nat
  | .loading => 1
  | .configFault => 2
  | .startWindow => 3
  | .joined => 4

/-- Reason of CONFIG_FAULT, in the order R191 names them (R196). -/
def FaultReason.code : FaultReason → Nat
  | .noAck => 1
  | .badSum => 2
  | .badVersion => 3
  | .fieldRange => 4

/-- Sequencer state, in the order of the table of R101 (R196). -/
def SeqState.code : SeqState → Nat
  | .online => 1
  | .syncWait => 2
  | .claiming => 3
  | .transferOut => 4
  | .onBypass => 5
  | .forced => 6
  | .latched => 7
  | .maint => 8
  | .transferIn => 9

/-- Margin state (R67, R196). -/
def Margin.code : Margin → Nat
  | .normal => 1
  | .deficit => 2

/-- View entry state, in the order of the table of R51 (R196). -/
def EntryState.code : EntryState → Nat
  | .absent => 1
  | .present => 2
  | .stale => 3
  | .lost => 4

/-- Verdict of a test, in the order of R36 (R196). -/
def Verdict.code : Verdict → Nat
  | .pass => 1
  | .failVoltage => 2
  | .inconclusive => 3
  | .abortedHost => 4
  | .abortedDeficit => 5
  | .abortedStale => 6
  | .abortedBypass => 7

/-- The verdict a cause gives a running test (R45). -/
def AbortCause.verdict : AbortCause → Verdict
  | .host => .abortedHost
  | .deficit => .abortedDeficit
  | .stale => .abortedStale
  | .bypass => .abortedBypass

/-- The cause as third value of TEST_DENIED (R202). -/
def AbortCause.code : AbortCause → Nat
  | .host => 14
  | .deficit => 15
  | .stale => 16
  | .bypass => 17

/-- Watchdog stage, in the order of R171 (R196). -/
def DogStage.code : DogStage → Nat
  | .off => 1
  | .watching => 2
  | .hostStale => 3
  | .unsupervised => 4

/-- Port (R145, R196). -/
def portCode : Port → Nat
  | .a => 1
  | .b => 2

/-- Port state: UP 1, DOWN 2 (R196). -/
def upCode (up : Bool) : Nat := if up then 1 else 2

/-- Direction of a transfer (R105, R196). -/
def Direction.code : Direction → Nat
  | .out => 1
  | .into => 2

/-- Mode of a transfer (R105, R196). -/
def XferMode.code : XferMode → Nat
  | .sync => 1
  | .brk => 2

/-- Kind of a visit action (R123, R196). -/
def ActionKind.code : ActionKind → Nat
  | .isolated => 1
  | .replaced => 2
  | .restored => 3
  | .note => 4
  | .maintEntered => 5
  | .maintLeft => 6

/-- Final outcome of a claim (R202). -/
def ClaimOutcome.code : ClaimOutcome → Nat
  | .granted => 1
  | .objected => 2
  | .marginLocal => 3
  | .contended => 4
  | .unheard => 5
  | .lost => 6
  | .abandoned => 7
  | .refused => 8

/-- Reply codes (R183, R196). -/
def ReplyCode.code : ReplyCode → Nat
  | .none => 0
  | .ok => 1
  | .accepted => 2
  | .busy => 3
  | .badState => 4
  | .badArg => 5
  | .stale => 6
  | .notJoined => 7
  | .refused => 8
  | .mismatch => 9
  | .full => 10

/-- Notice kinds, STRING_CLASS 1 to HOST_BACK 33 (R196). -/
def NoticeKind.code : NoticeKind → Nat
  | .stringClass => 1
  | .testStarted => 2
  | .testDenied => 3
  | .testEnd => 4
  | .peerState => 5
  | .policyMismatch => 6
  | .duplicateStation => 7
  | .deficitEnter => 8
  | .deficitLeave => 9
  | .viewFull => 10
  | .withdrawalOverdue => 11
  | .syncFail => 12
  | .transferResult => 13
  | .transferDone => 14
  | .transferFault => 15
  | .forcedBypass => 16
  | .bypassLatched => 17
  | .autoRetransfer => 18
  | .unexpectedReturn => 19
  | .unsanctionedMaint => 20
  | .visitOpened => 21
  | .visitNotAdmitted => 22
  | .visitClosed => 23
  | .visitOverdue => 24
  | .visitLong => 25
  | .keyRemoved => 26
  | .keyReturned => 27
  | .peerVisitLong => 28
  | .linkUp => 29
  | .linkDown => 30
  | .hostStale => 31
  | .unsupervised => 32
  | .hostBack => 33

/-- Transaction kind bytes (R199). -/
def TxnKind.byte : TxnKind → Byte
  | .measWrite => 0x0A#8
  | .cmdWrite => 0x0C#8
  | .replyRead => 0x0D#8
  | .noticeRead => 0x0E#8
  | .statusRead => 0x0F#8

/-- Frame kind bytes (R198). -/
def FrameKind.byte : FrameKind → Byte
  | .status => 0x41#8
  | .claim => 0x42#8
  | .grant => 0x43#8
  | .drop => 0x44#8
  | .forced => 0x45#8

/-- The frame kind a first byte names, if it names one (R198). -/
def frameKindOf (n : Nat) : Option FrameKind :=
  if n = 0x41 then some .status else if n = 0x42 then some .claim
  else if n = 0x43 then some .grant else if n = 0x44 then some .drop
  else if n = 0x45 then some .forced else none

/-- Reasons of a refusal or an objection (R202). -/
inductive Reason where
  | capacity
  | energy
  | exposure
  | deficit
  | viewFull
  | duplicate
  | contended
  | isolated
  | quorum
  deriving DecidableEq, Repr

/-- Code of a reason (R202). -/
def Reason.code : Reason → Nat
  | .capacity => 1
  | .energy => 2
  | .exposure => 3
  | .deficit => 4
  | .viewFull => 5
  | .duplicate => 6
  | .contended => 7
  | .isolated => 8
  | .quorum => 9

/-- Reason CANCELLED (R202). -/
def codeCancelled : Nat := 12

/-- Reason STRING_UNFIT (R202). -/
def codeStringUnfit : Nat := 13

/-! ### The configuration image (R195, R201) -/

/-- The parameter block of string `k` (R201). -/
def paramsOf (b : List Byte) (k : Nat) : StringParams :=
  let o := 25 + 17 * k
  ⟨byteAt b o, u16At b (o + 1), u16At b (o + 3), u16At b (o + 5), byteAt b (o + 7),
    u16At b (o + 8), u16At b (o + 10), u16At b (o + 12), u16At b (o + 14), byteAt b (o + 16)⟩

/-- The configuration an image holds (R201). -/
def imageOf (b : List Byte) : Image where
  version := byteAt b 0
  station := byteAt b 1
  quorum := byteAt b 2
  statusPeriod := u16At b 3
  claimTimeout := byteAt b 5
  retryLimit := byteAt b 6
  startWindow := u16At b 7
  hostTimeout := u16At b 9
  syncTimeout := byteAt b 11
  pRated := u16At b 12
  bypNominal := u16At b 14
  band := byteAt b 16
  syncWindow := byteAt b 17
  slipMax := byteAt b 18
  confirmTimeout := byteAt b 19
  retransferDelay := byteAt b 20
  reservePct := byteAt b 21
  autonomyMin := byteAt b 22
  exposurePct := byteAt b 23
  stringCount := byteAt b 24
  strings := (List.range (min 4 (byteAt b 24))).map (paramsOf b)

/-- `lo ≤ v ≤ hi`. -/
def inRange (v lo hi : Nat) : Bool := Nat.ble lo v && Nat.ble v hi

/-- The ten range checks of string `k`, with their field indices (R4, R191, R195). -/
def paramChecks (k : Nat) (p : StringParams) : List (Nat × Bool) :=
  let i := 20 + 10 * k
  [(i + 1, inRange p.n 6 48), (i + 2, inRange p.cRated 10 1000),
   (i + 3, inRange p.lDesign 365 7300), (i + 4, inRange p.nCyc 100 5000),
   (i + 5, inRange p.eta 80 100), (i + 6, inRange p.warn 7000 9900),
   (i + 7, inRange p.endSoh 6000 9800 && Nat.blt p.endSoh p.warn),
   (i + 8, inRange p.endVoltage 900 1150), (i + 9, inRange p.stepThreshold 50 2000),
   (i + 10, inRange p.dischThreshold 10 255)]

/-- The range checks of the fields, in the order of the table of R195. -/
def imageChecks (i : Image) : List (Nat × Bool) :=
  [(1, i.version == 1), (2, inRange i.station 1 16), (3, inRange i.quorum 1 16),
   (4, inRange i.statusPeriod 50 1000), (5, inRange i.claimTimeout 10 250),
   (6, inRange i.retryLimit 0 7), (7, inRange i.startWindow 10 300),
   (8, inRange i.hostTimeout 100 5000), (9, inRange i.syncTimeout 2 30),
   (10, inRange i.pRated 10 10000), (11, inRange i.bypNominal 1000 6000),
   (12, inRange i.band 1 20), (13, inRange i.syncWindow 5 200), (14, inRange i.slipMax 10 200),
   (15, inRange i.confirmTimeout 5 200), (16, inRange i.retransferDelay 5 60),
   (17, inRange i.reservePct 0 100), (18, inRange i.autonomyMin 1 240),
   (19, inRange i.exposurePct 0 100), (20, inRange i.stringCount 0 4)]
  ++ ((List.range i.strings.length).zip i.strings).flatMap (fun kp => paramChecks kp.1 kp.2)

/-- A configuration whose every field lies in its range (R195). -/
def Image.inRanges (i : Image) : Bool :=
  (imageChecks i).all (fun c => c.2) && i.strings.length == i.stringCount

/-- The sum of the 96 field bytes, modulo 65536 (R191). -/
def imageSum (b : List Byte) : Nat := ((b.take 96).foldl (fun a x => a + x.toNat) 0) % 65536

/-- The first failure of an image that was read, with the field index (R191). -/
def imageFault (b : List Byte) : Option (FaultReason × Nat) :=
  if imageSum b ≠ u16At b 96 then some (.badSum, 0)
  else if byteAt b 0 ≠ 1 then some (.badVersion, 0)
  else match (imageChecks (imageOf b)).find? (fun c => !c.2) with
    | some c => some (.fieldRange, c.1)
    | none => none

/-! ### The measurement frame (R164, R199) -/

/-- One string sample of a measurement frame (R164). -/
structure Sample where
  valid : Bool
  voltage : Nat
  current : Int
  temperature : Int
  deriving DecidableEq, Repr

/-- A measurement frame (R164). -/
structure MeasFrame where
  counter : Nat
  pAvail : Nat
  load : Nat
  vBypass : Nat
  samples : List Sample
  deriving DecidableEq, Repr

/-- Sample `k` of a written frame (R199). -/
def sampleOf (b : List Byte) (k : Nat) : Sample :=
  ⟨byteAt b (8 + 8 * k) % 2 == 1, u16At b (10 + 8 * k), s16At b (12 + 8 * k), s16At b (14 + 8 * k)⟩

/-- The measurement frame that 40 bytes hold (R199). -/
def measOf (b : List Byte) : MeasFrame :=
  ⟨u16At b 0, u16At b 2, u16At b 4, u16At b 6,
    [sampleOf b 0, sampleOf b 1, sampleOf b 2, sampleOf b 3]⟩

/-! ### The command record (R197, R200) -/

/-- Command code of a record. -/
def cmdCode (r : List Byte) : Nat := byteAt r 0

/-- Argument byte `i` of a record. -/
def arg8 (r : List Byte) (i : Nat) : Nat := byteAt r (2 + i)

/-- Two-byte argument at `i`. -/
def arg16 (r : List Byte) (i : Nat) : Nat := u16At r (2 + i)

/-- Four-byte argument at `i`. -/
def arg32 (r : List Byte) (i : Nat) : Nat := u32At r (2 + i)

/-- Optional four-byte argument whose presence byte stands at `i` (R196). -/
def argOpt32 (r : List Byte) (i : Nat) : Option Nat :=
  if arg8 r i = 0 then none else some (arg32 r (i + 1))

/-- The row of the table that takes a record from the slot (R200). VISIT_ACTION is four rows, one an
action; a record with an action code outside the list is taken by NOTE's (log 6). -/
def takenRow (r : List Byte) : Instr :=
  match cmdCode r with
  | 0x01 => .join
  | 0x02 => .reset
  | 0x03 => .loadAgeing
  | 0x04 => .readString
  | 0x05 => .readFloor
  | 0x06 => .readView
  | 0x07 => .readWithdrawals
  | 0x08 => .forgetStation
  | 0x09 => .readCounters
  | 0x10 => .reqBypass
  | 0x11 => .reqReturn
  | 0x12 => .reqTest
  | 0x13 => .abortTest
  | 0x20 => .openVisit
  | 0x21 =>
    match arg8 r 4 with
    | 1 => .isolate
    | 2 => .replace
    | 3 => .restore
    | _ => .note
  | 0x22 => .closeVisit
  | 0x23 => .readVisit
  | _ => .unknownCommand

/-! ### Loop frames (R149, R198) -/

/-- Origin of a frame. -/
def frOrigin (b : List Byte) : Nat := byteAt b 1

/-- Tag of a frame. -/
def frTag (b : List Byte) : Nat := byteAt b 2

/-- Hop count of a frame. -/
def frHops (b : List Byte) : Nat := byteAt b 3

/-- Visited mask of a frame. -/
def frVisited (b : List Byte) : Nat := u16At b 4

/-- Body length of a frame. -/
def frLength (b : List Byte) : Nat := byteAt b 6

/-- Body byte `i` of a frame. -/
def body8 (b : List Byte) (i : Nat) : Nat := byteAt b (10 + i)

/-- Two-byte body field at `i`. -/
def body16 (b : List Byte) (i : Nat) : Nat := u16At b (10 + i)

/-- Whether a station mask carries station `n` (R196). -/
def maskHas (m n : Nat) : Bool := m.testBit (n - 1)

/-- A station mask with station `n` added (R196). -/
def maskAdd (m n : Nat) : Nat := if maskHas m n then m else m + 2 ^ (n - 1)

/-- The stations of the floor. -/
def stations : List Nat := List.range' 1 16

/-- The number of bits set in a station mask. -/
def maskCount (m : Nat) : Nat := (stations.filter (maskHas m)).length

/-- The exclusive-or of every byte: the check byte (R148). -/
def checkByte (b : List Byte) : Byte := b.foldl (· ^^^ ·) 0#8

/-- A frame closed by its check byte. -/
def sealed (b : List Byte) : List Byte := b ++ [checkByte b]

/-- A frame with byte `i` changed and its check byte formed anew (R154). -/
def setFrameByte (b : List Byte) (i v : Nat) : List Byte :=
  sealed (b.dropLast.set i (BitVec.ofNat 8 v))

/-- A frame with hop count `h` (R154). -/
def setHops (b : List Byte) (h : Nat) : List Byte := setFrameByte b 3 h

/-- A frame with station `n`'s bit set in its visited mask (R154). -/
def setVisited (b : List Byte) (n : Nat) : List Byte :=
  let m := maskAdd (frVisited b) n
  setFrameByte (setFrameByte b 4 m) 5 (m / 256)

/-- Objection mask, first objector and first reason of a CLAIM (R198). -/
def claimObjections (b : List Byte) : Nat := body16 b 31
/-- First objector of a CLAIM. -/
def claimFirst (b : List Byte) : Nat := body8 b 33
/-- First reason of a CLAIM. -/
def claimReason (b : List Byte) : Nat := body8 b 34

/-- A CLAIM with the objection of station `n` for the reason `r` written in (R79, R154). -/
def writeObjection (b : List Byte) (n : Nat) (r : Reason) : List Byte :=
  let m := maskAdd (claimObjections b) n
  let b1 := setFrameByte (setFrameByte b 41 m) 42 (m / 256)
  if claimFirst b = 0 then setFrameByte (setFrameByte b1 43 n) 44 r.code else b1

/-- Station flags from their two bytes (R198). -/
def flagsOf (m : Nat) : StationFlags :=
  ⟨m.testBit 0, m.testBit 1, m.testBit 2, m.testBit 3, m.testBit 4, m.testBit 5, m.testBit 6,
    m.testBit 7, m.testBit 8⟩

/-- Station flags as their two bytes carry them (R198). -/
def StationFlags.code (f : StationFlags) : Nat :=
  bitIf f.hostStale 0 + bitIf f.unsupervised 1 + bitIf f.deficit 2 + bitIf f.onBypass 3
  + bitIf f.maint 4 + bitIf f.visitOpen 5 + bitIf f.visitOverdue 6 + bitIf f.visitLong 7
  + bitIf f.ageUnknown 8

/-- A string report from the body of a frame (R198). -/
def reportOf (b : List Byte) (o : Nat) : StringReport :=
  let b0 := body8 b o
  let b1 := body8 b (o + 1)
  ⟨reportStateOf (b0 % 4), classOf (b0 / 4 % 4), b1.testBit 0, b1.testBit 1, b1.testBit 2,
    body16 b (o + 2)⟩

/-- The string flags of a report as their byte carries them (R198). -/
def StringReport.flagCode (r : StringReport) : Nat :=
  bitIf r.ageUnknown 0 + bitIf r.unmeasured 1 + bitIf r.tempSuspect 2

/-- The four bytes of a string report (R198). -/
def StringReport.bytes (r : StringReport) : List Byte :=
  le8 (r.state.code + 4 * r.cls.code) ++ le8 r.flagCode ++ le16 r.eAvail

/-- The STATUS core at body offset `o` (R198), its period as carried. -/
def coreOf (b : List Byte) (o : Nat) : StatusCore :=
  ⟨body16 b o, flagsOf (body16 b (o + 2)), body16 b (o + 4), body16 b (o + 6),
    [reportOf b (o + 8), reportOf b (o + 12), reportOf b (o + 16), reportOf b (o + 20)],
    body8 b (o + 24), body8 b (o + 25), body8 b (o + 26)⟩

/-- The 27 bytes of a STATUS core (R198). -/
def StatusCore.bytes (c : StatusCore) : List Byte :=
  le16 c.period ++ le16 c.flags.code ++ le16 c.pAvail ++ le16 c.load
  ++ c.strings.flatMap StringReport.bytes ++ le8 c.reserve ++ le8 c.autonomy ++ le8 c.exposure

/-- One withdrawal as a STATUS carries it (R54). -/
structure Carried where
  claimId : Nat
  kind : WKind
  scope : Scope
  overdue : Bool
  forced : Bool
  unsanctioned : Bool
  deriving DecidableEq, Repr

/-- The kind and scope at body offset `o`, of a frame that passed R149. -/
def bodyKindScope (b : List Byte) (o : Nat) : WKind × Scope :=
  (kindScopeOf (body8 b o)).getD (.bypass, .cabinet)

/-- Entry `i` of the own withdrawals of a STATUS (R198). -/
def carriedAt (b : List Byte) (i : Nat) : Carried :=
  let o := 32 + 3 * i
  let ks := bodyKindScope b (o + 1)
  let f := body8 b (o + 2)
  ⟨body8 b o, ks.1, ks.2, f.testBit 0, f.testBit 1, f.testBit 2⟩

/-- The own withdrawals a STATUS carries (R198). -/
def carriedOf (b : List Byte) : List Carried := (List.range (body8 b 31)).map (carriedAt b)

/-- The three bytes of an own withdrawal in a STATUS (R198). -/
def Withdrawal.statusBytes (w : Withdrawal) : List Byte :=
  le8 w.claimId ++ le8 (kindScopeCode w.kind w.scope)
  ++ le8 (bitIf w.overdue 0 + bitIf w.forced 1 + bitIf w.unsanctioned 2)

/-- An optional id on the loop: 0 stands for none (R198). -/
def idOf (n : Nat) : Option Nat := if n = 0 then none else some n

/-- The string classes of the STATUS core at body offset `o` are 0 to 2 (R149). -/
def coreOk (b : List Byte) (o : Nat) : Bool :=
  [8, 12, 16, 20].all (fun j => body8 b (o + j) / 4 % 4 != 3)

/-- The kind and scope at body offset `o` is a pair of R72. -/
def pairOk (b : List Byte) (o : Nat) : Bool := (kindScopeOf (body8 b o)).isSome

/-- The body of a frame of kind `k` passes the content check of R149, its length included. -/
def bodyOk (b : List Byte) : FrameKind → Bool
  | .status =>
    Nat.ble (body8 b 31) 3 && frLength b == 32 + 3 * body8 b 31 && coreOk b 1
    && (List.range (body8 b 31)).all (fun i => body8 b (32 + 3 * i) != 0 && pairOk b (33 + 3 * i))
    && (body8 b 29 == 0 || body8 b 29 == 1 || inRange (body8 b 29) 4 7)
    && Nat.ble (body8 b 30) 2
  | .claim =>
    frLength b == 35 && body8 b 0 != 0 && pairOk b 1 && coreOk b 4
    && Nat.ble (claimFirst b) 16 && Nat.ble (claimReason b) 7
  | .grant => frLength b == 2 && body8 b 0 != 0 && pairOk b 1
  | .drop => frLength b == 2 && body8 b 0 != 0 && (body8 b 1 == 1 || body8 b 1 == 2)
  | .forced => frLength b == 3 && body8 b 0 != 0 && pairOk b 1

/-- A complete frame passes every check of R148 and R149. -/
def frameOk (b : List Byte) : Bool :=
  Nat.ble (frLength b) 112 && b.length == 11 + frLength b
  && checkByte b == 0#8
  && inRange (frOrigin b) 1 16 && frTag b != 0
  && byteAt b 7 == 0 && byteAt b 8 == 0 && byteAt b 9 == 0
  && (match frameKindOf (byteAt b 0) with
      | some k => bodyOk b k
      | none => false)

/-- The `unsanctioned` mark of a FORCED body: 0 and 1 as R198 gives, any other byte left open
(log 28). -/
def forcedMark (b : List Byte) : Bool :=
  let v := b.getD 12 0#8
  if v = 0#8 then false else if v = 1#8 then true else Config.unstatedMark v

/-- An own frame as it leaves its origin: hops 0, an empty visited mask, zero reserved bytes and its
check byte (R158). -/
def ownBytes (k : FrameKind) (station tag : Nat) (body : List Byte) : List Byte :=
  sealed (k.byte :: (le8 station ++ le8 tag ++ le8 0 ++ le16 0 ++ le8 body.length
    ++ [0#8, 0#8, 0#8] ++ body))

end Sys2Proof.Machine
end

