-- ==== Sys2Proof/Machine/Flags.lean ====
section
/-! DEFINITION. Conditions and flags that the spec forms from other state: start-up and watchdog
conditions, the own station flags, the own entry of the view, the lock, the status word. -/

namespace Sys2Proof.Machine

/-! ### Time (R2, R175; log 2) -/

/-- Local time in ms. -/
def State.now (s : State) : Nat := s.us / 1000

/-- The 16-bit counter of the phase capture unit (R175). -/
def State.counter (s : State) : Nat := s.us % 65536

/-- A timer that stands in `o` has run out. -/
def State.isDue (s : State) : Option Nat → Bool
  | none => false
  | some t => Nat.ble t s.now

/-! ### Start-up, configuration, watchdog -/

/-- The part is powered and out of reset: events reach its blocks (R162, R190). -/
def State.running (s : State) : Bool := s.power && s.pins.resetN

/-- The start-up controller is JOINED. -/
def State.joined (s : State) : Bool := s.startup.state == .joined

/-- The start-up controller is in START_WINDOW. -/
def State.inWindow (s : State) : Bool := s.startup.state == .startWindow

/-- A configuration with every field zero, standing where none is loaded (it is read by no event
that needs a configuration). -/
def Image.blank : Image :=
  ⟨0, 0, 0, 0, 0, 0, 0, 0, 0, 0, 0, 0, 0, 0, 0, 0, 0, 0, 0, 0, []⟩

/-- Parameters with every field zero. -/
def StringParams.blank : StringParams := ⟨0, 0, 0, 0, 0, 0, 0, 0, 0, 0⟩

/-- The loaded configuration. -/
def State.cfg (s : State) : Image := s.image.getD Image.blank

/-- The own station number. -/
def State.own (s : State) : Nat := s.cfg.station

/-- The parameters of string `k`. -/
def State.params (s : State) (k : Nat) : StringParams := s.cfg.strings.getD k StringParams.blank

/-- The watchdog is in HOST_STALE or UNSUPERVISED (R172, R173). -/
def State.hostSilent (s : State) : Bool :=
  s.dog.stage == .hostStale || s.dog.stage == .unsupervised

/-- Both loop ports are DOWN: condition ISOLATED (R147). -/
def State.portsDown (s : State) : Bool := !s.loop.a.up && !s.loop.b.up

/-! ### Lock, BYP_OK and the lamp (R98 to R100, R178) -/

/-- The lock is held while the lock count is 4 (R178). -/
def State.locked (s : State) : Bool := s.phase.lock == 4

/-- The cabinet is ready for bypass (R100). -/
def State.readyForBypass (s : State) : Bool := s.locked && s.seq.bypOk

/-- BYP_OK as its two inputs give it (R99). -/
def State.bypOkNow (s : State) : Bool :=
  let v := s.intake.vBypass
  let n := s.cfg.bypNominal
  s.phase.byp.freq.isSome && Nat.ble ((v - n + (n - v)) * 100) (n * s.cfg.band) && s.image.isSome

/-- The visit unit holds a current visit of scope CABINET in state OPEN. -/
def State.cabinetVisitOpen (s : State) : Bool :=
  match s.visit.current with
  | some v => v.scope == .cabinet && !v.admitting
  | none => false

/-- The sequencer is in ON_BYPASS, FORCED or LATCHED. -/
def SeqState.onStatic : SeqState → Bool
  | .onBypass => true
  | .forced => true
  | .latched => true
  | .online => false
  | .syncWait => false
  | .claiming => false
  | .transferOut => false
  | .maint => false
  | .transferIn => false

/-- The level R98 gives MBS_PERMIT. -/
def State.permitNow (s : State) : Bool := s.seq.state.onStatic && s.cabinetVisitOpen

/-! ### The own entry (R53) -/

/-- The own station flags (R53). -/
def State.ownFlags (s : State) : StationFlags where
  hostStale := s.hostSilent
  unsupervised := s.dog.stage == .unsupervised
  deficit := s.view.margin == .deficit
  onBypass := s.seq.state.onStatic || s.seq.state == .maint || s.seq.state == .transferIn
  maint := s.seq.state == .maint
  visitOpen := s.visit.current.any (fun v => !v.admitting)
  visitOverdue := s.visit.current.any (fun v => v.overdue != .none)
  visitLong := s.visit.current.any (fun v => v.overdue == .long)
  ageUnknown := s.strings.any (fun r => r.ageUnknown)

/-- The report of one string record (R53). -/
def StringRec.report (r : StringRec) : StringReport :=
  ⟨r.state.report, r.cls, r.ageUnknown, r.unmeasured, r.tempSuspect, r.eAvail⟩

/-- The report of string index `k`: NONE, GOOD, no flags and 0 without a record (R3). -/
def State.reportAt (s : State) (k : Nat) : StringReport :=
  match s.strings[k]? with
  | some r => r.report
  | none => StringReport.blank

/-- The STATUS core of the own entry as it stands (R53, R54). -/
def State.ownCore (s : State) : StatusCore where
  period := s.cfg.statusPeriod
  flags := s.ownFlags
  pAvail := if s.hostSilent then 0 else s.intake.pAvail
  load := s.intake.load
  strings := [s.reportAt 0, s.reportAt 1, s.reportAt 2, s.reportAt 3]
  reserve := s.cfg.reservePct
  autonomy := s.cfg.autonomyMin
  exposure := s.cfg.exposurePct

/-- The claim id of the claim in flight (R53). -/
def State.claimInFlight (s : State) : Option Nat :=
  match s.claims.slot with
  | .inFlight _ id _ _ => some id
  | .free => none
  | .retryWait _ _ => none

/-- The scope of the current visit, ADMITTING or OPEN (R125). -/
def State.visitScope (s : State) : Option Scope :=
  match s.visit.current with
  | some v => some v.scope
  | none => none

/-- The overdue level of the current visit, NONE without one (R125). -/
def State.visitLevel (s : State) : OverdueLevel :=
  match s.visit.current with
  | some v => v.overdue
  | none => .none

/-- The own entry of the peer view table (R53), PRESENT from JOIN onward (R51). -/
def State.ownEntry (s : State) : PeerEntry where
  state := .present
  lastSeq := s.view.seq
  seqOpen := false
  age := 0
  core := s.ownCore
  claimInFlight := s.claimInFlight
  visitScope := s.visitScope
  overdue := s.visitLevel

/-- The stored entry of station `n`. -/
def State.peer (s : State) (n : Nat) : PeerEntry := s.view.peers.getD (n - 1) PeerEntry.blank

/-- The view entry of station `n`: the own one from own state, a peer's as stored (R51). -/
def State.entry (s : State) (n : Nat) : PeerEntry :=
  if s.joined && n == s.own then s.ownEntry else s.peer n

/-- The peers of the own station: every other station number (R51). -/
def State.peerNumbers (s : State) : List Nat := stations.filter (fun n => n != s.own)

/-- The peers whose entry is in state `e`. -/
def State.peersIn (s : State) (e : EntryState) : List Nat :=
  s.peerNumbers.filter (fun n => (s.peer n).state == e)

/-! ### What causes an immediate STATUS (R55) -/

/-- The parts of own state a change of which queues a STATUS at once (R55). -/
structure Reported where
  flags : StationFlags
  strings : List (StringState × HealthClass × Bool × Bool × Bool)
  withdrawals : List (Nat × WKind × Scope × Bool × Bool × Bool)
  margin : Margin
  deriving DecidableEq, Repr

/-- The own entries of the withdrawal list (R54). -/
def State.ownWithdrawals (s : State) : List Withdrawal :=
  s.claims.list.filter (fun w => w.owner == s.own)

/-- What R55 watches, as it stands. -/
def State.reported (s : State) : Reported where
  flags := s.ownFlags
  strings := s.strings.map (fun r => (r.state, r.cls, r.ageUnknown, r.unmeasured, r.tempSuspect))
  withdrawals := s.ownWithdrawals.map
    (fun w => (w.claimId, w.kind, w.scope, w.overdue, w.forced, w.unsanctioned))
  margin := s.view.margin

/-! ### The status word (R189) -/

/-- The nine conditions in the order of the table of R189. -/
def State.conditions (s : State) : List Bool :=
  [s.startup.state == .configFault,
   s.view.duplicate,
   s.dog.stage == .unsupervised,
   s.portsDown,
   s.view.margin == .deficit,
   s.hostSilent,
   (s.loop.a.up != s.loop.b.up),
   s.visit.current.any (fun v => v.overdue == .long),
   s.strings.any (fun r => r.cls == .ended)]

/-- The mask of a list of conditions, the first at bit 0 (R199). -/
def conditionMask : List Bool → Nat
  | [] => 0
  | b :: l => bitIf b 0 + 2 * conditionMask l

/-- The order number of the first condition that holds, 0 for none (R189). -/
def topCondition : Nat → List Bool → Nat
  | _, [] => 0
  | n, b :: l => if b then n else topCondition (n + 1) l

/-- The state of the command slot (R181, R199). -/
def CmdSlot.code : CmdSlot → Nat
  | .empty => 1
  | .pending _ _ => 2
  | .replied _ => 3

/-- The status word from the conditions as they stand (R189). -/
def State.statusWord (s : State) : StatusWord where
  start := BitVec.ofNat 8 s.startup.state.code
  slot := BitVec.ofNat 8 s.host.slot.code
  conditions := BitVec.ofNat 16 (conditionMask s.conditions)
  top := BitVec.ofNat 8 (topCondition 1 s.conditions)
  count := BitVec.ofNat 8 s.host.notices.length
  overflow := s.host.overflow

/-- The seven bytes of a status word (R199). -/
def StatusWord.bytes (w : StatusWord) : List Byte :=
  [w.start, w.slot] ++ le16 w.conditions.toNat ++ [w.top, w.count, BitVec.ofNat 8 w.overflow]

/-! ### Loop ports -/

/-- The port other than `p`. -/
def otherPort : Port → Port
  | .a => .b
  | .b => .a

/-- The state of port `p`. -/
def State.port (s : State) : Port → PortState
  | .a => s.loop.a
  | .b => s.loop.b

/-- The microseconds a frame and one idle symbol take on the line, rounded up (R143; log 11). -/
def frameTime (b : List Byte) : Nat := (12 * (b.length + 1) + 9) / 10

/-- The first `n` symbols of transmission `t` have been sent, so that symbol `n` has begun: twelve
bit-times to a symbol, from the microsecond at which the frame was started (R143; log 11). -/
def State.begun (s : State) (t : Transmission) (n : Nat) : Bool :=
  Nat.ble (10 * (t.doneAt - frameTime t.bytes) + 12 * n) (10 * s.us)

/-- A port is transmitting a frame, its idle symbol included (R160, log 11). -/
def State.busy (s : State) (p : Port) : Bool :=
  match (s.port p).tx with
  | some t => Nat.blt s.us t.doneAt
  | none => false

/-- The own port: B while B is UP, A while B is DOWN and A is UP (R158). -/
def State.ownPort (s : State) : Option Port :=
  if s.loop.b.up then some .b else if s.loop.a.up then some .a else none

/-- The idle symbol's data (R143). -/
def idleData : Byte := 0xFF#8

/-- The no-hear symbol's data (R143). -/
def noHearData : Byte := 0xFE#8

/-- The symbol a port sends for a data byte and a mark bit: odd parity over both, the stop bit high
(R143). -/
def sentSymbol (data : Byte) (mark : Bool) : Symbol :=
  ⟨data, mark, !(List.range 8).foldl (fun a i => a ^^ data.getLsbD i) mark, true⟩

/-- The symbols of a frame: its first byte marked, every other byte not (R143). -/
def frameSymbols : List Byte → List Symbol
  | [] => []
  | b :: l => sentSymbol b true :: l.map (fun d => sentSymbol d false)

/-- The symbol in progress of transmission `t`: one of the frame's, or the idle symbol behind them (R143,
R160; log 11). -/
def State.symbolNow (s : State) (t : Transmission) : Symbol :=
  (frameSymbols t.bytes).getD ((10 * s.us - 10 * (t.doneAt - frameTime t.bytes)) / 12)
    (sentSymbol idleData true)

/-- What a port's transmit line carries (R143, R162): low while unpowered, the other port's line
while RESET_N is low, a symbol otherwise. -/
inductive LineOut where
  | low
  | repeats (port : Port)
  | symbol (symbol : Symbol)
  deriving DecidableEq, Repr

/-- The transmit line of port `p`: the symbols of its frame, idle symbols while it has none or while a DOWN
port has heard the far end, no-hear symbols otherwise (R143, R145). -/
def State.lineOut (s : State) (p : Port) : LineOut :=
  if !s.power then .low
  else if !s.pins.resetN then .repeats (otherPort p)
  else .symbol (
    if (s.port p).up then
      match (s.port p).tx with
      | some t => s.symbolNow t
      | none => sentSymbol idleData true
    else sentSymbol (if (s.port p).hearing == 8 then idleData else noHearData) true)

end Sys2Proof.Machine
end

