-- ==== Sys2Proof/Machine/Ops.lean ====
section
/-! DEFINITION. The named operations the meanings share: notices, free values, replies, view entries,
ports, own frames, the withdrawal list, the reset of the whole part. -/

namespace Sys2Proof.Machine

/-! ### Field updates inside a block -/

/-- `s` with the host port changed by `f`. -/
def State.onHost (s : State) (f : HostPort → HostPort) : State := s.withHost (f s.host)
/-- `s` with the loop ports changed by `f`. -/
def State.onLoop (s : State) (f : LoopPorts → LoopPorts) : State := s.withLoop (f s.loop)
/-- `s` with the floor view unit changed by `f`. -/
def State.onView (s : State) (f : View → View) : State := s.withView (f s.view)
/-- `s` with the claim unit changed by `f`. -/
def State.onClaims (s : State) (f : Claims → Claims) : State := s.withClaims (f s.claims)
/-- `s` with the transfer sequencer changed by `f`. -/
def State.onSeq (s : State) (f : Sequencer → Sequencer) : State := s.withSeq (f s.seq)
/-- `s` with the measurement intake changed by `f`. -/
def State.onIntake (s : State) (f : Intake → Intake) : State := s.withIntake (f s.intake)
/-- `s` with the phase capture unit changed by `f`. -/
def State.onPhase (s : State) (f : Phase → Phase) : State := s.withPhase (f s.phase)
/-- `s` with the visit unit changed by `f`. -/
def State.onVisit (s : State) (f : Visits → Visits) : State := s.withVisit (f s.visit)
/-- `s` with the output lines changed by `f`. -/
def State.onOuts (s : State) (f : Lines → Lines) : State := s.withOuts (f s.outs)
/-- `s` with the input lines changed by `f`. -/
def State.onPins (s : State) (f : Pins → Pins) : State := s.withPins (f s.pins)
/-- `s` with the start-up controller changed by `f`. -/
def State.onStartup (s : State) (f : StartUp → StartUp) : State := s.withStartup (f s.startup)
/-- `s` with string record `k` changed by `f`. -/
def State.onString (s : State) (k : Nat) (f : StringRec → StringRec) : State :=
  s.withStrings (s.strings.modify k f)
/-- `s` with port `p` changed by `f`. -/
def State.onPort (s : State) (p : Port) (f : PortState → PortState) : State :=
  match p with
  | .a => s.onLoop (fun l => { l with a := f l.a })
  | .b => s.onLoop (fun l => { l with b := f l.b })
/-- `s` with the stored entry of station `n` replaced. -/
def State.setPeer (s : State) (n : Nat) (e : PeerEntry) : State :=
  s.onView (fun v => { v with peers := v.peers.set (n - 1) e })
/-- `s` with the mark that a change of R55's list has happened in this event. -/
def State.markStatus (s : State) : State := s.withStatusDue true

/-! ### Notices (R187, R188) -/

/-- A value as a notice carries it: 16 bits, signed where it is negative (R187); a value that fits
neither way is left open (log 16). -/
def half (i : Int) : Half :=
  if -32768 ≤ i ∧ i ≤ 65535 then BitVec.ofInt 16 i else Config.narrow i

/-- The queue with a notice joining it, or the overflow count with one more (R187). NOTICE_IRQ is
asserted while the queue holds a notice (R188). -/
def HostPort.join (h : HostPort) (n : Notice) : HostPort :=
  if h.notices.length < 32 then { h with notices := h.notices ++ [n], irq := true }
  else { h with overflow := satAdd 8 h.overflow 1 }

/-- Raise a notice; none is raised before JOIN (R187). -/
def State.raise (s : State) (kind : NoticeKind) (subject v1 v2 v3 : Half) : State :=
  if s.joined then
    s.onHost (fun h => h.join ⟨kind, subject, v1, v2, v3, BitVec.ofNat 32 s.now⟩)
  else s

/-- Raise a notice whose subject and values are numbers. -/
def State.notify (s : State) (kind : NoticeKind) (subject v1 v2 v3 : Int) : State :=
  s.raise kind (half subject) (half v1) (half v2) (half v3)

/-- Draw a value the spec leaves open. -/
def State.draw (s : State) : Half × State :=
  (Config.freeWord s.freeCount, s.withFreeCount (s.freeCount + 1))

/-! ### Replies (R181, R183) -/

/-- Put the reply to the pending command in the slot, echoing its code and sequence (R183). -/
def State.answer (s : State) (code : ReplyCode) (result : List Byte) : State :=
  match s.host.slot with
  | .pending r _ =>
    s.onHost (fun h => { h with slot := .replied ⟨r.getD 0 0#8, r.getD 1 0#8, code, result⟩ })
  | .empty => s
  | .replied _ => s

/-! ### Own frames (R157 to R159) -/

/-- The next number after `c` in 1 to 255, wrapping to 1, that `held` does not hold (R72, R157). -/
def nextFree (held : Nat → Bool) : Nat → Nat → Nat
  | 0, c => c
  | fuel + 1, c =>
    let n := if 255 ≤ c then 1 else c + 1
    if held n then nextFree held fuel n else n

/-- The own transmit queue after STATUS frames are taken out for a new one (R159 step 1). -/
def queueFor (k : FrameKind) (q : List OwnFrame) : List OwnFrame :=
  if k = .status then q.filter (fun f => f.kind != .status) else q

/-- The queue and the drop count after frame `f` is handled by steps 1 to 3 of R159. -/
def joinQueue (f : OwnFrame) (q : List OwnFrame) (drops : Nat) : List OwnFrame × Nat :=
  if q.length < 8 then (q ++ [f], drops)
  else if q.any (fun g => g.kind == .status) then
    (q.eraseP (fun g => g.kind == .status) ++ [f], drops)
  else (q, satAdd 16 drops 1)

/-- Give an own frame its tag and place it in the own transmit queue (R157, R159). The second part is
the tag. -/
def State.queueOwn (s : State) (k : FrameKind) (claimId : Nat) (body : List Byte) : State × Nat :=
  let q := queueFor k s.loop.queue
  let held := fun t => q.any (fun f => f.tag == t) || s.loop.inFlight.any (fun f => f.tag == t)
  let tag := nextFree held 255 s.loop.tagCounter
  let j := joinQueue ⟨k, tag, claimId, ownBytes k s.own tag body⟩ q s.loop.ownDrops
  (s.onLoop (fun l => { l with queue := j.1, ownDrops := j.2, tagCounter := tag }), tag)

/-- Queue a GRANT (R82). -/
def State.sendGrant (s : State) (id : Nat) (k : WKind) (c : Scope) : State :=
  (s.queueOwn .grant id (le8 id ++ le8 (kindScopeCode k c))).1

/-- Reason of a DROP (R198). -/
inductive DropReason where
  | failed
  | released
  deriving DecidableEq, Repr

/-- Code of a DROP's reason (R198). -/
def DropReason.code : DropReason → Nat
  | .failed => 1
  | .released => 2

/-- Queue a DROP (R82 to R84, R95). -/
def State.sendDrop (s : State) (id : Nat) (r : DropReason) : State :=
  (s.queueOwn .drop id (le8 id ++ le8 r.code)).1

/-- Queue a FORCED carrying an own entry (R92, R93). -/
def State.sendForced (s : State) (w : Withdrawal) : State :=
  (s.queueOwn .forced w.claimId
    (le8 w.claimId ++ le8 (kindScopeCode w.kind w.scope) ++ leMark w.unsanctioned)).1

/-- The body of a STATUS of the own entry with sequence `n` (R54, R198). The own withdrawals stand in the
order in which they entered the list (DESIGN CHOICE, log 49). -/
def State.statusBody (s : State) (n : Nat) : List Byte :=
  le8 n ++ s.ownCore.bytes ++ le8 (s.claimInFlight.getD 0)
  ++ le8 (visitScopeCode s.visitScope) ++ le8 s.visitLevel.code
  ++ le8 (s.ownWithdrawals.take 3).length
  ++ (s.ownWithdrawals.take 3).flatMap Withdrawal.statusBytes

/-- Queue a STATUS and restart the status period (R54, R55). -/
def State.queueStatus (s : State) : State :=
  let n := (s.view.seq + 1) % 256
  let s1 := s.onView (fun v => { v with seq := n, statusAt := some (s.now + s.cfg.statusPeriod) })
  (s1.queueOwn .status 0 (s1.statusBody n)).1.withStatusDue false

/-! ### The withdrawal list (R71 to R74, R92, R93, R95) -/

/-- Whether an entry is known by the pair (`owner`, `id`) (R71). -/
def Withdrawal.isFor (w : Withdrawal) (owner id : Nat) : Bool :=
  w.owner == owner && w.claimId == id

/-- The kinds of the cabinet class (R72). -/
def WKind.isCabinet : WKind → Bool
  | .bypass => true
  | .maint => true
  | .test => false
  | .service => false

/-- The TEST class (R72). -/
def WKind.isTest (k : WKind) : Bool := k == .test

/-- The SERVICE class (R72). -/
def WKind.isService (k : WKind) : Bool := k == .service

/-- `s` with the withdrawal list `l`. -/
def State.setList (s : State) (l : List Withdrawal) : State :=
  s.onClaims (fun c => { c with list := l })

/-- Remove the entries `p` picks; at a removal the view-incomplete mark clears if 28 entries or fewer
remain (R74). -/
def State.removeEntries (s : State) (p : Withdrawal → Bool) : State :=
  if s.claims.list.any p then
    let l := s.claims.list.filter (fun w => !p w)
    s.onClaims (fun c => { c with list := l, incomplete := c.incomplete && Nat.blt 28 l.length })
  else s

/-- The entries owned by peers. -/
def State.peerEntries (s : State) : List Withdrawal :=
  s.claims.list.filter (fun w => w.owner != s.own)

/-- No more peer entries can be stored: 29 are held (R71). -/
def State.listFull (s : State) : Bool := Nat.ble 29 s.peerEntries.length

/-- A peer entry that could not be stored: counted, and the view-incomplete mark set with its notice
if it was clear (R74). -/
def State.loseEntry (s : State) (w : Withdrawal) : State :=
  let s1 := s.onClaims (fun c => { c with lost := satAdd 16 c.lost 1, incomplete := true })
  if s.claims.incomplete then s1
  else s1.notify .viewFull w.owner w.claimId w.kind.code s.claims.list.length

/-- Add an entry owned by a peer, or lose it to a full list (R74). -/
def State.addPeerEntry (s : State) (w : Withdrawal) : State :=
  if s.listFull then s.loseEntry w else s.setList (s.claims.list ++ [w])

/-- Change the entries `p` picks by `f`. -/
def State.updateEntries (s : State) (p : Withdrawal → Bool) (f : Withdrawal → Withdrawal) : State :=
  s.setList (s.claims.list.map (fun w => if p w then f w else w))

/-- Add an own entry, ACTIVE from the start (R73): a change of own withdrawals (R55). -/
def State.addOwnEntry (s : State) (w : Withdrawal) : State :=
  (s.setList (s.claims.list ++ [w])).markStatus

/-- A new claim id: the counter steps past 0 and past ids of own entries (R72; log 48). -/
def State.newClaimId (s : State) : Nat :=
  nextFree (fun n => s.ownWithdrawals.any (fun w => w.claimId == n)) 255 s.claims.lastId

/-- The own entry of a class. -/
def State.ownOfClass (s : State) (c : WKind → Bool) : Option Withdrawal :=
  s.ownWithdrawals.find? (fun w => c w.kind)

/-- The claim id of the own cabinet-class entry, 0 where there is none. -/
def State.cabinetId (s : State) : Nat :=
  match s.ownOfClass WKind.isCabinet with
  | some w => w.claimId
  | none => 0

/-- Release the own entry of a class: it is removed and a DROP with reason RELEASED is queued; with
no such entry nothing changes (R95). -/
def State.release (s : State) (c : WKind → Bool) : State :=
  match s.ownOfClass c with
  | some w =>
    ((s.removeEntries (fun x => x.isFor s.own w.claimId && c x.kind)).sendDrop w.claimId
      .released).markStatus
  | none => s

/-- The entry a new forced withdrawal of the cabinet is recorded as (R92). -/
def State.forcedEntry (s : State) : Withdrawal :=
  ⟨s.own, s.newClaimId, .bypass, .cabinet, true, true, false, none, s.now, false⟩

/-- Set `forced` on the own cabinet-class entry, or add a new forced BYPASS entry, without its FORCED
frame (R92). -/
def State.enterForced (s : State) : State :=
  match s.ownOfClass WKind.isCabinet with
  | some w =>
    (s.updateEntries (fun x => x.isFor s.own w.claimId) (fun x => { x with forced := true })).markStatus
  | none =>
    let w := s.forcedEntry
    (s.onClaims (fun c => { c with lastId := w.claimId })).addOwnEntry w

/-- Announce the own cabinet-class entry with a FORCED frame (R92, R93). -/
def State.announceForced (s : State) : State :=
  match s.ownOfClass WKind.isCabinet with
  | some w => s.sendForced w
  | none => s

/-- Record a forced withdrawal of the cabinet and queue its FORCED frame (R92). -/
def State.recordForced (s : State) : State := s.enterForced.announceForced

/-- Change the own cabinet-class entry to MAINT, unsanctioned where no CABINET visit is OPEN, without
its FORCED frame (R93). -/
def State.enterMaintKind (s : State) (sanctioned : Bool) : State :=
  match s.ownOfClass WKind.isCabinet with
  | some w =>
    (s.updateEntries (fun x => x.isFor s.own w.claimId)
      (fun x => { x with kind := .maint, unsanctioned := x.unsanctioned || !sanctioned })).markStatus
  | none => s

/-- Change the own cabinet-class entry back to BYPASS (R93). -/
def State.leaveMaintKind (s : State) : State :=
  match s.ownOfClass WKind.isCabinet with
  | some w =>
    (s.updateEntries (fun x => x.isFor s.own w.claimId)
      (fun x => { x with kind := .bypass, unsanctioned := false })).markStatus
  | none => s

/-! ### The reset of the part (R190) -/

/-- Every block in its reset state; the lines into the part keep their levels, and the sender's queue
and the count of free values are not the part's (R190). -/
def State.resetAll (s : State) : State :=
  (((State.reset.withPending s.pending).withFreeCount s.freeCount).withPins s.pins).withPower s.power

/-- Re-form MBS_PERMIT (R98). -/
def State.formPermit (s : State) : State :=
  s.onOuts (fun o => { o with mbsPermit := s.permitNow })

end Sys2Proof.Machine
end

