-- ==== Sys2Proof/Machine/Sums.lean ====
section
/-! DEFINITION. The floor sums, the three margin tests and the local check (R63 to R66, R76). -/

namespace Sys2Proof.Machine

/-- A hypothetical withdrawal, counted as an ACTIVE entry (R63). -/
structure Hyp where
  owner : Nat
  kind : WKind
  scope : Scope
  deriving DecidableEq, Repr

/-- Station `n` is cabinet-covered in the view with `hs` added (R63). -/
def State.covered (s : State) (hs : List Hyp) (n : Nat) : Bool :=
  s.claims.list.any (fun w => w.owner == n && w.kind.isCabinet)
  || hs.any (fun h => h.owner == n && h.kind.isCabinet)
  || (s.entry n).core.flags.onBypass

/-- String `k` of station `n` is string-covered in the view with `hs` added (R63). -/
def State.stringCovered (s : State) (hs : List Hyp) (n k : Nat) : Bool :=
  s.claims.list.any (fun w => w.owner == n && !w.kind.isCabinet && w.scope == .string k)
  || hs.any (fun h => h.owner == n && !h.kind.isCabinet && h.scope == .string k)

/-- A string report that adds its energy to the sums: IN_SERVICE and not END (R64). -/
def StringReport.counts (r : StringReport) : Bool := r.state == .inService && r.cls != .ended

/-- What the strings of station `n` add, from index `k` on (R64). -/
def State.stringEnergy (s : State) (hs : List Hyp) (n : Nat) : Nat → List StringReport → Nat
  | _, [] => 0
  | k, r :: l =>
    (if r.counts && !s.stringCovered hs n k then r.eAvail else 0) + s.stringEnergy hs n (k + 1) l

/-- What station `n` contributes to the sums of the view with `hs` added (R64). -/
def State.contribution (s : State) (hs : List Hyp) (n : Nat) : Totals :=
  let e := s.entry n
  let cov := s.covered hs n
  let demand := if e.state == .absent then 0 else e.core.load
  let counted := e.state == .present && !e.core.flags.hostStale && !e.core.flags.unsupervised && !cov
  { c := if counted then e.core.pAvail else 0
    l := if cov then 0 else demand
    d := demand
    x := if cov then demand else 0
    e := if counted then s.stringEnergy hs n 0 e.core.strings else 0 }

/-- Sum of two sets of totals. -/
def Totals.add (a b : Totals) : Totals := ⟨a.c + b.c, a.l + b.l, a.d + b.d, a.x + b.x, a.e + b.e⟩

/-- The floor totals of the view with `hs` added (R65). -/
def State.totals (s : State) (hs : List Hyp) : Totals :=
  stations.foldl (fun t n => t.add (s.contribution hs n)) ⟨0, 0, 0, 0, 0⟩

/-- A policy: reserve, autonomy and exposure. -/
structure Policy where
  reserve : Nat
  autonomy : Nat
  exposure : Nat
  deriving DecidableEq, Repr

/-- The own policy. -/
def State.policy (s : State) : Policy := ⟨s.cfg.reservePct, s.cfg.autonomyMin, s.cfg.exposurePct⟩

/-- The strengthened figures of R67. -/
def Policy.strengthened (p : Policy) : Policy := ⟨p.reserve + 5, p.autonomy + 1, p.exposure - 5⟩

/-- CAPACITY passes (R65). -/
def Policy.capacityOk (p : Policy) (t : Totals) : Bool := Nat.ble (t.l * (100 + p.reserve)) (t.c * 100)
/-- ENERGY passes (R65). -/
def Policy.energyOk (p : Policy) (t : Totals) : Bool := Nat.ble (t.l * p.autonomy) (t.e * 60)
/-- EXPOSURE passes (R65). -/
def Policy.exposureOk (p : Policy) (t : Totals) : Bool := Nat.ble (t.x * 100) (t.d * p.exposure)

/-- The first failing test, in the order CAPACITY, ENERGY, EXPOSURE (R65). -/
def Policy.failing (p : Policy) (t : Totals) : Option Reason :=
  if !p.capacityOk t then some .capacity
  else if !p.energyOk t then some .energy
  else if !p.exposureOk t then some .exposure
  else none

/-- All three tests pass. -/
def Policy.passes (p : Policy) (t : Totals) : Bool :=
  p.capacityOk t && p.energyOk t && p.exposureOk t

/-- A signed figure clamped to −32767..32767 (R66). -/
def clamp16 (i : Int) : Int := max (-32767) (min 32767 i)

/-- The figures of an evaluation under the own base policy (R66). -/
def Policy.figures (p : Policy) (t : Totals) : Figures where
  totals := t
  headroom := clamp16 ((t.c : Int) - ((t.l * (100 + p.reserve)) / 100 : Nat))
  runtime := if t.l = 0 then 65535 else min 65535 (t.e * 60 / t.l)
  exposedBp := if t.d = 0 then 0 else t.x * 10000 / t.d
  capacityOk := p.capacityOk t
  energyOk := p.energyOk t
  exposureOk := p.exposureOk t

/-- The mask of failing tests: CAPACITY 1, ENERGY 2, EXPOSURE 4 (R68). -/
def Figures.failMask (f : Figures) : Nat :=
  bitIf (!f.capacityOk) 0 + bitIf (!f.energyOk) 1 + bitIf (!f.exposureOk) 2

/-- What stands against the own view whatever is asked: steps 1 to 3 of R76, R79 and the first part
of condition 4 of R81. -/
def State.viewObstacle (s : State) : Option Reason :=
  if s.view.duplicate then some .duplicate
  else if s.claims.incomplete then some .viewFull
  else if s.view.margin = .deficit then some .deficit
  else none

/-- The own re-check of R81 condition 4: the first failing reason (R83). -/
def State.recheck (s : State) (w : Hyp) : Option Reason :=
  match s.viewObstacle with
  | some r => some r
  | none => s.policy.failing (s.totals [w])

/-- The local check of R76: the reason of its refusal, or none. -/
def State.localCheck (s : State) (w : Hyp) : Option Reason :=
  match s.viewObstacle with
  | some r => some r
  | none =>
    if s.portsDown then some .isolated
    else if Nat.blt ((s.peersIn .present).length + 1) s.cfg.quorum then some .quorum
    else s.policy.failing (s.totals [w])

/-- The withdrawal a request asks for, as a hypothetical entry (R76). -/
def State.ownHyp (s : State) (k : WKind) (c : Scope) : Hyp := ⟨s.own, k, c⟩

/-- The own claim in flight as a hypothetical entry (R79 step 5). -/
def State.slotHyp (s : State) : Option Hyp :=
  match s.claims.slot with
  | .inFlight r _ _ _ => some (s.ownHyp r.kind r.scope)
  | .free => none
  | .retryWait _ _ => none

/-- The judgement of a passing claim `w`: the reason of an objection, or none (R79). -/
def State.judge (s : State) (w : Hyp) : Option Reason :=
  match s.recheck w with
  | some r => some r
  | none =>
    match s.slotHyp with
    | some o => if (s.policy.failing (s.totals [w, o])).isSome then some .contended else none
    | none => none

end Sys2Proof.Machine
end

