-- ==== Sys2Proof/Machine/Health.lean ====
section
/-! DEFINITION. The string record: constants, recompute, counting, captures, ageing (R4 to R34). -/

namespace Sys2Proof.Machine

/-- Rated energy, 0.1 kWh (R4). -/
def StringParams.eRated (p : StringParams) : Nat := p.n * 12 * p.cRated / 100

/-- Rated charge, As (R4). -/
def StringParams.qCap (p : StringParams) : Nat := p.cRated * 3600

/-- A record with its reset values (R5). -/
def StringRec.blank : StringRec where
  state := .inService
  cls := .good
  ageUnknown := true
  unmeasured := false
  tempSuspect := false
  q := 0
  rem := 0
  qFull := 0
  soc := 0
  aCal := 0
  tDah := 0
  tRem := 0
  deepCount := 0
  dischEvents := 0
  dischSeconds := 0
  dischMs := 0
  iRef := 0
  tSum := 0
  tN := 0
  tLast := 200
  daySum := 0
  fDay := 256
  u := 0
  rho := 10000
  soh := 10000
  eUsable := 0
  eAvail := 0
  daysLeft := 0
  resList := []
  rRef := none
  testCap := none
  lastTest := none
  captureRejects := 0
  loaded := false
  baseline := none

/-! ### Recompute (R20 to R27) -/

/-- Life used (R21). -/
def lifeUsed (p : StringParams) (r : StringRec) : Nat :=
  min 20000 (r.aCal * 10000 / (p.lDesign * 368640) + r.tDah * 10000 / (p.nCyc * p.cRated * 10)
    + 20 * r.deepCount)

/-- Insert a value into an ascending list. -/
def insertAsc (x : Nat) : List Nat → List Nat
  | [] => [x]
  | y :: l => if x ≤ y then x :: y :: l else y :: insertAsc x l

/-- A list in ascending order, ties kept. -/
def sortAsc : List Nat → List Nat
  | [] => []
  | x :: l => insertAsc x (sortAsc l)

/-- The lower median: the entry at (count − 1) div 2 of the sorted list (R22). -/
def lowerMedian (l : List Nat) : Nat := (sortAsc l).getD ((l.length - 1) / 2) 0

/-- The resistance ratio (R22). -/
def ratioOf (resList : List Nat) (rRef : Option Nat) : Nat :=
  match rRef, resList with
  | some ref, x :: l => max 10000 (min 30000 (lowerMedian (x :: l) * 10000 / ref))
  | some _, [] => 10000
  | none, _ => 10000

/-- State of health from life used, resistance ratio, test cap and AGE_UNKNOWN (R23). -/
def healthOf (warn u rho : Nat) (testCap : Option Nat) (ageUnknown : Bool) : Nat :=
  let model := 10000 - max u (rho - 10000) / 5
  let capped := match testCap with
    | some c => min model (max c 6000)
    | none => model
  if ageUnknown then min capped (warn - 1) else capped

/-- Health class (R24). -/
def classFor (p : StringParams) (soh u : Nat) : HealthClass :=
  if soh ≤ p.endSoh ∨ 10000 ≤ u then .ended else if soh < p.warn then .worn else .good

/-- Days of design life left (R26). -/
def daysLeftOf (p : StringParams) (u fDay : Nat) : Nat :=
  if 10000 ≤ u then 0 else min 65535 ((10000 - u) * p.lDesign * 256 / (10000 * fDay))

/-- Usable energy (R27). -/
def usableOf (p : StringParams) (soh soc : Nat) : Nat := p.eRated * soh / 10000 * soc / 10000

/-- The reported energy of a record (R27). -/
def availOf (silent : Bool) (r : StringRec) : Nat :=
  if r.state = .inService ∧ r.unmeasured = false ∧ r.cls ≠ .ended ∧ silent = false then r.eUsable else 0

/-- Re-form E_usable and e_avail (R27). -/
def StringRec.formEnergy (p : StringParams) (silent : Bool) (r : StringRec) : StringRec :=
  let r1 := { r with eUsable := usableOf p r.soh r.soc }
  { r1 with eAvail := availOf silent r1 }

/-- Re-form e_avail alone (R27). -/
def StringRec.formAvail (silent : Bool) (r : StringRec) : StringRec :=
  { r with eAvail := availOf silent r }

/-- The recompute of R20. -/
def StringRec.recompute (p : StringParams) (silent : Bool) (r : StringRec) : StringRec :=
  let u := lifeUsed p r
  let rho := ratioOf r.resList r.rRef
  let soh := healthOf p.warn u rho r.testCap r.ageUnknown
  let qFull := p.qCap * soh / 10000
  let q := min r.q qFull
  StringRec.formEnergy p silent
    { r with u := u, rho := rho, soh := soh, cls := classFor p soh u, qFull := qFull, q := q,
             soc := q * 10000 / qFull, daysLeft := daysLeftOf p u r.fDay }

/-- The class the record would have with `test_cap` absent (R37 STRING_END). The model re-forms u and ρ from
the accumulators of the moment by a whole recompute, where R37 leaves open whether the held ones are meant
(DESIGN CHOICE, log 41). -/
def StringRec.classUncapped (p : StringParams) (r : StringRec) : HealthClass :=
  ({ r with testCap := none }.recompute p false).cls

/-- R37's STRING_END condition holds. -/
def StringRec.endOk (p : StringParams) (r : StringRec) : Bool :=
  r.cls != .ended || r.classUncapped p != .ended

/-- Recompute string `k`; from JOIN onward a change of class raises STRING_CLASS (R20, R24). -/
def State.recompute (s : State) (k : Nat) : State :=
  match s.strings[k]? with
  | some r =>
    let r1 := r.recompute (s.params k) s.hostSilent
    let s1 := s.withStrings (s.strings.set k r1)
    if r1.cls = r.cls then s1
    else s1.notify .stringClass k r.cls.code r1.cls.code r1.soh
  | none => s

/-- Change the state of string `k` and re-form its e_avail; the change queues a STATUS (R7, R55). -/
def State.setStringState (s : State) (k : Nat) (x : StringState) : State :=
  (s.onString k (fun r => { r with state := x }.formAvail s.hostSilent)).markStatus

/-- A string with no capture baseline: at JOIN, and from a restore to the take-in that follows it, which
therefore attempts no capture (R31). -/
def StringRec.dropBaseline (r : StringRec) : StringRec := { r with baseline := none }

/-- Re-form the e_avail of every string (R27). -/
def State.formAllAvail (s : State) : State :=
  s.withStrings (s.strings.map (StringRec.formAvail s.hostSilent))

/-! ### Counting (R9 to R15) -/

/-- The charge increment, scaled by the charge efficiency when positive (R11). -/
def chargeIncrement (eta : Nat) (i : Int) (dt : Nat) : Int :=
  let p := i * dt
  if 0 < p then p * eta / 100 else p

/-- Discharge runs of a counting step (R15). -/
def StringRec.countRun (threshold : Nat) (i : Int) (dt : Nat) (r : StringRec) : StringRec :=
  let begun := -(threshold : Int) ≤ r.iRef ∧ i < -(threshold : Int)
  let r1 := if begun then { r with dischEvents := satAdd 16 r.dischEvents 1 } else r
  let r2 := if i < -(threshold : Int) then
      { r1 with dischSeconds := satAdd 32 r1.dischSeconds ((r1.dischMs + dt) / 1000)
                dischMs := (r1.dischMs + dt) % 1000 }
    else r1
  { r2 with iRef := i }

/-- The whole ampere-seconds a counting step takes from the remainder, rounded toward minus infinity
(R11). -/
def StringRec.wholeAs (p : StringParams) (i : Int) (dt : Nat) (r : StringRec) : Int :=
  ((r.rem : Int) + chargeIncrement p.eta i dt) / 10000

/-- The charge a counting step takes out of the string, As, before the clamp of R12 (R13, R42). -/
def StringRec.deliveredAs (p : StringParams) (i : Int) (dt : Nat) (r : StringRec) : Nat :=
  (-(r.wholeAs p i dt)).toNat

/-- One counting step (R11 to R15), E_usable and e_avail re-formed (R27). -/
def StringRec.count (p : StringParams) (silent : Bool) (i : Int) (dt : Nat) (r : StringRec) :
    StringRec :=
  let w := r.wholeAs p i dt
  let rem := (((r.rem : Int) + chargeIncrement p.eta i dt) % 10000).toNat
  let q := min r.qFull ((r.q : Int) + w).toNat
  let out := r.tRem + r.deliveredAs p i dt
  let soc := q * 10000 / r.qFull
  let deep := if 2000 ≤ r.soc ∧ soc < 2000 then satAdd 16 r.deepCount 1 else r.deepCount
  StringRec.formEnergy p silent
    (StringRec.countRun p.dischThreshold i dt
      { r with rem := rem, q := q, soc := soc, deepCount := deep,
               tDah := if w < 0 then satAdd 32 r.tDah (out / 360) else r.tDah
               tRem := if w < 0 then out % 360 else r.tRem })

/-- A baseline take-in of one string: I_ref takes the current, nothing is counted, e_avail is
re-formed (R9, R174). -/
def StringRec.setBaselineRef (silent : Bool) (i : Int) (r : StringRec) : StringRec :=
  { r with iRef := i }.formAvail silent

/-! ### Temperatures and the ageing tick (R17 to R19) -/

/-- A temperature taken in: T_last, and from JOIN onward the sum and count of the tick (R17). -/
def StringRec.takeTemp (joined : Bool) (t : Int) (r : StringRec) : StringRec :=
  if r.unmeasured then r
  else if joined then { r with tLast := t, tSum := r.tSum + t, tN := r.tN + 1 }
  else { r with tLast := t }

/-- The tick temperature: the floor of the mean, or T_last without one (R17). -/
def StringRec.tickTemp (r : StringRec) : Int := if r.tN = 0 then r.tLast else r.tSum / r.tN

/-- The band factor of a tick temperature (R18). -/
def bandFactor (t : Int) : Nat :=
  if t < 200 then 192 else if t < 250 then 256 else if t < 300 then 362 else if t < 350 then 512
  else if t < 400 then 724 else if t < 450 then 1024 else if t < 500 then 1448 else 2048

/-- The accumulator updates of one tick (R17, R18). -/
def StringRec.tick (r : StringRec) : StringRec :=
  let f := bandFactor r.tickTemp
  { r with aCal := satAdd 32 r.aCal f, daySum := r.daySum + f, tSum := 0, tN := 0 }

/-- The day boundary (R19). -/
def StringRec.dayEnd (r : StringRec) : StringRec := { r with fDay := r.daySum / 1440, daySum := 0 }

/-! ### Resistance captures (R31 to R34) -/

/-- A string state that qualifies for a capture (R31). -/
def StringState.capturable : StringState → Bool
  | .inService => true
  | .test => true
  | .isolated => false

/-- The resistance a capture forms, µΩ (R32). -/
def resistance (vPre vPost : Nat) (iPre iPost : Int) : Int :=
  Int.tdiv (((vPre : Int) - vPost) * 100000) (iPre - iPost)

/-- A capture whose step passed is accepted (R33). -/
def captureOk (vPre vPost : Nat) (iPre iPost : Int) : Bool :=
  let dv := (vPre : Int) - vPost
  let di := iPre - iPost
  let r := resistance vPre vPost iPre iPost
  ((decide (0 < dv) && decide (0 < di)) || (decide (dv < 0) && decide (di < 0)))
  && decide (100 ≤ r) && decide (r ≤ 100000)

/-- The list with a capture appended, the oldest of five removed first, and the reference it then
sets where none is held (R34). -/
def StringRec.accept (x : Nat) (r : StringRec) : StringRec :=
  let l := (if r.resList.length < 5 then r.resList else r.resList.drop 1) ++ [x]
  { r with resList := l
           rRef := match r.rRef with
             | some ref => some ref
             | none => if l.length = 5 then some (lowerMedian l) else none }

/-- What a take-in hands the ageing unit for one string (R169, R170). -/
structure Handed where
  valid : Bool
  voltage : Nat
  current : Int
  temperature : Int
  deriving DecidableEq, Repr

/-- The capture attempt of one string, with its recompute if the capture is accepted (R31 to R34). -/
def State.tryCapture (s : State) (k : Nat) (h : Handed) : State :=
  match s.strings[k]? with
  | some r =>
    match r.baseline with
    | some b =>
      if h.valid && b.valid && r.state.capturable && b.state.capturable
          && Nat.ble (s.params k).stepThreshold (h.current - b.current).natAbs then
        if captureOk b.voltage h.voltage b.current h.current then
          (s.onString k (StringRec.accept
            (resistance b.voltage h.voltage b.current h.current).toNat)).recompute k
        else s.onString k (fun r => { r with captureRejects := satAdd 16 r.captureRejects 1 })
      else s
    | none => s
  | none => s

/-! ### Loading and replacing (R28, R29) -/

/-- What an accepted LOAD_AGEING sets in the record, before its recompute (R28). -/
def StringRec.load (aCal tDah deep events seconds : Nat) (rRef : Option Nat) (q : Nat)
    (r : StringRec) : StringRec :=
  { r with aCal := aCal, tDah := tDah, deepCount := deep, dischEvents := events
           dischSeconds := seconds, tRem := 0, rem := 0, dischMs := 0, rRef := rRef, q := q
           ageUnknown := false, loaded := true }

/-- What a replacement changes in the record, before its recompute (R29). -/
def StringRec.renew (r : StringRec) : StringRec :=
  { r with aCal := 0, tDah := 0, tRem := 0, deepCount := 0, dischEvents := 0, dischSeconds := 0
           dischMs := 0, captureRejects := 0, resList := [], rRef := none, testCap := none
           lastTest := none, ageUnknown := false, q := 0, rem := 0, fDay := 256 }

/-- The record of string `k` as it is built when loading ends (R6). -/
def builtRecord (p : StringParams) : StringRec := StringRec.blank.recompute p false

end Sys2Proof.Machine
end

