-- ==== Sys2Proof/Machine/TestJob.lean ====
section
/-! DEFINITION. The test job: start, end, verdict effects, denial (R36 to R49). -/

namespace Sys2Proof.Machine

/-- Bring the test job back to IDLE. -/
def State.jobIdle (s : State) : State := s.withJob TestJob.blank

/-- Raise TEST_DENIED for the test job's string (R40): outcome, first objector, third value. -/
def State.testDenied (s : State) (outcome : ClaimOutcome) (first third : Nat) : State :=
  s.jobIdle.notify .testDenied s.job.k outcome.code first third

/-- String `k` passes the second check of R39. -/
def State.testFit (s : State) (k : Nat) : Bool :=
  match s.strings[k]? with
  | some r =>
    r.state == .inService && !r.unmeasured && r.endOk (s.params k) && Nat.ble 9000 r.soc
  | none => false

/-- The new `last_test` record of a test that enters RUNNING (R39). -/
def newLastTest (now soc target limit : Nat) : LastTest :=
  ⟨now, soc, target, limit, 0, none, none, none⟩

/-- A granted test starts: string to TEST, DISCH_REQ asserted, record and limit timer set, TEST_STARTED
raised (R39). -/
def State.startTest (s : State) (claimId : Nat) : State :=
  let j := s.job
  match s.strings[j.k]? with
  | some r =>
    ((((s.onString j.k (fun r => { r with
            lastTest := some (newLastTest s.now r.soc j.target j.limitMin) })).setStringState j.k .test).onOuts
        (fun o => { o with dischReq := true })).withJob
      { j with state := .running, limitAt := some (s.now + j.limitMin * 60000) }).notify
        .testStarted j.k claimId r.soc j.limitMin
  | none => s

/-- The capacity fraction a failed test has shown (R48). -/
def kappaOf (p : StringParams) (t : LastTest) : Nat :=
  min 10000 (t.delivered * 10000 / t.socStart * 10000 / p.qCap)

/-- `r` with the κ of a failed test in `test_cap` and in `last_test` (R48 step 1). -/
def StringRec.setKappa (p : StringParams) (r : StringRec) : StringRec :=
  match r.lastTest with
  | some t =>
    { r with testCap := some (kappaOf p t), lastTest := some { t with kappa := some (kappaOf p t) } }
  | none => r

/-- `r` emptied: Q, r and SoC 0, E_usable and e_avail re-formed (R48 steps 3 and 4). -/
def StringRec.empty (p : StringParams) (silent : Bool) (r : StringRec) : StringRec :=
  StringRec.formEnergy p silent { r with q := 0, rem := 0, soc := 0 }

/-- `r` with the verdict and end time of its test (R46 step 5). -/
def StringRec.closeTest (v : Verdict) (now : Nat) (r : StringRec) : StringRec :=
  { r with lastTest := r.lastTest.map (fun t => { t with verdict := some v, endMs := some now }) }

/-- A verdict's own effects on the record (R47 to R49). -/
def State.verdictEffects (s : State) (k : Nat) (v : Verdict) : State :=
  match v with
  | .pass =>
    if s.strings[k]?.any (fun r => r.testCap.isSome) then
      (s.onString k (fun r => { r with testCap := none })).recompute k
    else s
  | .failVoltage =>
    ((s.onString k (StringRec.setKappa (s.params k))).recompute k).onString k
      (StringRec.empty (s.params k) s.hostSilent)
  | .inconclusive => s
  | .abortedHost => s
  | .abortedDeficit => s
  | .abortedStale => s
  | .abortedBypass => s

/-- Raise TEST_END: verdict, SoC after it, delivered charge in 0.1 Ah (R46). -/
def State.testEndNotice (s : State) (k : Nat) (v : Verdict) : State :=
  match s.strings[k]? with
  | some r =>
    s.notify .testEnd k v.code r.soc
      (min 65535 ((r.lastTest.map (fun t => t.delivered)).getD 0 / 360))
  | none => s

/-- The end of a running test, whatever its verdict (R46). -/
def State.endTest (s : State) (v : Verdict) : State :=
  let k := s.job.k
  let s1 := s.onOuts (fun o => { o with dischReq := false })
  let s2 := (s1.setStringState k .inService).release WKind.isTest
  let s3 := (s2.onString k (StringRec.closeTest v s.now)).jobIdle
  let s4 := s3.verdictEffects k v
  (s4.onString k (StringRec.formAvail s4.hostSilent)).testEndNotice k v

/-- A running test's delivered charge grows by what a counting step took out (R42). -/
def StringRec.addDelivered (n : Nat) (r : StringRec) : StringRec :=
  { r with lastTest := r.lastTest.map (fun t => { t with delivered := satAdd 32 t.delivered n }) }

/-- The test-end check of a take-in for string `k` with the sample handed on (R43). -/
def State.testEndCheck (s : State) (k : Nat) (h : Handed) : State :=
  if s.job.state = .running ∧ s.job.k = k then
    match s.strings[k]? with
    | some r =>
      if r.unmeasured = false ∧ h.voltage ≤ (s.params k).n * (s.params k).endVoltage then
        s.endTest .failVoltage
      else if r.soc ≤ s.job.target then s.endTest .pass
      else s
    | none => s
  else s

end Sys2Proof.Machine
end

