-- ==== Sys2Proof/Machine/Visits.lean ====
section
/-! DEFINITION. The visit records: opening, actions, history, notices (R122 to R133, R138, R139). -/

namespace Sys2Proof.Machine

/-- Elapsed minutes of a visit (R133, R141). -/
def State.visitMinutes (s : State) (v : Visit) : Nat := (s.now - v.openedMs) / 60000

/-- The number the next visit takes: the counter steps, wraps from 65535 to 1 and passes over 0
(R122). -/
def Visits.nextId (v : Visits) : Nat := if 65535 ≤ v.counter then 1 else v.counter + 1

/-- Create the current visit record (R122, R127, R128). -/
def State.createVisit (s : State) (tech : Nat) (scope : Scope) (planned : Nat) (admitting : Bool) :
    State :=
  s.onVisit (fun v => { v with
    counter := v.nextId
    current := some ⟨v.nextId, tech, scope, planned, s.now, admitting, false, .none, [], false, false⟩ })

/-- `s` with the current visit changed by `f`. -/
def State.onCurrent (s : State) (f : Visit → Visit) : State :=
  s.onVisit (fun v => { v with current := v.current.map f })

/-- Raise VISIT_OPENED for the current visit (R127). -/
def State.visitOpenedNotice (s : State) : State :=
  match s.visit.current with
  | some v => s.notify .visitOpened v.visitId v.scope.code (v.tech / 1000) v.planned
  | none => s

/-- The history with a closed record placed in it: a ring of 8 (R124). -/
def placeRecord (r : ClosedVisit) (h : List ClosedVisit) : List ClosedVisit :=
  (if h.length < 8 then h else h.drop 1) ++ [r]

/-- The current visit leaves the current place for the history; the lamp is re-formed (R124, R125). -/
def State.retireVisit (s : State) (admission : Option (ClaimOutcome × Bool)) : State :=
  match s.visit.current with
  | some v =>
    (s.onVisit (fun x =>
      { x with current := none, history := placeRecord ⟨v, s.now, admission⟩ x.history })).formPermit
  | none => s

/-- Append an action to the current visit, or mark it lost where 16 are held (R123, R138). -/
def Visit.addAction (a : VisitAction) (v : Visit) : Visit :=
  if v.actions.length < 16 then { v with actions := v.actions ++ [a] } else { v with actionsLost := true }

/-- Hand the visit unit an automatic action: recorded while a CABINET visit is OPEN (R138). -/
def State.autoAction (s : State) (k : ActionKind) : State :=
  if s.cabinetVisitOpen then
    s.onCurrent (Visit.addAction ⟨k, none, s.now, s.cabinetId⟩)
  else s

/-- A granted SERVICE claim opens the visit (R129). -/
def State.admitVisit (s : State) : State :=
  (s.onCurrent (fun v => { v with admitting := false })).formPermit.visitOpenedNotice

/-- A failed or cancelled admission moves the record to the history with its notice (R130). -/
def State.refuseVisit (s : State) (outcome : ClaimOutcome) (first reason : Nat) : State :=
  match s.visit.current with
  | some v =>
    (s.retireVisit (some (outcome, v.givenUp))).notify .visitNotAdmitted v.visitId outcome.code first
      (if v.givenUp then codeCancelled else reason)
  | none => s

end Sys2Proof.Machine
end

