-- ==== Sys2Proof/Machine/Transfers.lean ====
section
/-! DEFINITION. The transfer sequencer's shared operations: state changes with their lines, the
transfer timer, entry to the bypass states and to MAINT (R98 to R118). -/

namespace Sys2Proof.Machine

/-- Change the sequencer's state: each request line is asserted exactly in its own state, the transfer
timer and the retransfer timer stop on leaving theirs, and MBS_PERMIT is re-formed (R98, R105, R113). -/
def State.goto (s : State) (x : SeqState) : State :=
  ((s.onSeq (fun q => { q with state := x, xfer := none, retransferAt := none })).onOuts
    (fun o => { o with xferByp := x == .transferOut, xferInv := x == .transferIn })).formPermit

/-- Start the transfer timer (R105). -/
def State.startXfer (s : State) (dir : Direction) (mode : XferMode) : State :=
  s.onSeq (fun q => { q with
    xfer := some ⟨dir, mode, mode == .brk, s.now, s.now + s.cfg.confirmTimeout⟩ })

/-- The retransfer condition of R113: in FORCED, INV_OK reads 1 and the lock is held. -/
def State.retransferCond (s : State) : Bool :=
  s.seq.state == .forced && s.pins.invOk && s.locked

/-- Follow the retransfer condition: the timer runs while it holds, from the full delay when it begins
to hold (R113). -/
def State.followRetransfer (s : State) : State :=
  if s.retransferCond then
    if s.seq.retransferAt.isSome then s
    else s.onSeq (fun q => { q with retransferAt := some (s.now + s.cfg.retransferDelay * 1000) })
  else s.onSeq (fun q => { q with retransferAt := none })

/-- Enter MAINT with `prior` stored: the own cabinet entry changes to MAINT, unsanctioned with a FORCED
frame and a notice where no CABINET visit is OPEN, and the visit unit is handed MAINT_ENTERED
otherwise (R115). `announce` is false at JOIN, where one FORCED frame carries both changes (R92). -/
def State.enterMaint (s : State) (prior : SeqState) (announce : Bool) : State :=
  let s1 := (s.goto .maint).onSeq (fun q => { q with prior := some prior })
  let s2 := s1.enterMaintKind s.cabinetVisitOpen
  if s.cabinetVisitOpen then s2.autoAction .maintEntered
  else
    (if announce then s2.announceForced else s2).notify .unsanctionedMaint s2.cabinetId prior.code 0 0

/-- Enter ON_BYPASS, FORCED or LATCHED: on to MAINT in the same event if MBS_CLOSED reads 1 (R106,
R110, R115), else the retransfer condition is followed (R113). -/
def State.enterStatic (s : State) (x : SeqState) : State :=
  let s1 := (s.goto x).onSeq (fun q => { q with prior := none })
  if s.pins.mbsClosed then s1.enterMaint x true else s1.followRetransfer

/-- Raise TRANSFER_RESULT (R104): subject, result code, second value, reason. -/
def State.transferResult (s : State) (subject result second reason : Nat) : State :=
  s.notify .transferResult subject result second reason

/-- Result BUSY of TRANSFER_RESULT (R202). -/
def resultBusy : Nat := 9
/-- Result SYNC_LOST of TRANSFER_RESULT (R202). -/
def resultSyncLost : Nat := 10
/-- Result SUPERSEDED of TRANSFER_RESULT (R202). -/
def resultSuperseded : Nat := 11

/-- Back to ONLINE with `prior` and `planned_min` absent. -/
def State.goOnline (s : State) : State :=
  (s.goto .online).onSeq (fun q => { q with prior := none, planned := none, syncAt := none })

/-- Causes of TRANSFER_FAULT, in the order of section 5.9 (R196). -/
inductive FaultCause where
  | confirmTimeout
  | syncLost
  | invFault
  | maintClosed
  deriving DecidableEq, Repr

/-- Code of a cause of TRANSFER_FAULT (R196). -/
def FaultCause.code : FaultCause → Nat
  | .confirmTimeout => 1
  | .syncLost => 2
  | .invFault => 3
  | .maintClosed => 4

/-- The transfer in progress fails: out of TRANSFER_OUT the BYPASS entry is released and the sequencer
is ONLINE (R106); out of TRANSFER_IN it is back in `prior` with the entry as it was (R109). -/
def State.failTransfer (s : State) (c : FaultCause) : State :=
  let id := s.cabinetId
  match s.seq.state with
  | .transferOut =>
    ((s.goOnline).release WKind.isCabinet).notify .transferFault id Direction.out.code c.code
      SeqState.online.code
  | .transferIn =>
    let back := s.seq.prior.getD .forced
    let s1 := (s.goto back).onSeq (fun q => { q with prior := none })
    s1.followRetransfer.notify .transferFault id Direction.into.code c.code back.code
  | .online => s
  | .syncWait => s
  | .claiming => s
  | .onBypass => s
  | .forced => s
  | .latched => s
  | .maint => s

/-- A lock re-check reaches the sequencer: limit A of a transfer with its mark clear (R105), and the
retransfer condition in FORCED (R113). -/
def State.lockRecheck (s : State) : State :=
  match s.seq.xfer with
  | some t =>
    if t.held then s
    else if s.locked then s.onSeq (fun q => { q with xfer := some { t with held := true } })
    else s.failTransfer .syncLost
  | none => s.followRetransfer

/-- Time since the assertion of the request line, ms (R106, R109). -/
def State.sinceAssertion (s : State) : Nat :=
  match s.seq.xfer with
  | some t => s.now - t.since
  | none => 0

/-- The forced history with a forced transfer at `now`: entries over 60 minutes old leave, then the
oldest of four, then the present time joins (R111). -/
def historyWith (now : Nat) (h : List Nat) : List Nat :=
  let recent := h.filter (fun t => Nat.ble (now - t) 3600000)
  (if recent.length < 4 then recent else recent.drop 1) ++ [now]

/-- Causes of FORCED_BYPASS and BYPASS_LATCHED, in the order of R111 (R196). -/
inductive ForcedCause where
  | unrequested
  | maintClosed
  | foundAtStart
  deriving DecidableEq, Repr

/-- Code of a forced cause (R111, R196). -/
def ForcedCause.code : ForcedCause → Nat
  | .unrequested => 1
  | .maintClosed => 2
  | .foundAtStart => 3

end Sys2Proof.Machine
end

