-- ==== Sys2Proof/Machine/ClaimOps.lean ====
section
/-! DEFINITION. The claim slot: request, sending, settlement, retries, giving up, and what the
requesters do with a final outcome (R75 to R87). -/

namespace Sys2Proof.Machine

/-- `s` with the claim slot `x`. -/
def State.setSlot (s : State) (x : Slot) : State := s.onClaims (fun c => { c with slot := x })

/-- The body of a CLAIM with no objection in it (R77, R198). -/
def State.claimBody (s : State) (id : Nat) (q : Request) : List Byte :=
  le8 id ++ le8 (kindScopeCode q.kind q.scope) ++ le16 q.planned ++ s.ownCore.bytes
  ++ le16 0 ++ le8 0 ++ le8 0

/-- Send the claim of request `q`: new claim id, CLAIM queued, claim timer started, slot IN_FLIGHT
(R77). -/
def State.sendClaim (s : State) (q : Request) : State :=
  let id := s.newClaimId
  let s1 := s.onClaims (fun c => { c with lastId := id })
  let f := s1.queueOwn .claim id (s1.claimBody id q)
  f.1.setSlot (.inFlight { q with lastId := id } id f.2 (s.now + s.cfg.claimTimeout))

/-- The claim unit's answer to a request (R75, R76). -/
inductive ClaimAnswer where
  | busy
  | refused (r : Reason)
  | sent (id : Nat)
  deriving DecidableEq, Repr

/-- A new request for a withdrawal (R75 to R77). A refusal at the first check leaves the slot FREE and
uses no id. -/
def State.requestClaim (s : State) (who : Requester) (k : WKind) (c : Scope) (planned : Nat) :
    ClaimAnswer × State :=
  if s.claims.slot = .free then
    match s.localCheck (s.ownHyp k c) with
    | some r => (.refused r, s)
    | none => (.sent s.newClaimId, s.sendClaim ⟨who, k, c, planned, 0, false, 0⟩)
  else (.busy, s)

/-! ### Final outcomes and the requesters (R87) -/

/-- A final outcome with what it carries, 0 where it carries none (R87). -/
structure Final where
  outcome : ClaimOutcome
  id : Nat
  objector : Nat
  missing : Nat
  reason : Nat
  deriving DecidableEq, Repr

/-- A final outcome that carries no value. -/
def Final.bare (o : ClaimOutcome) : Final := ⟨o, 0, 0, 0, 0⟩

/-- The first value reported with an outcome, as the table of R87 lists them (R112; log 26). -/
def Final.first (f : Final) : Nat :=
  match f.outcome with
  | .granted => f.id
  | .objected => f.objector
  | .marginLocal => f.reason
  | .contended => f.objector
  | .unheard => f.missing
  | .lost => 0
  | .abandoned => 0
  | .refused => f.reason

/-- The first objector, the mask of missing peers, or 0 (R104, R130). -/
def Final.second (f : Final) : Nat :=
  match f.outcome with
  | .granted => 0
  | .objected => f.objector
  | .marginLocal => 0
  | .contended => f.objector
  | .unheard => f.missing
  | .lost => 0
  | .abandoned => 0
  | .refused => 0

/-- The reason TEST_DENIED carries: for OBJECTED and REFUSED only (R40). -/
def Final.testReason (f : Final) : Nat :=
  match f.outcome with
  | .granted => 0
  | .objected => f.reason
  | .marginLocal => 0
  | .contended => 0
  | .unheard => 0
  | .lost => 0
  | .abandoned => 0
  | .refused => f.reason

/-- The ageing unit takes a final outcome of its TEST claim (R39 to R41). -/
def State.reportTest (s : State) (f : Final) : State :=
  if s.job.state = .claiming then
    match s.job.givenUp with
    | some c => s.testDenied f.outcome f.objector c.code
    | none =>
      if f.outcome = .granted then
        if s.testFit s.job.k then s.startTest f.id
        else (s.release WKind.isTest).testDenied .granted 0 codeStringUnfit
      else s.testDenied f.outcome f.objector f.testReason
  else s

/-- The sequencer takes a final outcome of its BYPASS claim (R104, R106, R112). `sentId` is the claim
id of the last CLAIM sent, the notice's subject (log 27). -/
def State.reportSeq (s : State) (sentId : Nat) (f : Final) : State :=
  if s.seq.superseded then
    (s.onSeq (fun q => { q with pending := false, superseded := false })).transferResult sentId
      resultSuperseded f.outcome.code f.first
  else
    let s1 := s.onSeq (fun q => { q with pending := false })
    if f.outcome = .granted then
      if s.readyForBypass then (s1.goto .transferOut).startXfer .out .sync
      else (s1.release WKind.isCabinet).goOnline.transferResult sentId resultSyncLost 0 0
    else s1.goOnline.transferResult sentId f.outcome.code f.second f.reason

/-- The visit unit takes a final outcome of its SERVICE claim, for the visit that is ADMITTING (R129,
R130). -/
def State.reportVisit (s : State) (f : Final) : State :=
  match s.visit.current with
  | some v =>
    if v.admitting then
      if f.outcome = .granted ∧ v.givenUp = false then s.admitVisit
      else s.refuseVisit f.outcome f.second f.reason
    else s
  | none => s

/-- Report a final outcome to the requester; the slot is FREE by then (R87). -/
def State.report (s : State) (q : Request) (f : Final) : State :=
  match q.requester with
  | .sequencer => s.reportSeq q.lastId f
  | .ageing => s.reportTest f
  | .visit => s.reportVisit f

/-- The slot returns to FREE and the outcome is reported (R87). -/
def State.finalOutcome (s : State) (q : Request) (f : Final) : State :=
  (s.setSlot .free).report q f

/-! ### Settlement (R81 to R85) -/

/-- The own entry of a granted request (R82). -/
def State.grantedEntry (s : State) (q : Request) (id : Nat) : Withdrawal :=
  ⟨s.own, id, q.kind, q.scope, true, false, false, some q.planned, s.now, false⟩

/-- A claim that succeeds (R82). -/
def State.settleGranted (s : State) (q : Request) (id : Nat) : State :=
  let s1 := s.setSlot .free
  let f : Final := ⟨.granted, id, 0, 0, 0⟩
  if q.givenUp then ((s1.sendGrant id q.kind q.scope).sendDrop id .released).report q f
  else ((s1.addOwnEntry (s.grantedEntry q id)).sendGrant id q.kind q.scope).report q f

/-- The retry delay after an outcome that is retried (R85). -/
def State.retryDelay (s : State) (o : ClaimOutcome) : Nat :=
  match o with
  | .contended => 20 + s.own * 10
  | .unheard => s.cfg.claimTimeout
  | .lost => s.cfg.claimTimeout
  | .granted => 0
  | .objected => 0
  | .marginLocal => 0
  | .abandoned => 0
  | .refused => 0

/-- After CONTENDED, UNHEARD or LOST: final with the mark set, ABANDONED at the retry limit, otherwise
RETRY_WAIT (R85). -/
def State.retryOrEnd (s : State) (q : Request) (f : Final) : State :=
  if q.givenUp then s.finalOutcome q f
  else if s.cfg.retryLimit ≤ q.retries then s.finalOutcome q (Final.bare .abandoned)
  else s.setSlot (.retryWait q (s.now + s.retryDelay f.outcome))

/-- A failed claim: the slot leaves IN_FLIGHT, a DROP with reason FAILED is queued, and the outcome is
retried or final (R83 to R85). -/
def State.settleFailed (s : State) (q : Request) (id : Nat) (f : Final) : State :=
  let s1 := (s.setSlot .free).sendDrop id .failed
  match f.outcome with
  | .contended => s1.retryOrEnd q f
  | .unheard => s1.retryOrEnd q f
  | .lost => s1.retryOrEnd q f
  | .granted => s1.finalOutcome q f
  | .objected => s1.finalOutcome q f
  | .marginLocal => s1.finalOutcome q f
  | .abandoned => s1.finalOutcome q f
  | .refused => s1.finalOutcome q f

/-- The mask of PRESENT peers whose bit a visited mask lacks (R81, R83). -/
def State.missingPeers (s : State) (visited : Nat) : Nat :=
  ((s.peersIn .present).filter (fun n => !maskHas visited n)).foldl maskAdd 0

/-- Why a returned CLAIM does not succeed, or none where it does (R81, R83). -/
def State.returnFailure (s : State) (q : Request) (b : List Byte) : Option Final :=
  if claimObjections b ≠ 0 then
    if claimReason b = Reason.contended.code then some ⟨.contended, 0, claimFirst b, 0, 0⟩
    else some ⟨.objected, 0, claimFirst b, 0, claimReason b⟩
  else if s.missingPeers (frVisited b) ≠ 0 ∨ maskCount (frVisited b) + 1 < s.cfg.quorum then
    some ⟨.unheard, 0, 0, s.missingPeers (frVisited b), 0⟩
  else match s.recheck (s.ownHyp q.kind q.scope) with
    | some r => some ⟨.marginLocal, 0, 0, 0, r.code⟩
    | none => none

/-- An own CLAIM has come home: settled where the slot recorded its tag, otherwise late and ignored
(R81, R84, R152). -/
def State.claimReturned (s : State) (b : List Byte) : State :=
  match s.claims.slot with
  | .inFlight q id tag _ =>
    if frTag b = tag then
      match s.returnFailure q b with
      | none => s.settleGranted q id
      | some f => s.settleFailed q id f
    else s
  | .free => s
  | .retryWait _ _ => s

/-- Remove a CLAIM of tag `t` that is still queued (R159). -/
def State.unqueueClaim (s : State) (t : Nat) : State :=
  s.onLoop (fun l => { l with queue := l.queue.filter (fun f => !(f.kind == .claim && f.tag == t)) })

/-- The claim timer of the slot is due (R84). -/
def State.claimDue (s : State) : Bool :=
  match s.claims.slot with
  | .inFlight _ _ _ t => Nat.ble t s.now
  | .free => false
  | .retryWait _ _ => false

/-- The retry timer of the slot is due (R85). -/
def State.retryDue (s : State) : Bool :=
  match s.claims.slot with
  | .inFlight _ _ _ _ => false
  | .free => false
  | .retryWait _ t => Nat.ble t s.now

/-- The claim timer expires: outcome LOST; a CLAIM still queued is removed first (R84, R159; log 33). -/
def State.claimExpires (s : State) : State :=
  match s.claims.slot with
  | .inFlight q id tag _ => (s.unqueueClaim tag).settleFailed q id (Final.bare .lost)
  | .free => s
  | .retryWait _ _ => s

/-- The retry timer expires: the local check again, then a new CLAIM or the final outcome REFUSED
(R85). -/
def State.retryExpires (s : State) : State :=
  match s.claims.slot with
  | .retryWait q _ =>
    let q1 := { q with retries := q.retries + 1 }
    match s.localCheck (s.ownHyp q.kind q.scope) with
    | some r => s.finalOutcome q1 ⟨.refused, 0, 0, 0, r.code⟩
    | none => s.sendClaim q1
  | .free => s
  | .inFlight _ _ _ _ => s

/-- A requester gives up its request (R86). -/
def State.giveUp (s : State) (who : Requester) : State :=
  match s.claims.slot with
  | .inFlight q id tag t =>
    if q.requester = who ∧ q.givenUp = false then
      s.setSlot (.inFlight { q with givenUp := true } id tag t)
    else s
  | .retryWait q _ =>
    if q.requester = who then s.finalOutcome q (Final.bare .abandoned) else s
  | .free => s

end Sys2Proof.Machine
end

