-- ==== Sys2Proof/Machine/Margin.lean ====
section
/-! DEFINITION. The margin state with its effects, what every event ends with, and the shape all
meanings share (R41, R45, R55, R67, R68). -/

namespace Sys2Proof.Machine

/-- An event that ends or gives up a test: a running test ends with the cause's verdict, a test being
claimed is given up with the cause unless one is already recorded (R41, R45). -/
def State.abortTest (s : State) (c : AbortCause) : State :=
  match s.job.state with
  | .running => s.endTest c.verdict
  | .claiming =>
    match s.job.givenUp with
    | none => (s.withJob { s.job with givenUp := some c }).giveUp .ageing
    | some _ => s
  | .idle => s

/-- The figures of the view as it stands (R65, R66). -/
def State.figuresNow (s : State) : Figures := s.policy.figures (s.totals [])

/-- The margin state R67 gives for the view as it stands. -/
def State.marginNow (s : State) : Margin :=
  let t := s.totals []
  match s.view.margin with
  | .normal => if s.policy.passes t then .normal else .deficit
  | .deficit => if s.policy.strengthened.passes t then .normal else .deficit

/-- One evaluation of the margin state: figures formed again, and the effects of a change (R67,
R68). -/
def State.marginStep (s : State) : State :=
  let f := s.figuresNow
  let m := s.marginNow
  let s1 := s.onView (fun v => { v with figures := f, margin := m })
  if s.view.margin = m then s1
  else match m with
    | .deficit =>
      ((s1.notify .deficitEnter 0 f.failMask f.headroom f.exposedBp).markStatus).abortTest .deficit
    | .normal => (s1.notify .deficitLeave 0 f.failMask f.headroom f.exposedBp).markStatus

/-- The evaluation that R67 asks for after an event, from JOIN onward. Where it changes the margin
state, what that change does to the view is evaluated once more (log 19). -/
def State.evalMargin (s : State) : State :=
  if s.joined then
    let s1 := s.marginStep
    if s1.view.margin = s.view.margin then s1 else s1.marginStep
  else s

/-- The end of an event that began in `s0`: the margin state evaluated (R67), and from JOIN onward one
STATUS where something R55 watches has changed. -/
def State.finish (s0 s : State) : State :=
  let s1 := s.evalMargin
  if s1.joined && (s1.statusDue || s1.reported != s0.reported) then s1.queueStatus else s1

/-- An event's body with the end every event has. -/
def State.runEvent (s : State) (body : State → State) : State :=
  State.finish s (body (s.withStatusDue false))

/-- The outcome of a row: its event where it can occur in the present state, the state itself where
it cannot (log 4). -/
def State.event (s : State) (guard : Bool) (body : State → State) :
    Host.Outcome State Fault Refusal :=
  .next (if s.running && guard then s.runEvent body else s)

end Sys2Proof.Machine
end

