-- ==== Sys2Proof/Machine/Ageing.lean ====
section
/-! DEFINITION. The ageing tick, the day boundary and the test limit (R16 to R19, R44). -/

namespace Sys2Proof.Machine

/-- The tick's work on string `k`: temperature and factor, the day boundary where `day`, the recompute
(R16 to R20). -/
def State.tickString (day : Bool) (s : State) (k : Nat) : State :=
  let s1 := s.onString k StringRec.tick
  (if day then s1.onString k StringRec.dayEnd else s1).recompute k

/-- One whole ageing tick: every configured string in turn, the tick count, the next tick (R16). -/
def State.wholeTick (s : State) : State :=
  let day := s.ticks.count == 1439
  let s1 := (List.range s.strings.length).foldl (State.tickString day) s
  s1.withTicks ⟨if day then 0 else s.ticks.count + 1, s.ticks.nextAt.map (fun t => t + 60000)⟩

/-- AGEING_TICK (R16). -/
def execAgeingTick (s : State) : Host.Outcome State Fault Refusal :=
  s.event (s.joined && s.isDue s.ticks.nextAt) State.wholeTick

/-- DAY_BOUNDARY: the 1440th tick of the day, which is a whole tick with the day boundary in it (R16,
R19; log 9). -/
def execDayBoundary (s : State) : Host.Outcome State Fault Refusal :=
  s.event (s.joined && s.isDue s.ticks.nextAt && s.ticks.count == 1439) State.wholeTick

/-- TEST_LIMIT_EXPIRY (R44). -/
def execTestLimitExpiry (s : State) : Host.Outcome State Fault Refusal :=
  s.event (s.job.state == .running && s.isDue s.job.limitAt) (fun s => s.endTest .inconclusive)

end Sys2Proof.Machine
end

