-- ==== Sys2Proof/Machine/SeqOps.lean ====
section
/-! DEFINITION. What the sequencer does at readiness, at a start of a return, and at a forced withdrawal
(R103, R108, R110, R111, R118). -/

namespace Sys2Proof.Machine

/-- The readiness test of SYNC_WAIT (R103): once ready, the BYPASS claim goes to the claim unit. -/
def State.testReady (s : State) : State :=
  if s.seq.state = .syncWait ∧ s.readyForBypass = true then
    let s1 := s.onSeq (fun q => { q with syncAt := none })
    let a := s1.requestClaim .sequencer .bypass .cabinet (s.seq.planned.getD 0)
    match a.1 with
    | .busy => a.2.goOnline.transferResult 0 resultBusy 0 0
    | .refused r => a.2.goOnline.transferResult 0 ClaimOutcome.refused.code 0 r.code
    | .sent _ => (a.2.goto .claiming).onSeq (fun q => { q with pending := true })
  else s

/-- BYP_OK re-formed, and readiness tested on it (R99, R103). -/
def State.formBypOk (s : State) : State :=
  (s.onSeq (fun q => { q with bypOk := s.bypOkNow })).testReady

/-- Enter SYNC_WAIT with the planned minutes stored and the sync timer running (R102). -/
def State.enterSyncWait (s : State) (planned : Nat) : State :=
  (s.goto .syncWait).onSeq (fun q => { q with
    planned := some planned, syncAt := some (s.now + s.cfg.syncTimeout * 1000) })

/-- Start a return to inverter: the present state is stored in `prior`, XFER_INV_REQ is asserted and
the transfer timer starts (R108, R113). -/
def State.startReturn (s : State) (mode : XferMode) : State :=
  ((s.goto .transferIn).onSeq (fun q => { q with prior := some s.seq.state })).startXfer .into mode

/-- Steps 1 to 3 of R110: the forced withdrawal recorded and announced, a test ended or given up, the
sequencer's own request superseded. -/
def State.forcedSteps (s : State) : State :=
  let s1 := s.recordForced.abortTest .bypass
  match s.seq.state with
  | .syncWait =>
    (s1.onSeq (fun q => { q with syncAt := none })).transferResult 0 resultSuperseded 0 0
  | .claiming => (s1.onSeq (fun q => { q with superseded := true })).giveUp .sequencer
  | .online => s1
  | .transferOut => s1
  | .onBypass => s1
  | .forced => s1
  | .latched => s1
  | .maint => s1
  | .transferIn => s1

/-- A forced transfer: a rise of SS_FB in ONLINE, SYNC_WAIT or CLAIMING (R110, R111). -/
def State.forcedTransfer (s : State) : State :=
  let h := historyWith s.now s.seq.history
  let s1 := s.forcedSteps.onSeq (fun q => { q with history := h, planned := none })
  if h.length = 4 then
    (s1.notify .bypassLatched s1.cabinetId h.length s.seq.state.code
      ForcedCause.unrequested.code).enterStatic .latched
  else
    (s1.notify .forcedBypass s1.cabinetId h.length s.seq.state.code
      ForcedCause.unrequested.code).enterStatic .forced

/-- The maintenance bypass closes while the segment is on inverter (R118). `planned_min` becomes
absent as in R110 (log 38). -/
def State.forcedMaint (s : State) : State :=
  let s1 := s.forcedSteps.onSeq (fun q => { q with planned := none })
  (s1.notify .forcedBypass s1.cabinetId s.seq.history.length s.seq.state.code
    ForcedCause.maintClosed.code).enterMaint .forced true

end Sys2Proof.Machine
end

