-- ==== Sys2Proof/Machine/CommandOps.lean ====
section
/-! DEFINITION. How a command is taken from the slot, its refusals, and the layouts of the reply results
(R181 to R183, R196, R197; log 15). -/

namespace Sys2Proof.Machine

/-- The row `row` takes the pending record, if it is the row that takes it (R181; log 5). -/
def State.command (s : State) (row : Instr) (body : List Byte → State → State) :
    Host.Outcome State Fault Refusal :=
  match s.host.slot with
  | .pending r _ => s.event (takenRow r == row) (body r)
  | .empty => .next s
  | .replied _ => .next s

/-- NOT_JOINED with the start-up state (R182, R183). -/
def State.notJoined (s : State) : State := s.answer .notJoined (le8 s.startup.state.code)

/-- A command taken in JOINED only (R182). -/
def State.whenJoined (s : State) (body : State → State) : State :=
  if s.joined then body s else s.notJoined

/-- BAD_ARG with the position of the first argument out of range, from 1 (R183; log 15). -/
def State.badArg (s : State) (position : Nat) : State := s.answer .badArg (le8 position)

/-- Result COMMAND of BAD_ARG (R182, R196). -/
def resultCommand : Nat := 1

/-- BAD_STATE with the condition that failed, 0 where the rule names none (R183, R202). -/
def State.badState (s : State) (condition : Nat) : State := s.answer .badState (le8 condition)

/-- STALE with the stage (R183). -/
def State.staleReply (s : State) : State := s.answer .stale (le8 s.dog.stage.code)

/-- REFUSED with the reason's code (R183). -/
def State.refusedReply (s : State) (reason : Nat) : State := s.answer .refused (le8 reason)

/-- BUSY (R183). -/
def State.busyReply (s : State) : State := s.answer .busy []

/-! ### Names of the conditions of BAD_STATE (R202) -/

/-- SEQUENCER -/
def condSequencer : Nat := 1
/-- TEST_EXISTS -/
def condTestExists : Nat := 2
/-- STRING_STATE -/
def condStringState : Nat := 3
/-- STRING_END -/
def condStringEnd : Nat := 4
/-- STRING_UNMEASURED -/
def condStringUnmeasured : Nat := 5
/-- SOC_LOW -/
def condSocLow : Nat := 6
/-- VISIT -/
def condVisit : Nat := 7
/-- TEST -/
def condTest : Nat := 8
/-- KEY -/
def condKey : Nat := 9
/-- STRING_TEST -/
def condStringTest : Nat := 10
/-- SCOPE -/
def condScope : Nat := 11
/-- STRING_ISOLATED -/
def condStringIsolated : Nat := 12
/-- MAINT -/
def condMaint : Nat := 13
/-- JOINED -/
def condJoined : Nat := 14

/-- Reason INV_FAULT (R202). -/
def codeInvFault : Nat := 10
/-- Reason NO_SYNC (R202). -/
def codeNoSync : Nat := 11

/-! ### Results of the reading commands (log 15) -/

/-- A `last_test` record (R30, R36). -/
def LastTest.bytes (t : LastTest) : List Byte :=
  le32 t.startMs ++ le16 t.socStart ++ le16 t.target ++ le16 t.limitMin ++ le32 t.delivered
  ++ leOpt 1 (fun v => le8 (Verdict.code v)) t.verdict ++ leOpt 4 le32 t.endMs ++ leOpt 2 le16 t.kappa

/-- The result of READ_STRING (R30). -/
def StringRec.bytes (r : StringRec) : List Byte :=
  le8 r.state.report.code ++ le8 r.cls.code ++ le8 r.report.flagCode
  ++ le32 r.q ++ le32 r.qFull ++ le16 r.soc ++ le16 r.u ++ le16 r.rho
  ++ le16 r.soh ++ le16 r.eUsable ++ le16 r.eAvail ++ le16 r.daysLeft
  ++ le32 r.aCal ++ le32 r.tDah ++ le16 r.deepCount ++ le16 r.dischEvents ++ le32 r.dischSeconds
  ++ le16 r.fDay ++ leList le32 r.resList ++ leOpt 4 le32 r.rRef ++ leOpt 2 le16 r.testCap
  ++ leOpt 24 LastTest.bytes r.lastTest ++ le16 r.captureRejects ++ leMark r.loaded

/-- The five totals (R65). -/
def Totals.bytes (t : Totals) : List Byte := le32 t.c ++ le32 t.l ++ le32 t.d ++ le32 t.x ++ le32 t.e

/-- The result of READ_FLOOR (R69); the three test results are 1 for pass and 0 for fail (DESIGN CHOICE,
log 42). -/
def State.floorBytes (s : State) : List Byte :=
  let f := s.view.figures
  le8 s.view.margin.code ++ f.totals.bytes ++ leInt16 f.headroom ++ le16 f.runtime ++ le16 f.exposedBp
  ++ leMark f.capacityOk ++ leMark f.energyOk ++ leMark f.exposureOk
  ++ le8 s.cfg.reservePct ++ le8 s.cfg.autonomyMin ++ le8 s.cfg.exposurePct
  ++ le8 (s.peersIn .present).length ++ le8 (s.peersIn .stale).length ++ le8 (s.peersIn .lost).length
  ++ le8 s.claims.list.length ++ leMark s.claims.incomplete ++ leMark s.view.duplicate

/-- A view entry as READ_VIEW reports it (R52, R70), its string reports in the four packed bytes that R198
gives a report in a STATUS core (DESIGN CHOICE, log 43). -/
def PeerEntry.bytes (e : PeerEntry) : List Byte :=
  le8 e.state.code ++ le8 e.lastSeq ++ leMark e.seqOpen ++ le16 e.age ++ e.core.bytes
  ++ leOpt 1 le8 e.claimInFlight ++ le8 (visitScopeCode e.visitScope) ++ le8 e.overdue.code

/-- The result of READ_VIEW for station `n` (R70). -/
def State.viewBytes (s : State) (n : Nat) : List Byte :=
  let t := s.contribution [] n
  (s.entry n).bytes ++ le16 t.d ++ le16 t.l ++ le16 t.x ++ le16 t.c ++ le32 t.e
  ++ leMark (s.covered [] n)

/-- An entry goes before another in the order of READ_WITHDRAWALS (R97). -/
def Withdrawal.before (a b : Withdrawal) : Bool :=
  Nat.blt a.owner b.owner || (a.owner == b.owner && Nat.ble a.claimId b.claimId)

/-- Insert an entry into a list in that order. -/
def insertEntry (x : Withdrawal) : List Withdrawal → List Withdrawal
  | [] => [x]
  | y :: l => if x.before y then x :: y :: l else y :: insertEntry x l

/-- The list in ascending order of owner and then claim id (R97). -/
def sortEntries : List Withdrawal → List Withdrawal
  | [] => []
  | x :: l => insertEntry x (sortEntries l)

/-- A withdrawal entry with every field of R71. -/
def Withdrawal.bytes (w : Withdrawal) : List Byte :=
  le8 w.owner ++ le8 w.claimId ++ le8 (kindScopeCode w.kind w.scope) ++ le8 (if w.active then 2 else 1)
  ++ leMark w.forced ++ leMark w.unsanctioned ++ leOpt 2 le16 w.planned ++ le32 w.enteredMs
  ++ leMark w.overdue

/-- The claim slot as READ_WITHDRAWALS reports it (R97). In FREE the four bytes of kind and scope, claim id,
retries and mark stand as zeros, with no presence byte (DESIGN CHOICE, log 44). -/
def Slot.bytes : Slot → List Byte
  | .free => le8 1 ++ [0#8, 0#8, 0#8, 0#8]
  | .inFlight q id _ _ =>
    le8 2 ++ le8 (kindScopeCode q.kind q.scope) ++ le8 id ++ le8 q.retries ++ leMark q.givenUp
  | .retryWait q _ =>
    le8 3 ++ le8 (kindScopeCode q.kind q.scope) ++ le8 0 ++ le8 q.retries ++ leMark q.givenUp

/-- The result of READ_WITHDRAWALS for position `i` (R97). -/
def State.withdrawalBytes (s : State) (i : Nat) : List Byte :=
  le8 s.claims.list.length ++ le8 s.ownWithdrawals.length ++ leMark s.claims.incomplete
  ++ le16 s.claims.lost ++ s.claims.slot.bytes
  ++ leOpt 14 Withdrawal.bytes (sortEntries s.claims.list)[i]?

/-- An action of a visit (R123, R142). -/
def VisitAction.bytes (a : VisitAction) : List Byte :=
  le8 a.kind.code ++ leOpt 1 le8 a.string ++ le32 a.ms ++ le16 a.value

/-- The fields of R122 up to `opened_ms`. -/
def Visit.headBytes (v : Visit) : List Byte :=
  le16 v.visitId ++ le32 v.tech ++ le8 v.scope.code ++ le16 v.planned ++ le32 v.openedMs

/-- State of a visit: ADMITTING 1, OPEN 2 (R122, R196). -/
def Visit.stateCode (v : Visit) : Nat := if v.admitting then 1 else 2

/-- The current visit with its elapsed minutes (R142). -/
def State.currentBytes (s : State) (v : Visit) : List Byte :=
  v.headBytes ++ le8 v.stateCode ++ leMark v.givenUp ++ le8 v.overdue.code
  ++ leList VisitAction.bytes v.actions ++ leMark v.actionsLost ++ leMark v.keyOut
  ++ le32 (s.visitMinutes v)

/-- A record of the history: every field but `given_up` and `key_out`, then the three of R124. -/
def ClosedVisit.bytes (c : ClosedVisit) : List Byte :=
  c.visit.headBytes ++ le8 c.visit.stateCode ++ le8 c.visit.overdue.code
  ++ leList VisitAction.bytes c.visit.actions ++ leMark c.visit.actionsLost ++ le32 c.closedMs
  ++ le8 (if c.admission.isSome then 2 else 1)
  ++ leOpt 2 (fun a => le8 (ClaimOutcome.code a.1) ++ leMark a.2) c.admission

/-- The head of every READ_VISIT result (R142). -/
def State.visitHead (s : State) : List Byte := le8 s.visit.history.length ++ le16 s.visit.counter

/-- The counts of one port (R163, R186). -/
def PortState.bytes (p : PortState) : List Byte :=
  le8 (upCode p.up) ++ le16 p.symErr ++ le16 p.frmErr ++ le8 p.lost ++ le16 p.circ ++ le16 p.overruns

/-- A frequency with its validity; the value of an invalid one is left open (R186; log 18). -/
def freqBytes (n : Nat) : Option Nat → List Byte
  | some f => le16 f ++ leMark true
  | none => le16 (Config.invalidFrequency n).toNat ++ leMark false

/-- The result of READ_COUNTERS (R186). Outside CONFIG_FAULT the places of the reason and the field index
are kept, each a zero byte (DESIGN CHOICE, log 50). Of the two lines the inverter's stands first, and a
validity behind its own frequency (DESIGN CHOICE, log 53). -/
def State.counterBytes (s : State) : List Byte :=
  le8 s.startup.state.code
  ++ le8 (match s.startup.reason with
      | some r => r.code
      | none => 0)
  ++ le8 s.startup.fieldIndex
  ++ s.loop.a.bytes ++ s.loop.b.bytes ++ le16 s.loop.ownDrops
  ++ le16 s.intake.skipped ++ le16 s.intake.repeated ++ le16 s.intake.short ++ le8 s.dog.stage.code
  ++ le16 s.host.rejected ++ le16 s.host.bad ++ le8 s.host.notices.length
  ++ freqBytes (2 * s.freeCount) s.phase.inv.freq ++ freqBytes (2 * s.freeCount + 1) s.phase.byp.freq
  ++ leOpt 2 le16 s.phase.inv.period ++ leOpt 2 le16 s.phase.byp.period
  ++ leInt16 s.phase.angle ++ le8 s.phase.lock
  ++ le8 s.seq.state.code ++ leOpt 1 (fun x => le8 (SeqState.code x)) s.seq.prior
  ++ leMark s.seq.pending ++ leList le32 s.seq.history

/-- A port with its counts at 0 (R163, R186). -/
def PortState.clearCounts (p : PortState) : PortState :=
  { p with symErr := 0, frmErr := 0, lost := 0, circ := 0, overruns := 0 }

/-- The clearable counts returned to 0 (R186). -/
def State.clearCounts (s : State) : State :=
  ((s.onLoop (fun l => { l with a := l.a.clearCounts, b := l.b.clearCounts, ownDrops := 0 })).onIntake
    (fun i => { i with skipped := 0, repeated := 0, short := 0 })).onHost
    (fun h => { h with rejected := 0, bad := 0 })

end Sys2Proof.Machine
end

