-- ==== Sys2Proof/WellFormed.lean ====
section
/-! DEFINITION. Which commands are well formed: operands in the ranges the spec gives them. -/

namespace Sys2Proof

/-- A first byte that names one of the five transaction kinds (R199). -/
def namesTxnKind (b : Byte) : Bool :=
  b == 0x0A#8 || b == 0x0C#8 || b == 0x0D#8 || b == 0x0E#8 || b == 0x0F#8

/-- A station number of the floor, 1 to 16 (R51). -/
def isStation (n : Nat) : Bool := 1 ≤ n && n ≤ 16

/-- An 8-bit id that is not 0: a claim id (R72) or a frame tag (R157). -/
def isId (n : Nat) : Bool := 1 ≤ n && n ≤ 255

/-- The operands of a command lie in their ranges: an image read is 98 bytes (R201), a measurement
frame 40 bytes at least and a command record 28 bytes at least (bytes beyond the record are
ignored, R179), a bad transaction's first byte names no kind, stations are 1 to 16 and ids 1 to 255. -/
def Instr.wf : Instr → Bool
  | .imageReadComplete bytes => bytes.length == 98
  | .measWrite bytes => 40 ≤ bytes.length
  | .cmdWrite bytes => 28 ≤ bytes.length
  | .badTransaction first => !namesTxnKind first
  | .peerStale n => isStation n
  | .peerLost n => isStation n
  | .provisionalHoldExpiry owner claimId => isStation owner && isId claimId
  | .withdrawalOverdue claimId => isId claimId
  | .inFlightTagExpiry tag => isId tag
  | .powerOn => true
  | .resetNFall => true
  | .resetNRise => true
  | .imageReadFailed => true
  | .imageReadRetry => true
  | .startWindowExpiry => true
  | .join => true
  | .reset => true
  | .resetTakesEffect => true
  | .loadAgeing => true
  | .readString => true
  | .readFloor => true
  | .readView => true
  | .readWithdrawals => true
  | .forgetStation => true
  | .readCounters => true
  | .reqBypass => true
  | .reqReturn => true
  | .reqTest => true
  | .abortTest => true
  | .openVisit => true
  | .isolate => true
  | .replace => true
  | .restore => true
  | .note => true
  | .closeVisit => true
  | .readVisit => true
  | .unknownCommand => true
  | .measTakeIn => true
  | .takeInEnd => true
  | .replyRead => true
  | .noticeRead => true
  | .statusRead => true
  | .symbolReceived _ _ => true
  | .lineBreak _ => true
  | .frameCompleted _ => true
  | .transmitNextFrame _ => true
  | .statusPeriod => true
  | .claimTimerExpiry => true
  | .retryTimerExpiry => true
  | .ageingTick => true
  | .dayBoundary => true
  | .testLimitExpiry => true
  | .hostStale => true
  | .unsupervised => true
  | .ssFbRise => true
  | .ssFbFall => true
  | .mbsClosedRise => true
  | .mbsClosedFall => true
  | .invOkRise => true
  | .invOkFall => true
  | .autoRetransfer => true
  | .syncFail => true
  | .confirmTimeout => true
  | .zcInvEdge => true
  | .zcBypEdge => true
  | .phaseCounterWrap => true
  | .keyOnFall => true
  | .keyOnRise => true
  | .visitOverdue => true
  | .visitLong => true
  | .powerOff => true
  | .transactionEndsEarly => true
  | .transactionBegins _ => true

end Sys2Proof
end

