-- ==== Sys2Proof/Machine/FloorCommands.lean ====
section
/-! DEFINITION. Commands of the floor view unit and the claim unit (R62, R69, R70, R97). -/

namespace Sys2Proof.Machine

/-- READ_FLOOR (R69). -/
def execReadFloor (s : State) : Host.Outcome State Fault Refusal :=
  s.command .readFloor (fun _ s => s.whenJoined (fun s => s.answer .ok s.floorBytes))

/-- READ_VIEW (R70). -/
def execReadView (s : State) : Host.Outcome State Fault Refusal :=
  s.command .readView (fun r s => s.whenJoined (fun s =>
    if isStation (arg8 r 0) then s.answer .ok (s.viewBytes (arg8 r 0)) else s.badArg 1))

/-- READ_WITHDRAWALS (R97). -/
def execReadWithdrawals (s : State) : Host.Outcome State Fault Refusal :=
  s.command .readWithdrawals (fun r s => s.whenJoined (fun s =>
    if 31 < arg8 r 0 then s.badArg 1 else s.answer .ok (s.withdrawalBytes (arg8 r 0))))

/-- An accepted FORGET_STATION: entry ABSENT, PEER_STATE raised, the station's withdrawals removed
(R62). -/
def State.forget (s : State) (n : Nat) : State :=
  ((s.setPeer n PeerEntry.blank).notify .peerState n EntryState.lost.code EntryState.absent.code
    PeerEntry.blank.core.period).removeEntries (fun w => w.owner == n)

/-- FORGET_STATION (R62). -/
def execForgetStation (s : State) : Host.Outcome State Fault Refusal :=
  s.command .forgetStation (fun r s => s.whenJoined (fun s =>
    let n := arg8 r 0
    if !isStation n then s.badArg 1
    else if n = s.own ∨ (s.peer n).state ≠ .lost then s.badState 0
    else (s.forget n).answer .ok (le8 (s.claims.list.filter (fun w => w.owner == n)).length)))

end Sys2Proof.Machine
end

