-- ==== Sys2Proof/Machine/FloorEvents.lean ====
section
/-! DEFINITION. Timers of the floor view unit and the claim unit (R55, R58, R84, R85, R90, R96). -/

namespace Sys2Proof.Machine

/-- STATUS_PERIOD: the status period has run out, and the event's end queues a STATUS (R55). -/
def execStatusPeriod (s : State) : Host.Outcome State Fault Refusal :=
  s.event (s.joined && s.isDue s.view.statusAt) State.markStatus

/-- A peer whose entry is in state `e` has been silent for more than `times` its period (R58). -/
def State.silentFor (s : State) (n : Nat) (e : EntryState) (times : Nat) : Bool :=
  s.joined && isStation n && n != s.own && (s.peer n).state == e
  && Nat.blt (times * (s.peer n).core.period) (s.peer n).age

/-- Change the state of a peer entry, with its notice (R58, R59). -/
def State.movePeer (s : State) (n : Nat) (x : EntryState) : State :=
  let e := s.peer n
  (s.setPeer n { e with state := x }).notify .peerState n e.state.code x.code e.core.period

/-- PEER_STALE (R58). -/
def execPeerStale (station : Nat) (s : State) : Host.Outcome State Fault Refusal :=
  s.event (s.silentFor station .present 3) (fun s => s.movePeer station .stale)

/-- PEER_LOST (R58). -/
def execPeerLost (station : Nat) (s : State) : Host.Outcome State Fault Refusal :=
  s.event (s.silentFor station .stale 20) (fun s => s.movePeer station .lost)

/-- A PROVISIONAL entry of a peer that has been held for 10 own status periods (R90). -/
def State.holdDue (s : State) (w : Withdrawal) : Bool :=
  !w.active && Nat.ble (w.enteredMs + 10 * s.cfg.statusPeriod) s.now

/-- PROVISIONAL_HOLD_EXPIRY (R90). -/
def execProvisionalHoldExpiry (owner claimId : Nat) (s : State) : Host.Outcome State Fault Refusal :=
  s.event (s.joined && s.claims.list.any (fun w => w.isFor owner claimId && s.holdDue w)) (fun s =>
    s.removeEntries (fun w => w.isFor owner claimId && s.holdDue w))

/-- CLAIM_TIMER_EXPIRY (R84). -/
def execClaimTimerExpiry (s : State) : Host.Outcome State Fault Refusal :=
  s.event s.claimDue State.claimExpires

/-- RETRY_TIMER_EXPIRY (R85). -/
def execRetryTimerExpiry (s : State) : Host.Outcome State Fault Refusal :=
  s.event s.retryDue State.retryExpires

/-- The planned time of own entry `w` has run out and it is not yet overdue (R96). -/
def State.overdueDue (s : State) (w : Withdrawal) : Bool :=
  w.owner == s.own && !w.kind.isTest && !w.overdue
  && w.planned.any (fun m => Nat.ble (w.enteredMs + m * 60000) s.now)

/-- Mark own entry `w` overdue, with its notice (R96). -/
def State.markOverdue (s : State) (w : Withdrawal) : State :=
  (s.updateEntries (fun x => x.isFor s.own w.claimId) (fun x => { x with overdue := true })).notify
    .withdrawalOverdue w.claimId w.kind.code w.scope.code (w.planned.getD 0)

/-- WITHDRAWAL_OVERDUE (R96). -/
def execWithdrawalOverdue (claimId : Nat) (s : State) : Host.Outcome State Fault Refusal :=
  s.event (s.joined && s.claims.list.any (fun w => w.claimId == claimId && s.overdueDue w)) (fun s =>
    match s.claims.list.find? (fun w => w.claimId == claimId && s.overdueDue w) with
    | some w => s.markOverdue w
    | none => s)

end Sys2Proof.Machine
end

