-- ==== Sys2Proof/Machine/LoopPorts.lean ====
section
/-! DEFINITION. Symbols, link state, transmission and tags of the loop ports (R143 to R148, R157 to
R160). -/

namespace Sys2Proof.Machine

/-! ### Link state (R145 to R147) -/

/-- Cause of a link going DOWN (R146). -/
inductive DownCause where
  | brk
  | farEnd
  deriving DecidableEq, Repr

/-- Code of a cause of LINK_DOWN (R146, R196). -/
def DownCause.code : DownCause → Nat
  | .brk => 1
  | .farEnd => 2

/-- A port as it goes DOWN: counted, counts from 0, what it carries discarded (R146, R147). -/
def PortState.goDown (p : PortState) : PortState :=
  { p with up := false, lost := satAdd 8 p.lost 1, hearing := 0, run := 0, rx := none, fwd := [],
           tx := none }

/-- The tag of the own frame that port `p` cuts off where it goes DOWN now: a frame in transmission whose
last symbol has not begun, since the symbol in progress is still sent (R147; log 11). -/
def State.sendingTag (s : State) (p : Port) : Option Nat :=
  match (s.port p).tx with
  | some t => if s.begun t (t.bytes.length - 1) then none else t.ownTag
  | none => none

/-- Remove an entry from the in-flight list; its tag is released (R157). -/
def State.endFlight (s : State) (tag : Nat) : State :=
  s.onLoop (fun l => { l with inFlight := l.inFlight.filter (fun f => f.tag != tag) })

/-- Port `p` goes DOWN (R146, R147). -/
def State.linkDown (s : State) (p : Port) (c : DownCause) : State :=
  let s1 := match s.sendingTag p with
    | some t => s.endFlight t
    | none => s
  let s2 := s1.onPort p PortState.goDown
  s2.notify .linkDown (portCode p) c.code (s2.port p).lost (upCode (s2.port (otherPort p)).up)

/-- Port `p` goes UP (R145). -/
def State.linkUp (s : State) (p : Port) : State :=
  let s1 := s.onPort p (fun x => { x with up := true })
  s1.notify .linkUp (portCode p) (upCode (s1.port (otherPort p)).up) (s1.port p).symErr 0

/-! ### Symbols (R143 to R145, R148) -/

/-- The count of ones over data, mark and parity is odd and the stop bit is high (R143, R144). -/
def symbolOk (y : Symbol) : Bool :=
  y.stop && (List.range 8).foldl (fun a i => a ^^ y.data.getLsbD i) (y.mark ^^ y.parity)

/-- A symbol error: counted, the frame being assembled discarded, the counts of a DOWN port restarted
(R144, R145). -/
def PortState.symbolError (p : PortState) : PortState :=
  { p with symErr := satAdd 16 p.symErr 1, rx := none
           hearing := if p.up then p.hearing else 0, run := if p.up then p.run else 0 }

/-- A marked symbol ends a frame that is not complete, which is counted (R148). -/
def PortState.endFrame (p : PortState) : PortState :=
  if p.rx.isSome then { p with rx := none, frmErr := satAdd 16 p.frmErr 1 } else p

/-- The counts of a DOWN port after a valid idle symbol (R145). -/
def PortState.hearIdle (p : PortState) : PortState :=
  if p.up then p else { p with hearing := min 8 (p.hearing + 1), run := min 8 (p.run + 1) }

/-- The counts of a DOWN port after a valid no-hear symbol (R145). -/
def PortState.hearNoHear (p : PortState) : PortState :=
  if p.up then p else { p with hearing := min 8 (p.hearing + 1), run := 0 }

/-- The run count of a DOWN port after a valid data symbol (R145). -/
def PortState.breakRun (p : PortState) : PortState := if p.up then p else { p with run := 0 }

/-- A data symbol that continues a frame: complete at 11 + length bytes, and then waiting to be handled, or
discarded with no count where the port is DOWN (R148). -/
def PortState.takeByte (b : Byte) (p : PortState) : PortState :=
  match p.rx with
  | none => p
  | some l =>
    let l1 := l ++ [b]
    if 11 ≤ l1.length ∧ l1.length = 11 + frLength l1 then
      { p with rx := none, completed := if p.up then p.completed ++ [l1] else p.completed }
    else { p with rx := some l1 }

/-- A valid symbol reaches port `p` (R143 to R148). -/
def State.takeSymbol (s : State) (p : Port) (y : Symbol) : State :=
  if y.mark then
    if y.data = idleData then
      let s1 := s.onPort p (fun x => x.endFrame.hearIdle)
      if !(s1.port p).up && (s1.port p).run == 8 then s1.linkUp p else s1
    else if y.data = noHearData then
      let s1 := s.onPort p (fun x => x.endFrame.hearNoHear)
      if (s1.port p).up then s1.linkDown p .farEnd else s1
    else s.onPort p (fun x => { x.endFrame.breakRun with rx := some [y.data] })
  else s.onPort p (fun x => x.breakRun.takeByte y.data)

/-- SYMBOL_RECEIVED (R143 to R148). -/
def execSymbolReceived (port : Port) (symbol : Symbol) (s : State) : Host.Outcome State Fault Refusal :=
  s.event true (fun s =>
    if symbolOk symbol then s.takeSymbol port symbol else s.onPort port PortState.symbolError)

/-- A break at a DOWN port: its counts restart, and a frame being assembled is discarded (R146,
R148). -/
def PortState.breakDown (p : PortState) : PortState := { p with hearing := 0, run := 0, rx := none }

/-- LINE_BREAK (R144, R146). -/
def execLineBreak (port : Port) (s : State) : Host.Outcome State Fault Refusal :=
  s.event true (fun s =>
    if (s.port port).up then s.linkDown port .brk else s.onPort port PortState.breakDown)

/-! ### Transmission and tags (R157, R158, R160) -/

/-- An own frame may start on port `p`: the forward buffer is empty, `p` is the own port, and the
in-flight list has room (R160). -/
def State.ownMayStart (s : State) (p : Port) : Bool :=
  (s.port p).fwd.isEmpty && s.ownPort == some p && Nat.blt s.loop.inFlight.length 32
  && !s.loop.queue.isEmpty

/-- The arbiter of port `p` has a frame to start (R160). -/
def State.mayTransmit (s : State) (p : Port) : Bool :=
  (s.port p).up && !s.busy p && (!(s.port p).fwd.isEmpty || s.ownMayStart p)

/-- Start the oldest forwarded frame `b` of port `p` (R160). -/
def State.startForward (s : State) (p : Port) (b : List Byte) : State :=
  s.onPort p (fun x => { x with fwd := x.fwd.drop 1, tx := some ⟨b, none, s.us + frameTime b⟩ })

/-- Start the oldest own frame `f` on port `p`; it becomes a frame in flight (R157, R160). -/
def State.startOwn (s : State) (p : Port) (f : OwnFrame) : State :=
  (s.onPort p (fun x => { x with tx := some ⟨f.bytes, some f.tag, s.us + frameTime f.bytes⟩ })).onLoop
    (fun l => { l with
      queue := l.queue.drop 1
      inFlight := l.inFlight ++ [⟨f.tag, f.kind, f.claimId, s.now⟩] })

/-- The choice of port `p`'s arbiter (R160). -/
def State.transmit (s : State) (p : Port) : State :=
  match (s.port p).fwd with
  | b :: _ => s.startForward p b
  | [] =>
    match s.loop.queue with
    | f :: _ => s.startOwn p f
    | [] => s

/-- TRANSMIT_NEXT_FRAME (R160). -/
def execTransmitNextFrame (port : Port) (s : State) : Host.Outcome State Fault Refusal :=
  s.event (s.mayTransmit port) (fun s => s.transmit port)

/-- The in-flight entry of `tag` is 100 ms old (R157). -/
def State.flightDue (s : State) (tag : Nat) : Bool :=
  s.loop.inFlight.any (fun f => f.tag == tag && Nat.ble (f.sentMs + 100) s.now)

/-- IN_FLIGHT_TAG_EXPIRY (R157). -/
def execInFlightTagExpiry (tag : Nat) (s : State) : Host.Outcome State Fault Refusal :=
  s.event (s.flightDue tag) (fun s => s.endFlight tag)

end Sys2Proof.Machine
end

