-- ==== Sys2Proof/Machine/Frames.lean ====
section
/-! DEFINITION. The completion of a frame at a port: take-in by the floor view unit and the claim unit,
return of own frames, forwarding and turning back (R56, R57, R60, R61, R78 to R80, R88, R89, R91, R94,
R140, R151 to R156). -/

namespace Sys2Proof.Machine

/-! ### Refreshing an entry (R56, R57, R59, R60, R140) -/

/-- A carried status period clamped to 50..1000 (R56). -/
def StatusCore.clamped (c : StatusCore) : StatusCore :=
  { c with period := max 50 (min 1000 c.period) }

/-- The policy an entry or a frame carries. -/
def StatusCore.policy (c : StatusCore) : Policy := ⟨c.reserve, c.autonomy, c.exposure⟩

/-- POLICY_MISMATCH is raised for a take-in that changes entry `old` to `new` (R60). -/
def State.policyNotice (s : State) (old new : PeerEntry) : Bool :=
  new.core.policy != s.policy && (old.state == .absent || old.core.policy != new.core.policy)

/-- The entry of station `n` takes the values `e` of a take-in, with the notices that follow: PEER_STATE,
POLICY_MISMATCH, PEER_VISIT_LONG (R59, R60, R140; log 20). -/
def State.refreshPeer (s : State) (n : Nat) (e : PeerEntry) : State :=
  let old := s.peer n
  let s1 := s.setPeer n e
  let s2 := if old.state = .present then s1
    else s1.notify .peerState n old.state.code EntryState.present.code e.core.period
  let s3 := if s.policyNotice old e then
      s2.notify .policyMismatch n e.core.reserve e.core.autonomy e.core.exposure
    else s2
  if e.core.flags.visitLong && !old.core.flags.visitLong then
    s3.notify .peerVisitLong n (visitScopeCode e.visitScope) e.overdue.code 0
  else s3

/-! ### STATUS (R56, R91) -/

/-- A STATUS of sequence `q` repeats or is older than what entry `e` holds (R56). -/
def PeerEntry.isOld (e : PeerEntry) (q : Nat) : Bool :=
  let d := (q + 256 - e.lastSeq) % 256
  e.state == .present && !e.seqOpen && (d == 0 || Nat.ble 128 d)

/-- The entry after a STATUS is taken in (R56). -/
def statusEntry (b : List Byte) : PeerEntry where
  state := .present
  lastSeq := body8 b 0
  seqOpen := false
  age := 0
  core := (coreOf b 1).clamped
  claimInFlight := idOf (body8 b 28)
  visitScope := scopeOf (body8 b 29)
  overdue := overdueOf (body8 b 30)

/-- One carried withdrawal of `owner` is taken into the list: an entry held becomes ACTIVE with the
carried values, another is added (R91). -/
def State.takeCarried (owner : Nat) (s : State) (c : Carried) : State :=
  if s.claims.list.any (fun w => w.isFor owner c.claimId) then
    s.updateEntries (fun w => w.isFor owner c.claimId) (fun w => { w with
      active := true, kind := c.kind, scope := c.scope, overdue := c.overdue
      forced := c.forced, unsanctioned := c.unsanctioned })
  else
    s.addPeerEntry
      ⟨owner, c.claimId, c.kind, c.scope, true, c.forced, c.unsanctioned, none, s.now, c.overdue⟩

/-- The list still holds this entry of an owner whose STATUS carried `cs` and `inFlight` (R91). -/
def Withdrawal.keptBy (cs : List Carried) (inFlight : Option Nat) (w : Withdrawal) : Bool :=
  cs.any (fun c => c.claimId == w.claimId) || (!w.active && inFlight == some w.claimId)

/-- The reconciliation of an owner's entries with its STATUS: carried ones first, then the removals
(R91; log 39). -/
def State.reconcile (s : State) (owner : Nat) (cs : List Carried) (inFlight : Option Nat) : State :=
  (cs.foldl (State.takeCarried owner) s).removeEntries
    (fun w => w.owner == owner && !w.keptBy cs inFlight)

/-- A STATUS from a peer is taken in (R56). -/
def State.takeStatus (s : State) (b : List Byte) : State :=
  let n := frOrigin b
  if (s.peer n).isOld (body8 b 0) then s
  else (s.refreshPeer n (statusEntry b)).reconcile n (carriedOf b) (idOf (body8 b 28))

/-! ### CLAIM (R57, R78 to R80) -/

/-- The entry after a CLAIM is taken in (R57). -/
def claimEntry (b : List Byte) (e : PeerEntry) : PeerEntry :=
  { e with state := .present, age := 0, core := (coreOf b 4).clamped, claimInFlight := some (body8 b 0)
           seqOpen := e.seqOpen || e.state != .present }

/-- The PROVISIONAL entry of a claim let pass (R80). -/
def State.provisional (s : State) (b : List Byte) : Withdrawal :=
  let ks := bodyKindScope b 1
  ⟨frOrigin b, body8 b 0, ks.1, ks.2, false, false, false, some (body16 b 2), s.now, false⟩

/-- A claim let pass: its entry stored, or the claim objected to after all where the list is full
(R80). -/
def State.letPass (s : State) (b : List Byte) : State × List Byte :=
  let w := s.provisional b
  if s.claims.list.any (fun x => x.isFor w.owner w.claimId) then
    (s.updateEntries (fun x => x.isFor w.owner w.claimId) (fun _ => w), b)
  else if s.listFull then (s.loseEntry w, writeObjection b s.own .viewFull)
  else (s.setList (s.claims.list ++ [w]), b)

/-- A CLAIM from a peer: the origin's entry is refreshed, the margin state evaluated, and the claim
judged (R57, R78 to R80). The second part is the frame as it goes on. -/
def State.takeClaim (s : State) (b : List Byte) : State × List Byte :=
  let n := frOrigin b
  let ks := bodyKindScope b 1
  let s1 := (s.refreshPeer n (claimEntry b (s.peer n))).evalMargin
  match s1.judge ⟨n, ks.1, ks.2⟩ with
  | some r => (s1, writeObjection b s.own r)
  | none => s1.letPass b

/-! ### GRANT, DROP, FORCED (R88, R89, R94) -/

/-- A GRANT is taken in (R88). -/
def State.takeGrant (s : State) (b : List Byte) : State :=
  let n := frOrigin b
  let ks := bodyKindScope b 1
  if s.claims.list.any (fun w => w.isFor n (body8 b 0)) then
    s.updateEntries (fun w => w.isFor n (body8 b 0)) (fun w => { w with active := true })
  else s.addPeerEntry ⟨n, body8 b 0, ks.1, ks.2, true, false, false, none, s.now, false⟩

/-- A DROP is taken in (R89). -/
def State.takeDrop (s : State) (b : List Byte) : State :=
  s.removeEntries (fun w => w.isFor (frOrigin b) (body8 b 0))

/-- A FORCED is taken in (R94). -/
def State.takeForced (s : State) (b : List Byte) : State :=
  let n := frOrigin b
  let ks := bodyKindScope b 1
  if s.claims.list.any (fun w => w.isFor n (body8 b 0)) then
    s.updateEntries (fun w => w.isFor n (body8 b 0)) (fun w => { w with
      active := true, kind := ks.1, scope := ks.2, unsanctioned := forcedMark b })
  else s.addPeerEntry ⟨n, body8 b 0, ks.1, ks.2, true, true, forcedMark b, none, s.now, false⟩

/-- The first meeting with a frame: own bit set, content handed on (R153). The second part is the
frame as it goes on. -/
def State.takeIn (s : State) (b : List Byte) : State × List Byte :=
  let b1 := setVisited b s.own
  match frameKindOf (byteAt b 0) with
  | some .status => (s.takeStatus b, b1)
  | some .claim => s.takeClaim b1
  | some .grant => (s.takeGrant b, b1)
  | some .drop => (s.takeDrop b, b1)
  | some .forced => (s.takeForced b, b1)
  | none => (s, b1)

/-! ### Own and duplicate frames (R61, R152) -/

/-- A frame of the own number with an unknown tag: the duplicate fault (R61, R152). -/
def State.foundDuplicate (s : State) (p : Port) (b : List Byte) : State :=
  match frameKindOf (byteAt b 0) with
  | some .grant => s
  | some .drop => s
  | none => s
  | some k =>
    if s.view.duplicate then s
    else (s.onView (fun v => { v with duplicate := true })).notify .duplicateStation s.own k.byte.toNat
      (frTag b) (portCode p)

/-- An own frame is home: removed, its tag released, a CLAIM handed to the claim unit (R152). -/
def State.comeHome (s : State) (b : List Byte) : State :=
  let s1 := s.endFlight (frTag b)
  if frameKindOf (byteAt b 0) = some .claim then s1.claimReturned b else s1

/-! ### Forwarding and turning back (R155, R156, R160) -/

/-- Bytes waiting in a forward buffer (R160). -/
def waiting (q : List (List Byte)) : Nat := (q.map List.length).sum

/-- A forwarded frame joins a forward buffer of 256 bytes, or is an overrun (R160). -/
def PortState.joinForward (b : List Byte) (p : PortState) : PortState :=
  if waiting p.fwd + b.length ≤ 256 then { p with fwd := p.fwd ++ [b] }
  else { p with overruns := satAdd 16 p.overruns 1 }

/-- Count a circulating discard (R155). -/
def PortState.countCirculating (p : PortState) : PortState := { p with circ := satAdd 16 p.circ 1 }

/-- Forward a frame that arrived on `arrival` by port `leave`: hop count stepped, or the frame discarded
above 64 (R155). -/
def State.forwardBy (s : State) (arrival leave : Port) (b : List Byte) : State :=
  if 64 < frHops b + 1 then s.onPort arrival PortState.countCirculating
  else s.onPort leave (PortState.joinForward (setHops b (frHops b + 1)))

/-- Forward a frame completed on port `p`: by the other port, or, where that is DOWN, turned back there
and forwarded by `p` (R155, R156; log 30). -/
def State.forward (s : State) (p : Port) (b : List Byte) : State :=
  if (s.port (otherPort p)).up then s.forwardBy p (otherPort p) b else s.forwardBy (otherPort p) p b

/-- A JOINED station completes a frame bearing its own number (R152, R156). -/
def State.handleOwn (s : State) (p : Port) (b : List Byte) : State :=
  if s.loop.inFlight.any (fun f => f.tag == frTag b) then
    match p with
    | .a => s.comeHome b
    | .b => if s.loop.a.up then s.forward .b b else s.comeHome b
  else (s.foundDuplicate p b).forward p b

/-- A good frame completed at port `p` (R151). -/
def State.handleFrame (s : State) (p : Port) (b : List Byte) : State :=
  if !s.joined then s.forward p b
  else if frOrigin b = s.own then s.handleOwn p b
  else if maskHas (frVisited b) s.own then s.forward p b
  else
    let t := s.takeIn b
    t.1.forward p t.2

/-- A frame completed at port `p` is checked and handled (R148, R149, R151). -/
def State.checkFrame (s : State) (p : Port) (b : List Byte) : State :=
  if !(s.port p).up then s
  else if frameOk b then s.handleFrame p b
  else s.onPort p (fun x => { x with frmErr := satAdd 16 x.frmErr 1 })

/-- FRAME_COMPLETED: the oldest frame assembled at the port and not yet handled (R148, R151;
log 10). -/
def execFrameCompleted (port : Port) (s : State) : Host.Outcome State Fault Refusal :=
  s.event (!(s.port port).completed.isEmpty) (fun s =>
    match (s.port port).completed with
    | b :: rest => (s.onPort port (fun x => { x with completed := rest })).checkFrame port b
    | [] => s)

end Sys2Proof.Machine
end

