-- ==== Sys2Proof/Machine/HostPort.lean ====
section
/-! DEFINITION. Host port transactions (R165, R179 to R181, R185, R188, R189, R197, R199). -/

namespace Sys2Proof.Machine

/-! ### Records the port shifts out -/

/-- The bytes of a reply record (R197). -/
def Reply.bytes (r : Reply) : List Byte :=
  [r.cmd, r.seq, BitVec.ofNat 8 r.code.code, BitVec.ofNat 8 r.result.length] ++ r.result

/-- The empty reply (R183, R197). -/
def Reply.emptyBytes : List Byte := [0#8, 0#8, 0#8, 0#8]

/-- The bytes of a notice record (R199). -/
def Notice.bytes (n : Notice) : List Byte :=
  le8 n.kind.code ++ le8 0 ++ le16 n.subject.toNat ++ le16 n.v1.toNat ++ le16 n.v2.toNat
  ++ le16 n.v3.toNat ++ le32 n.time.toNat

/-- The empty notice, whose kind is NONE (R180). -/
def Notice.emptyBytes : List Byte := List.replicate 14 0#8

/-! ### Buffers -/

/-- The index of the first buffer in role `r`. -/
def State.bufferIn (s : State) (r : BufferRole) : Option Nat :=
  s.intake.buffers.findIdx? (fun b => b.role == r)

/-- Some buffer is in role `r`. -/
def State.hasBuffer (s : State) (r : BufferRole) : Bool :=
  s.intake.buffers.any (fun b => b.role == r)

/-- `s` with the role of buffer `i` changed. -/
def State.setRole (s : State) (i : Nat) (r : BufferRole) : State :=
  s.onIntake (fun x => { x with buffers := x.buffers.modify i (fun b => { b with role := r }) })

/-! ### Opening and ending a transaction -/

/-- The kind of an open transaction. -/
def Txn.kind : Txn → TxnKind
  | .measWrite _ => .measWrite
  | .cmdWrite => .cmdWrite
  | .replyRead _ => .replyRead
  | .noticeRead _ => .noticeRead
  | .statusRead _ => .statusRead

/-- The reply a REPLY_READ captures (R180). -/
def CmdSlot.reply : CmdSlot → Option Reply
  | .empty => none
  | .pending _ _ => none
  | .replied r => some r

/-- Count a bad transaction (R179). -/
def HostPort.countBad (h : HostPort) : HostPort := { h with bad := satAdd 16 h.bad 1 }

/-- The bytes a REPLY_READ shifts out: the captured reply, or the empty one (R180, R183). -/
def replyRecord : Option Reply → List Byte
  | some r => r.bytes
  | none => Reply.emptyBytes

/-- The bytes a NOTICE_READ shifts out: the captured notice, or the empty one (R180, R188). -/
def noticeRecord : Option Notice → List Byte
  | some n => n.bytes
  | none => Notice.emptyBytes

/-- `s` with no transaction open and `b` as the record last shifted out. -/
def State.closeRead (s : State) (b : List Byte) : State :=
  s.onHost (fun h => { h with txn := none, shifted := b })

/-- The open transaction ends early: a MEAS_WRITE buffer returns to FREE as a short write, a CMD_WRITE
is a bad transaction, a read removes nothing, and what it shifted out was the captured record (R165, R179,
R180). -/
def State.endEarly (s : State) : State :=
  match s.host.txn with
  | none => s
  | some t =>
    let s1 := s.onHost (fun h => { h with txn := none })
    match t with
    | .measWrite b =>
      (match b with
        | some i => s1.setRole i .free
        | none => s1).onIntake (fun x => { x with short := satAdd 16 x.short 1 })
    | .cmdWrite => s1.onHost HostPort.countBad
    | .replyRead r => s.closeRead (replyRecord r)
    | .noticeRead n => s.closeRead (noticeRecord n)
    | .statusRead w => s.closeRead w.bytes

/-- The kind byte of a transaction is received: a read captures its record, a MEAS_WRITE takes a FREE
buffer (R165, R180). -/
def State.openTxn (s : State) (k : TxnKind) : State :=
  let t : Txn := match k with
    | .measWrite => .measWrite (s.bufferIn .free)
    | .cmdWrite => .cmdWrite
    | .replyRead => .replyRead s.host.slot.reply
    | .noticeRead => .noticeRead s.host.notices.head?
    | .statusRead => .statusRead s.statusWord
  let s1 := s.onHost (fun h => { h with txn := some t })
  match t with
  | .measWrite (some i) => s1.setRole i .writing
  | .measWrite none => s1
  | .cmdWrite => s1
  | .replyRead _ => s1
  | .noticeRead _ => s1
  | .statusRead _ => s1

/-- A completion of kind `k` can occur: the open transaction is of that kind, or none is open and the
row stands for a whole transaction (log 7). -/
def State.mayComplete (s : State) (k : TxnKind) : Bool :=
  match s.host.txn with
  | none => true
  | some t => t.kind == k

/-- The transaction a completion of kind `k` ends: the open one, or one opened now (log 7). -/
def State.opened (s : State) (k : TxnKind) : State :=
  if s.host.txn.isSome then s else s.openTxn k

/-- The data byte at position `i` of the last read, or transaction naming no kind, that has ended: the record
it captured, as far as the host clocked it, and FFh for every byte clocked beyond it. A transaction that named
no kind has no record, so all its bytes read FFh (R179, R180). -/
def HostPort.dataOut (h : HostPort) (i : Nat) : Byte := h.shifted.getD i 0xFF#8

/-! ### Completions -/

/-- The whole measurement frame has been written: its buffer becomes READY and a READY frame it
replaces is superseded (R165). -/
def State.measWritten (s : State) (b : List Byte) : State :=
  match s.host.txn with
  | some (.measWrite (some i)) =>
    let sk := if s.hasBuffer .ready then satAdd 16 s.intake.skipped 1 else s.intake.skipped
    (s.onHost (fun h => { h with txn := none })).onIntake (fun x => { x with
      skipped := sk
      buffers := (x.buffers.map (fun c => if c.role = .ready then { c with role := .free } else c)).set i
        ⟨.ready, b.take 40⟩ })
  | some (.measWrite none) => s.onHost (fun h => { h with txn := none })
  | some .cmdWrite => s
  | some (.replyRead _) => s
  | some (.noticeRead _) => s
  | some (.statusRead _) => s
  | none => s

/-- A whole command record has been written: it enters an EMPTY slot, and is counted as rejected
otherwise (R181). -/
def State.cmdWritten (s : State) (b : List Byte) : State :=
  s.onHost (fun h =>
    match h.slot with
    | .empty => { h with txn := none, slot := .pending (b.take 28) s.us }
    | .pending _ _ => { h with txn := none, rejected := satAdd 16 h.rejected 1 }
    | .replied _ => { h with txn := none, rejected := satAdd 16 h.rejected 1 })

/-- A reply read completes: a captured reply leaves the slot, and the reply of a RESET lets the reset
take effect (R181, R185). The reset itself is the row RESET_TAKES_EFFECT, so that a row queued before it
still meets the part as it was (DESIGN CHOICE, log 51). -/
def State.replyTaken (s : State) : State :=
  match s.host.txn with
  | some (.replyRead (some r)) =>
    (s.closeRead (replyRecord (some r))).onHost
      (fun h => { h with slot := .empty, resetNow := h.resetAt.isSome })
  | some (.replyRead none) => s.closeRead (replyRecord none)
  | some (.measWrite _) => s
  | some .cmdWrite => s
  | some (.noticeRead _) => s
  | some (.statusRead _) => s
  | none => s

/-- A notice read completes: a captured notice leaves the head of the queue and NOTICE_IRQ is
re-formed (R180, R188). -/
def State.noticeTaken (s : State) : State :=
  match s.host.txn with
  | some (.noticeRead (some n)) =>
    (s.closeRead (noticeRecord (some n))).onHost (fun h =>
      { h with notices := h.notices.drop 1, irq := !(h.notices.drop 1).isEmpty })
  | some (.noticeRead none) => s.closeRead (noticeRecord none)
  | some (.measWrite _) => s
  | some .cmdWrite => s
  | some (.replyRead _) => s
  | some (.statusRead _) => s
  | none => s

/-- A status read completes: the overflow count is lowered by the value reported (R189). -/
def State.statusTaken (s : State) : State :=
  match s.host.txn with
  | some (.statusRead w) =>
    (s.closeRead w.bytes).onHost (fun h => { h with overflow := h.overflow - w.overflow })
  | some (.measWrite _) => s
  | some .cmdWrite => s
  | some (.replyRead _) => s
  | some (.noticeRead _) => s
  | none => s

/-! ### The rows -/

/-- TRANSACTION_BEGINS: a transaction still open ended when chip select rose before this one (R180;
log 7). -/
def execTransactionBegins (kind : TxnKind) (s : State) : Host.Outcome State Fault Refusal :=
  s.event true (fun s => s.endEarly.openTxn kind)

/-- TRANSACTION_ENDS_EARLY (R179). -/
def execTransactionEndsEarly (s : State) : Host.Outcome State Fault Refusal :=
  s.event s.host.txn.isSome State.endEarly

/-- MEAS_WRITE (R165, R179); fewer than 40 bytes end it early. The written buffer stays READY until
MEAS_TAKE_IN comes (log 46). -/
def execMeasWrite (bytes : List Byte) (s : State) : Host.Outcome State Fault Refusal :=
  s.event (s.mayComplete .measWrite) (fun s =>
    let s1 := s.opened .measWrite
    if bytes.length < 40 then s1.endEarly else s1.measWritten bytes)

/-- CMD_WRITE (R179, R181); fewer than 28 bytes end it early. -/
def execCmdWrite (bytes : List Byte) (s : State) : Host.Outcome State Fault Refusal :=
  s.event (s.mayComplete .cmdWrite) (fun s =>
    let s1 := s.opened .cmdWrite
    if bytes.length < 28 then s1.endEarly else s1.cmdWritten bytes)

/-- REPLY_READ (R180, R181). -/
def execReplyRead (s : State) : Host.Outcome State Fault Refusal :=
  s.event (s.mayComplete .replyRead) (fun s => (s.opened .replyRead).replyTaken)

/-- NOTICE_READ (R180, R188). -/
def execNoticeRead (s : State) : Host.Outcome State Fault Refusal :=
  s.event (s.mayComplete .noticeRead) (fun s => (s.opened .noticeRead).noticeTaken)

/-- STATUS_READ (R180, R189). -/
def execStatusRead (s : State) : Host.Outcome State Fault Refusal :=
  s.event (s.mayComplete .statusRead) (fun s => (s.opened .statusRead).statusTaken)

/-- BAD_TRANSACTION: a first byte that names no kind is counted and the rest ignored; no record is shifted
out, so that every byte the host clocks reads FFh, as `HostPort.dataOut` gives it (R179; log 8). -/
def execBadTransaction (first : Byte) (s : State) : Host.Outcome State Fault Refusal :=
  s.event (!namesTxnKind first) (fun s => (s.endEarly.onHost HostPort.countBad).closeRead [])

end Sys2Proof.Machine
end

