-- ==== Sys2Proof/Machine/Intake.lean ====
section
/-! DEFINITION. The measurement take-in and the host watchdog (R9, R35, R165 to R174). -/

namespace Sys2Proof.Machine

/-! ### Samples (R168, R169) -/

/-- A temperature clamped to −400..850 (R168). -/
def clampTemp (t : Int) : Int := max (-400) (min 850 t)

/-- The held sample and hold count after a sample (R168, R169). -/
def Hold.after (h : Hold) (x : Sample) : Hold :=
  if x.valid then ⟨x.voltage, x.current, clampTemp x.temperature, 0⟩
  else { h with count := min 11 (h.count + 1) }

/-- The string's flags after a sample; `h` is the hold state after it (R168, R169). -/
def StringRec.takeFlags (h : Hold) (x : Sample) (r : StringRec) : StringRec :=
  if x.valid then
    { r with unmeasured := false, tempSuspect := clampTemp x.temperature != x.temperature }
  else if h.count = 11 then { r with unmeasured := true } else r

/-- What is handed to the ageing unit; `h` is the hold state after the sample (R168, R169). -/
def handedOf (h : Hold) (x : Sample) : Handed :=
  if x.valid then ⟨true, x.voltage, x.current, clampTemp x.temperature⟩
  else if h.count = 11 then ⟨false, 0, 0, 0⟩
  else ⟨false, h.voltage, h.current, h.temperature⟩

/-! ### One string at one take-in (R35) -/

/-- The counting step of a joined take-in with the test's delivered charge, or the baseline's setting
of I_ref; then the temperature (R9 to R17, R42). -/
def StringRec.countIn (p : StringParams) (base running : Bool) (dt : Nat) (h : Handed)
    (r : StringRec) : StringRec :=
  if base then (r.setBaselineRef false h.current).takeTemp true h.temperature
  else
    let out := r.deliveredAs p h.current dt
    let r1 := r.count p false h.current dt
    (if running then r1.addDelivered out else r1).takeTemp true h.temperature

/-- Replace the capture baseline (R31). -/
def StringRec.setBaseline (h : Handed) (r : StringRec) : StringRec :=
  { r with baseline := some ⟨h.voltage, h.current, h.valid, r.state⟩ }

/-- What a take-in does for string `k` from JOIN onward, in the order of R35. -/
def State.stringTakeIn (base : Bool) (dt k : Nat) (h : Handed) (s : State) : State :=
  let running := s.job.state == .running && s.job.k == k
  let s1 := s.onString k (StringRec.countIn (s.params k) base running dt h)
  let s2 := if base then s1 else s1.tryCapture k h
  (s2.testEndCheck k h).onString k (StringRec.setBaseline h)

/-- What a take-in does for string `k`: sample, flags, then counting and checks; in the start window
T_last and the flags alone (R9, R168 to R170). -/
def State.takeString (f : MeasFrame) (base : Bool) (dt : Nat) (s : State) (k : Nat) : State :=
  let x := f.samples.getD k ⟨false, 0, 0, 0⟩
  let h := (s.intake.holds.getD k Hold.blank).after x
  let s1 := (s.onIntake (fun i => { i with holds := i.holds.set k h })).onString k
    (StringRec.takeFlags h x)
  if s.joined then s1.stringTakeIn base dt k (handedOf h x)
  else s1.onString k (fun r => (r.takeTemp false (handedOf h x).temperature).formAvail false)

/-! ### The take-in (R166, R167, R170, R171, R174) -/

/-- The cabinet figures and the time base of a take-in (R166, R167). -/
def Intake.takeFigures (f : MeasFrame) (pRated us : Nat) (i : Intake) : Intake :=
  { i with lastCounter := some f.counter, lastTakeMs := some (us / 1000), inUseSince := some us
           pAvail := min pRated f.pAvail, load := f.load, vBypass := f.vBypass }

/-- The interval of a counting step: ms since the previous take-in, clamped to 1..host_timeout
(R9). -/
def State.interval (s : State) : Nat :=
  max 1 (min s.cfg.hostTimeout (s.now - s.intake.lastTakeMs.getD s.now))

/-- The watchdog at a take-in: restarted from JOIN onward, its stages and the UNSUPERVISED line ended
(R171, R174). -/
def State.feedDog (s : State) : State :=
  if s.joined then
    (s.withDog ⟨.watching, some (s.now + s.cfg.hostTimeout)⟩).onOuts
      (fun o => { o with unsupervised := false })
  else s

/-- Milliseconds since the previous take-in, saturating (R172, R174); left open before any take-in
(log 17). -/
def State.sinceTakeIn (s : State) : Half × State :=
  match s.intake.lastTakeMs with
  | some t => (half (min 65535 (s.now - t) : Nat), s)
  | none => s.draw

/-- The counter of the last frame taken in (R172); left open before any take-in (log 17). -/
def State.lastCounterValue (s : State) : Half × State :=
  match s.intake.lastCounter with
  | some c => (half c, s)
  | none => s.draw

/-- Notice HOST_BACK of a take-in that ended stage `left` (R174). -/
def State.hostBack (s : State) (left : DogStage) (counter : Nat) (since : Half) : State :=
  s.raise .hostBack 0 (half left.code) (half counter) since

/-- The body of a take-in, R170's hand-over included, with the margin state evaluated before the
sequencer's readiness test (log 37). -/
def State.handOver (f : MeasFrame) (base : Bool) (dt : Nat) (s : State) : State :=
  let s1 := (List.range s.strings.length).foldl (State.takeString f base dt) s
  let s2 := if s.joined then s1.onIntake (fun i => { i with baselineNext := false }) else s1
  s2.evalMargin.formBypOk

/-- A frame is taken in (R166, R170, R174). -/
def State.takeFrame (f : MeasFrame) (s : State) : State :=
  let silent := s.hostSilent
  let base := s.intake.baselineNext || silent
  let dt := s.interval
  if silent then
    let v := s.sinceTakeIn
    let s1 := (v.2.onIntake (Intake.takeFigures f s.cfg.pRated s.us)).feedDog
    (s1.handOver f base dt).evalMargin.hostBack s.dog.stage f.counter v.1
  else ((s.onIntake (Intake.takeFigures f s.cfg.pRated s.us)).feedDog).handOver f base dt

/-- The READY buffer `i` is examined (R166). -/
def State.examine (s : State) (i : Nat) : State :=
  let f := measOf ((s.intake.buffers.getD i ⟨.free, []⟩).bytes)
  if s.inWindow || s.joined then
    if s.intake.lastCounter = some f.counter then
      (s.setRole i .free).onIntake (fun x => { x with repeated := satAdd 16 x.repeated 1 })
    else (s.setRole i .inUse).takeFrame f
  else s.setRole i .free

/-- MEAS_TAKE_IN (R166, R170). A buffer stays READY until this row comes, so that a MEAS_WRITE queued before
it supersedes the frame (DESIGN CHOICE, log 46). -/
def execMeasTakeIn (s : State) : Host.Outcome State Fault Refusal :=
  s.event (s.hasBuffer .ready && !s.hasBuffer .inUse) (fun s =>
    match s.bufferIn .ready with
    | some i => s.examine i
    | none => s)

/-- TAKE_IN_END: the buffer in use returns to FREE (R166). -/
def execTakeInEnd (s : State) : Host.Outcome State Fault Refusal :=
  s.event (s.hasBuffer .inUse) (fun s =>
    match s.bufferIn .inUse with
    | some i => (s.setRole i .free).onIntake (fun x => { x with inUseSince := none })
    | none => s)

/-! ### The watchdog's expiries (R172, R173) -/

/-- Raise HOST_STALE or UNSUPERVISED with the three values of R172. -/
def State.dogNotice (s : State) (k : NoticeKind) : State :=
  let c := s.lastCounterValue
  let t := c.2.sinceTakeIn
  t.2.raise k 0 (half s.dog.stage.code) c.1 t.1

/-- The watchdog enters HOST_STALE (R172). -/
def State.goStale (s : State) : State :=
  let s1 := (s.withDog ⟨.hostStale, some (s.now + s.cfg.hostTimeout)⟩).formAllAvail
  let s2 := (s1.onIntake (fun i => { i with baselineNext := true })).abortTest .stale
  s2.evalMargin.dogNotice .hostStale

/-- The watchdog enters UNSUPERVISED (R173). -/
def State.goUnsupervised (s : State) : State :=
  (((s.withDog ⟨.unsupervised, none⟩).onOuts (fun o => { o with unsupervised := true })).evalMargin).dogNotice
    .unsupervised

/-- HOST_STALE (R172). -/
def execHostStale (s : State) : Host.Outcome State Fault Refusal :=
  s.event (s.joined && s.dog.stage == .watching && s.isDue s.dog.expiresAt) State.goStale

/-- UNSUPERVISED (R173). -/
def execUnsupervised (s : State) : Host.Outcome State Fault Refusal :=
  s.event (s.joined && s.dog.stage == .hostStale && s.isDue s.dog.expiresAt) State.goUnsupervised

end Sys2Proof.Machine
end

