-- ==== Sys2Proof/Machine/PhaseCapture.lean ====
section
/-! DEFINITION. Zero crossings, cycles, the lock and the counter's wrap; the clock's advance (R2, R58,
R175 to R178). -/

namespace Sys2Proof.Machine

/-- The difference of two captures, modulo 65536 (R175). -/
def capDiff (new old : Nat) : Nat := (new + 65536 - old) % 65536

/-- The frequency a period gives, where it is valid (R176). -/
def freqOf (period : Nat) : Option Nat :=
  if inRange period 15385 22222 && inRange (100000000 / period) 4500 6500 then
    some (100000000 / period)
  else none

/-- A capture of a line's edge at counter value `c` lies a full count or more after the last edge
(R176, R177). -/
def ZcLine.overWrapped (z : ZcLine) (last c : Nat) : Bool := z.wraps == 1 && Nat.ble last c

/-- A rising edge at counter value `c` (R175, R176). -/
def ZcLine.edge (c : Nat) (z : ZcLine) : ZcLine :=
  match z.tLast with
  | none => { z with tLast := some c, wraps := 0 }
  | some t =>
    if z.overWrapped t c then ⟨some c, none, 0, none⟩
    else ⟨some c, some (capDiff c t), 0, freqOf (capDiff c t)⟩

/-- The line after a wrap of the counter; at the second without an edge it has no edges (R175,
R176). -/
def ZcLine.wrap (z : ZcLine) : ZcLine :=
  if z.wraps = 0 then { z with wraps := 1 }
  else if z.wraps = 1 then ⟨none, none, 2, none⟩
  else z

/-- A wrap declares the line to have no edges (R176). -/
def ZcLine.declares (z : ZcLine) : Bool := z.wraps == 1

/-- The phase angle of a cycle at a bypass capture `c`, where a usable inverter edge gives one
(R177). -/
def angleOf (inv byp : ZcLine) (c : Nat) : Option Int :=
  match inv.tLast, byp.period with
  | some t, some p =>
    let d := capDiff c t
    if inv.overWrapped t c || Nat.ble p d then none
    else
      let a := d * 3600 / p
      some (if 1800 ≤ a then (a : Int) - 3600 else a)
  | _, _ => none

/-- A cycle with angle `a` is good (R178). -/
def goodCycle (slip window : Nat) (inv byp : ZcLine) (a : Option Int) : Bool :=
  match inv.freq, byp.freq, a with
  | some fi, some fb, some x => Nat.ble (fb - fi + (fi - fb)) slip && Nat.ble x.natAbs window
  | _, _, _ => false

/-- Cycles are evaluated from entry to START_WINDOW (R178). -/
def State.evaluating (s : State) : Bool := s.inWindow || s.joined

/-- The phase capture unit after one cycle is evaluated (R177, R178). -/
def Phase.cycle (slip window c : Nat) (p : Phase) : Phase :=
  let a := angleOf p.inv p.byp c
  { p with
    angle := a.getD p.angle
    lock := if goodCycle slip window p.inv p.byp a then min 4 (p.lock + 1) else 0 }

/-- One cycle at a ZC_BYP edge, with what the sequencer does at the re-check and at a lock gained
(R100, R103, R177, R178). -/
def State.evalCycle (s : State) : State :=
  let s1 := s.onPhase (Phase.cycle s.cfg.slipMax s.cfg.syncWindow s.counter)
  if s.joined then
    let s2 := s1.lockRecheck
    if s1.locked && !s.locked then s2.testReady else s2
  else s1

/-- BYP_OK is re-formed where the validity of the bypass frequency has changed since `s0` (R99,
R176). -/
def State.onValidity (s0 s : State) : State :=
  if s.phase.byp.freq.isSome = s0.phase.byp.freq.isSome then s else s.formBypOk

/-- ZC_INV_EDGE (R175, R176). -/
def execZcInvEdge (s : State) : Host.Outcome State Fault Refusal :=
  s.event true (fun s => s.onPhase (fun p => { p with inv := p.inv.edge s.counter }))

/-- ZC_BYP_EDGE (R175 to R178). -/
def execZcBypEdge (s : State) : Host.Outcome State Fault Refusal :=
  s.event true (fun s =>
    let s1 := State.onValidity s (s.onPhase (fun p => { p with byp := p.byp.edge s.counter }))
    if s.evaluating then s1.evalCycle else s1)

/-! ### The clock (R2, R58; log 2) -/

/-- An entry one millisecond older (R58). -/
def PeerEntry.older (e : PeerEntry) : PeerEntry :=
  if e.state = .absent then e else { e with age := satAdd 16 e.age 1 }

/-- One microsecond passes; at each whole millisecond the peers' entries are one older (R58). -/
def State.advance (s : State) : State :=
  let s1 := s.withUs (s.us + 1)
  if (s.us + 1) % 1000 = 0 then s1.onView (fun v => { v with peers := v.peers.map PeerEntry.older })
  else s1

/-- The counter wraps: each line's wrap count rises, and a line at its second wrap has no edges, which
ends the lock and is a re-check (R175, R176, R178). -/
def State.wrapCounter (s : State) : State :=
  let ends := s.phase.inv.declares || s.phase.byp.declares
  let s1 := s.onPhase (fun p => { p with
    inv := p.inv.wrap, byp := p.byp.wrap, lock := if ends then 0 else p.lock })
  let s2 := State.onValidity s s1
  if ends && s.joined then s2.lockRecheck else s2

/-- PHASE_COUNTER_WRAP: the microsecond in which the counter goes from 65535 to 0 (R175). -/
def execPhaseCounterWrap (s : State) : Host.Outcome State Fault Refusal :=
  s.event (s.counter == 65535) (fun s => s.advance.wrapCounter)

end Sys2Proof.Machine
end

