-- ==== Sys2Proof/Machine/StartUp.lean ====
section
/-! DEFINITION. Loading the image, the start window and JOIN (R6, R119, R120, R190 to R194). -/

namespace Sys2Proof.Machine

/-- A read attempt is under way (R191). -/
def State.reading (s : State) : Bool :=
  s.startup.state == .loading && s.startup.readSince.isSome

/-- Enter CONFIG_FAULT (R191, R192). -/
def State.configFault (s : State) (r : FaultReason) (index : Nat) : State :=
  s.onStartup (fun u => { u with
    state := .configFault, reason := some r, fieldIndex := index, readSince := none, retryAt := none })

/-- A read attempt fails: the third leads to CONFIG_FAULT with reason NO_ACK, an earlier one to a
retry 10 ms later (R191). -/
def State.attemptFails (s : State) : State :=
  if 3 ≤ s.startup.attempt then s.configFault .noAck 0
  else s.onStartup (fun u => { u with readSince := none, retryAt := some (s.now + 10) })

/-- The position the lines give in the start window (R119). -/
def Pins.found (p : Pins) : Found :=
  if p.mbsClosed then .maintBypass else if p.ssFb then .bypass else .inverter

/-- Entry to START_WINDOW with configuration `i`: records built, `found` formed, window timer started
(R6, R193). -/
def State.enterWindow (s : State) (i : Image) : State :=
  (((s.onStartup (fun u => { u with
        state := .startWindow, readSince := none, retryAt := none
        windowEnds := some (s.now + i.startWindow * 1000) })).withImage (some i)).withStrings
    (i.strings.map builtRecord)).onSeq (fun q => { q with found := s.pins.found })

/-- A read image is checked and the controller goes on (R191). An attempt that brought fewer than 98
bytes has failed (log 13). -/
def State.imageRead (s : State) (b : List Byte) : State :=
  if b.length < 98 then s.attemptFails
  else match imageFault b with
    | some f => s.configFault f.1 f.2
    | none => s.enterWindow (imageOf b)

/-- IMAGE_READ_COMPLETE (R191). -/
def execImageReadComplete (bytes : List Byte) (s : State) : Host.Outcome State Fault Refusal :=
  s.event s.reading (fun s => s.imageRead bytes)

/-- IMAGE_READ_FAILED (R191). -/
def execImageReadFailed (s : State) : Host.Outcome State Fault Refusal :=
  s.event s.reading State.attemptFails

/-- IMAGE_READ_RETRY: the 10 ms delay has passed and the next attempt begins (R191). -/
def execImageReadRetry (s : State) : Host.Outcome State Fault Refusal :=
  s.event (s.startup.state == .loading && s.isDue s.startup.retryAt) (fun s =>
    s.onStartup (fun u => { u with
      attempt := u.attempt + 1, readSince := some s.now, retryAt := none }))

/-- The position the sequencer takes up at JOIN (R120). -/
def State.takePosition (s : State) : State :=
  match s.seq.found with
  | .inverter => s
  | .bypass =>
    let s1 := s.recordForced
    (s1.notify .forcedBypass s1.cabinetId s.seq.history.length s.seq.state.code
      ForcedCause.foundAtStart.code).enterStatic .forced
  | .maintBypass =>
    let s1 := s.enterForced
    ((s1.notify .forcedBypass s1.cabinetId s.seq.history.length s.seq.state.code
      ForcedCause.foundAtStart.code).enterMaint .forced false).announceForced

/-- JOIN, steps 1 to 6 of R194; the event's end queues the first STATUS of step 7. -/
def State.joinFloor (s : State) : State :=
  let s1 := (s.onStartup (fun u => { u with state := .joined, windowEnds := none })).takePosition
  let s2 := s1.evalMargin.withDog ⟨.watching, some (s.now + s.cfg.hostTimeout)⟩
  let s3 := (s2.withTicks ⟨0, some (s.now + 60000)⟩).withStrings
    (s2.strings.map StringRec.dropBaseline)
  ((s3.onIntake (fun i => { i with baselineNext := true })).onSeq
    (fun q => { q with found := .inverter })).markStatus

/-- START_WINDOW_EXPIRY: JOIN by the window timer (R193, R194). -/
def execStartWindowExpiry (s : State) : Host.Outcome State Fault Refusal :=
  s.event (s.inWindow && s.isDue s.startup.windowEnds) State.joinFloor

end Sys2Proof.Machine
end

