-- ==== Sys2Proof/Machine/PortCommands.lean ====
section
/-! DEFINITION. Commands of the start-up controller and the port (R182, R184 to R186). -/

namespace Sys2Proof.Machine

/-- JOIN (R184). -/
def execJoin (s : State) : Host.Outcome State Fault Refusal :=
  s.command .join (fun _ s =>
    match s.startup.state with
    | .loading => s.notJoined
    | .configFault => s.notJoined
    | .startWindow =>
      let s1 := s.joinFloor
      s1.answer .ok (le8 s1.seq.state.code ++ le8 s1.view.margin.code)
    | .joined => s.badState condJoined)

/-- RESET: OK with no result; the reset is pending for at most 20 ms (R185). -/
def execReset (s : State) : Host.Outcome State Fault Refusal :=
  s.command .reset (fun _ s =>
    (s.answer .ok []).onHost (fun h => { h with resetAt := some (s.now + 20), resetNow := false }))

/-- READ_COUNTERS (R186). -/
def execReadCounters (s : State) : Host.Outcome State Fault Refusal :=
  s.command .readCounters (fun r s =>
    if 1 < arg8 r 0 then s.badArg 1
    else
      let s1 := (s.answer .ok s.counterBytes).withFreeCount (s.freeCount + 1)
      if arg8 r 0 = 1 then s1.clearCounts else s1)

/-- A record whose code names no command (R182). -/
def execUnknownCommand (s : State) : Host.Outcome State Fault Refusal :=
  s.command .unknownCommand (fun _ s => s.answer .badArg (le8 resultCommand))

end Sys2Proof.Machine
end

