-- ==== Sys2Proof/Machine/SeqCommands.lean ====
section
/-! DEFINITION. Commands of the transfer sequencer (R102, R107, R108). -/

namespace Sys2Proof.Machine

/-- REQ_BYPASS (R102, R103). -/
def execReqBypass (s : State) : Host.Outcome State Fault Refusal :=
  s.command .reqBypass (fun r s => s.whenJoined (fun s =>
    let m := arg16 r 0
    if !inRange m 1 1440 then s.badArg 1
    else if s.hostSilent then s.staleReply
    else if s.seq.state ≠ .online then s.badState condSequencer
    else if s.job.state ≠ .idle then s.badState condTest
    else if s.claims.slot ≠ .free then s.busyReply
    else ((s.enterSyncWait m).testReady).answer .accepted []))

/-- REQ_RETURN (R107, R108). -/
def execReqReturn (s : State) : Host.Outcome State Fault Refusal :=
  s.command .reqReturn (fun r s => s.whenJoined (fun s =>
    let b := arg8 r 0
    let mode : XferMode := if s.locked then .sync else .brk
    if 1 < b then s.badArg 1
    else if s.hostSilent then s.staleReply
    else if !s.seq.state.onStatic then s.badState 0
    else if !s.pins.invOk then s.refusedReply codeInvFault
    else if s.locked || (b == 1 && !s.seq.bypOk) then
      (s.startReturn mode).answer .accepted (le8 mode.code)
    else s.refusedReply codeNoSync))

end Sys2Proof.Machine
end

