-- ==== Sys2Proof/Machine/StringCommands.lean ====
section
/-! DEFINITION. Commands of the string ageing unit (R28, R30, R37, R38, R50). -/

namespace Sys2Proof.Machine

/-- An accepted LOAD_AGEING: what the record holds is set, then recomputed (R28). -/
def State.loadString (s : State) (k : Nat) (r : List Byte) : State :=
  (s.onString k (StringRec.load (arg32 r 1) (arg32 r 5) (arg16 r 9) (arg16 r 11) (arg32 r 13)
    (argOpt32 r 17) (arg32 r 22))).recompute k

/-- The recomputed SoH, class and SoC of string `k` (R28). -/
def State.loadResult (s : State) (k : Nat) : List Byte :=
  match s.strings[k]? with
  | some r => le16 r.soh ++ le8 r.cls.code ++ le16 r.soc
  | none => []

/-- A reference resistance lies in its window, or none is given (R28). -/
def refOk (x : Option Nat) : Bool := x.all (fun v => inRange v 100 100000)

/-- LOAD_AGEING (R28). -/
def execLoadAgeing (s : State) : Host.Outcome State Fault Refusal :=
  s.command .loadAgeing (fun r s =>
    let k := arg8 r 0
    match s.startup.state with
    | .loading => s.notJoined
    | .configFault => s.notJoined
    | .joined => s.badState 0
    | .startWindow =>
      match s.strings[k]? with
      | none => s.badArg 1
      | some rec =>
        if rec.loaded then s.badState 0
        else if !refOk (argOpt32 r 17) then s.badArg 7
        else
          let s1 := s.loadString k r
          s1.answer .ok (s1.loadResult k))

/-- READ_STRING (R30). -/
def execReadString (s : State) : Host.Outcome State Fault Refusal :=
  s.command .readString (fun r s =>
    if s.inWindow || s.joined then
      match s.strings[arg8 r 0]? with
      | some rec => s.answer .ok rec.bytes
      | none => s.badArg 1
    else s.notJoined)

/-- The first condition of R37 step 4 that fails, by its code. -/
def State.testObstacle (s : State) (k : Nat) (r : StringRec) : Option Nat :=
  if s.seq.state ≠ .online then some condSequencer
  else if s.job.state ≠ .idle then some condTestExists
  else if r.state ≠ .inService then some condStringState
  else if !r.endOk (s.params k) then some condStringEnd
  else if r.unmeasured then some condStringUnmeasured
  else if r.soc < 9000 then some condSocLow
  else if s.visitScope = some (.string k) then some condVisit
  else none

/-- The claim of a REQ_TEST that passed five steps (R38). -/
def State.claimTest (s : State) (k target limit : Nat) : State :=
  let a := s.requestClaim .ageing .test (.string k) limit
  match a.1 with
  | .busy => a.2.busyReply
  | .refused x => a.2.refusedReply x.code
  | .sent id => (a.2.withJob ⟨.claiming, k, target, limit, none, none⟩).answer .accepted (le8 id)

/-- REQ_TEST (R37, R38). -/
def execReqTest (s : State) : Host.Outcome State Fault Refusal :=
  s.command .reqTest (fun r s => s.whenJoined (fun s =>
    let k := arg8 r 0
    let target := arg16 r 1
    let limit := arg16 r 3
    match s.strings[k]? with
    | none => s.badArg 1
    | some rec =>
      if !inRange target 3000 9000 then s.badArg 2
      else if !inRange limit 10 600 then s.badArg 3
      else if s.hostSilent then s.staleReply
      else match s.testObstacle k rec with
        | some c => s.badState c
        | none => s.claimTest k target limit))

/-- ABORT_TEST (R50). -/
def execAbortTest (s : State) : Host.Outcome State Fault Refusal :=
  s.command .abortTest (fun _ s => s.whenJoined (fun s =>
    match s.job.state with
    | .idle => s.badState 0
    | .claiming => if s.job.givenUp.isSome then s.badState 0 else (s.abortTest .host).answer .ok []
    | .running => (s.abortTest .host).answer .ok []))

end Sys2Proof.Machine
end

