-- ==== Sys2Proof/Machine/Supply.lean ====
section
/-! DEFINITION. Supply and RESET_N (R162, R190). -/

namespace Sys2Proof.Machine

/-- POWER_ON: the supply comes up, every block takes its reset state, local time starts at 0 and the
controller enters LOADING (R190). A part already powered sees no change. -/
def execPowerOn (s : State) : Host.Outcome State Fault Refusal :=
  .next (if s.power then s else s.resetAll.withPower true)

/-- POWER_OFF: the supply fails; all state is lost and every line is low (R162). -/
def execPowerOff (s : State) : Host.Outcome State Fault Refusal :=
  .next (if s.power then s.resetAll.withPower false else s)

/-- RESET_N falls: the part resets at once and the ports repeat the line (R162, R190). -/
def execResetNFall (s : State) : Host.Outcome State Fault Refusal :=
  .next (if s.pins.resetN then s.resetAll.onPins (fun p => { p with resetN := false }) else s)

/-- RESET_N rises: the repeat path ends, the part is in its reset state and the controller enters
LOADING (R162, R190). -/
def execResetNRise (s : State) : Host.Outcome State Fault Refusal :=
  .next (if s.pins.resetN then s else s.resetAll.onPins (fun p => { p with resetN := true }))

/-- The reset that an answered RESET command left pending is due: its reply has been read, or 20 ms
have passed (R185). -/
def State.resetDue (s : State) : Bool := s.host.resetNow || s.isDue s.host.resetAt

/-- RESET_TAKES_EFFECT: the part takes its reset state in every block (R185). -/
def execResetTakesEffect (s : State) : Host.Outcome State Fault Refusal :=
  .next (if s.running && s.resetDue then s.resetAll else s)

end Sys2Proof.Machine
end

