-- ==== Sys2Proof/Machine/VisitCommands.lean ====
section
/-! DEFINITION. Commands of the visit unit (R126 to R137, R141, R142). -/

namespace Sys2Proof.Machine

/-- A technician number in its range (R126, R132). -/
def techOk (t : Nat) : Bool := inRange t 1 999999

/-- The first argument of OPEN_VISIT out of its range, by position: they are examined in the order in which
the record holds them, `k` before `planned_min` (R126, R200; DESIGN CHOICE, log 52). -/
def State.openArgs (s : State) (r : List Byte) : Option Nat :=
  if !techOk (arg32 r 0) then some 1
  else if !inRange (arg8 r 4) 1 2 then some 2
  else if arg8 r 4 = 2 ∧ s.strings.length ≤ arg8 r 5 then some 3
  else if !inRange (arg16 r 6) 15 1440 then some 4
  else none

/-- An OPEN_VISIT of CABINET scope that passes (R127). -/
def State.openCabinet (s : State) (tech planned : Nat) : State :=
  let s1 := (s.createVisit tech .cabinet planned false).formPermit.visitOpenedNotice
  s1.answer .ok (le16 s1.visit.counter)

/-- An OPEN_VISIT of STRING scope that passes steps 1 to 6: the SERVICE claim (R126, R128). -/
def State.openString (s : State) (tech k planned : Nat) : State :=
  let a := s.requestClaim .visit .service (.string k) planned
  match a.1 with
  | .busy => a.2.busyReply
  | .refused x => a.2.refusedReply x.code
  | .sent id =>
    let s1 := a.2.createVisit tech (.string k) planned true
    s1.answer .accepted (le16 s1.visit.counter ++ le8 id)

/-- String `k` is in state `x`. -/
def State.stringIs (s : State) (k : Nat) (x : StringState) : Bool :=
  s.strings[k]?.any (fun r => r.state == x)

/-- OPEN_VISIT (R126). -/
def execOpenVisit (s : State) : Host.Outcome State Fault Refusal :=
  s.command .openVisit (fun r s => s.whenJoined (fun s =>
    match s.openArgs r with
    | some a => s.badArg a
    | none =>
      if s.hostSilent then s.staleReply
      else if !s.pins.keyOn then s.badState condKey
      else if s.visit.current.isSome then s.busyReply
      else if arg8 r 4 = 1 then s.openCabinet (arg32 r 0) (arg16 r 6)
      else if s.stringIs (arg8 r 5) .test then s.badState condStringTest
      else s.openString (arg32 r 0) (arg8 r 5) (arg16 r 6)))

/-- Steps 2 to 6 of R134, then the action's own conditions and effect. `needsK` is false for NOTE. -/
def State.visitAction (s : State) (r : List Byte) (listed needsK : Bool)
    (obstacle : Visit → Option Nat) (effect : State → State) (kind : ActionKind) : State :=
  if !techOk (arg32 r 0) then s.badArg 1
  else if !listed then s.badArg 2
  else if needsK && Nat.ble s.strings.length (arg8 r 5) then s.badArg 3
  else match s.visit.current with
    | none => s.badState condVisit
    | some v =>
      if v.admitting then s.badState condVisit
      else if !s.pins.keyOn then s.badState condKey
      else if arg32 r 0 ≠ v.tech then s.answer .mismatch []
      else if 16 ≤ v.actions.length then s.answer .full []
      else match obstacle v with
        | some c => s.badState c
        | none =>
          let a : VisitAction :=
            ⟨kind, if needsK then some (arg8 r 5) else none, s.now, arg16 r 6⟩
          ((effect s).onCurrent (Visit.addAction a)).answer .ok (le8 (v.actions.length + 1))

/-- The conditions of ISOLATE, REPLACE and RESTORE: the visit's scope is STRING k (SCOPE) and string k
is in the state the action needs (STRING_STATE) (R135 to R137). -/
def State.stringObstacle (s : State) (k : Nat) (need : StringState) (v : Visit) : Option Nat :=
  if v.scope ≠ .string k then some condScope
  else if !s.stringIs k need then some condStringState
  else none

/-- A replacement of string `k`, with its recompute (R29, R136). -/
def State.replaceString (s : State) (k : Nat) : State :=
  (s.onString k StringRec.renew).recompute k

/-- String `k` back IN_SERVICE; the first take-in after it attempts no capture (R31, R137). -/
def State.restoreString (s : State) (k : Nat) : State :=
  (s.setStringState k .inService).onString k StringRec.dropBaseline

/-- ISOLATE (R134, R135). -/
def execIsolate (s : State) : Host.Outcome State Fault Refusal :=
  s.command .isolate (fun r s => s.whenJoined (fun s =>
    s.visitAction r true true (s.stringObstacle (arg8 r 5) .inService)
      (fun s => s.setStringState (arg8 r 5) .isolated) .isolated))

/-- REPLACE (R29, R134, R136). -/
def execReplace (s : State) : Host.Outcome State Fault Refusal :=
  s.command .replace (fun r s => s.whenJoined (fun s =>
    s.visitAction r true true (s.stringObstacle (arg8 r 5) .isolated)
      (fun s => s.replaceString (arg8 r 5)) .replaced))

/-- RESTORE (R134, R137). -/
def execRestore (s : State) : Host.Outcome State Fault Refusal :=
  s.command .restore (fun r s => s.whenJoined (fun s =>
    s.visitAction r true true (s.stringObstacle (arg8 r 5) .isolated)
      (fun s => s.restoreString (arg8 r 5)) .restored))

/-- NOTE (R134, R137); an action code outside the list is BAD_ARG (R200; log 6). -/
def execNote (s : State) : Host.Outcome State Fault Refusal :=
  s.command .note (fun r s => s.whenJoined (fun s =>
    s.visitAction r (arg8 r 4 == 4) false (fun _ => none) id .note))

/-- What stands against the close of an OPEN visit (R141 steps 7 and 8). -/
def State.closeObstacle (s : State) (v : Visit) : Option Nat :=
  match v.scope with
  | .string k => if s.stringIs k .isolated then some condStringIsolated else none
  | .cabinet => if s.seq.state = .maint then some condMaint else none

/-- The close of an OPEN visit (R141). -/
def State.closeVisit (s : State) (v : Visit) : State :=
  let s1 := match v.scope with
    | .string _ => s.release WKind.isService
    | .cabinet => s
  (s1.retireVisit none).notify .visitClosed v.visitId v.actions.length (bitIf v.actionsLost 0)
    (s.visitMinutes v)

/-- A CLOSE_VISIT of a visit that is ADMITTING (R131); its OK carries no result, since R131 names none
(DESIGN CHOICE, log 45). -/
def State.cancelVisit (s : State) (v : Visit) : State :=
  if v.givenUp then s.badState 0
  else ((s.onCurrent (fun v => { v with givenUp := true })).giveUp .visit).answer .ok []

/-- CLOSE_VISIT (R131, R141). -/
def execCloseVisit (s : State) : Host.Outcome State Fault Refusal :=
  s.command .closeVisit (fun r s => s.whenJoined (fun s =>
    if !techOk (arg32 r 0) then s.badArg 1
    else match s.visit.current with
      | none => s.badState condVisit
      | some v =>
        if !s.pins.keyOn then s.badState condKey
        else if arg32 r 0 ≠ v.tech then s.answer .mismatch []
        else if v.admitting then s.cancelVisit v
        else match s.closeObstacle v with
          | some c => s.badState c
          | none => (s.closeVisit v).answer .ok (le16 v.visitId)))

/-- The number of zeros behind the presence byte of an empty current visit: the width of a record with no
action in its list (R142, R197; DESIGN CHOICE, log 47). -/
def emptyCurrentWidth : Nat := 23

/-- The number of zeros behind the presence byte of an empty history position, counted in the same way
(DESIGN CHOICE, log 47). -/
def emptyHistoryWidth : Nat := 25

/-- READ_VISIT (R142). -/
def execReadVisit (s : State) : Host.Outcome State Fault Refusal :=
  s.command .readVisit (fun r s => s.whenJoined (fun s =>
    if arg8 r 0 = 1 then
      s.answer .ok (s.visitHead ++ leOpt emptyCurrentWidth s.currentBytes s.visit.current)
    else if arg8 r 0 = 2 then
      if 7 < arg8 r 1 then s.badArg 2
      else s.answer .ok (s.visitHead
        ++ leOpt emptyHistoryWidth ClosedVisit.bytes s.visit.history[arg8 r 1]?)
    else s.badArg 1))

end Sys2Proof.Machine
end

