-- ==== Sys2Proof/Machine/Sequencer.lean ====
section
/-! DEFINITION. Line changes and timers of the transfer sequencer (R99, R103, R105, R106, R109, R110,
R113 to R119). -/

namespace Sys2Proof.Machine

/-- A change of an input line: the level always follows, and a running part takes the event. A row
whose level the line already has changes nothing (R99; log 4). -/
def State.lineEvent (s : State) (changes : Bool) (set : Pins → Pins) (body : State → State) :
    Host.Outcome State Fault Refusal :=
  if changes then (s.onPins set).event true body else .next s

/-- A switch line's change in the start window re-forms `found` (R119); from JOIN onward the sequencer
acts on it (R99). -/
def State.onSwitch (s : State) (body : State → State) : State :=
  match s.startup.state with
  | .loading => s
  | .configFault => s
  | .startWindow => s.onSeq (fun q => { q with found := s.pins.found })
  | .joined => body s

/-- Raise TRANSFER_DONE for the cabinet entry `id` (R106, R109, R117). -/
def State.transferDone (s : State) (id : Nat) (dir : Direction) (ms last : Nat) : State :=
  s.notify .transferDone id dir.code ms last

/-- The sequencer takes a rise of SS_FB (R106, R110). -/
def State.switchToBypass (s : State) : State :=
  match s.seq.state with
  | .online => s.forcedTransfer
  | .syncWait => s.forcedTransfer
  | .claiming => s.forcedTransfer
  | .transferOut =>
    (s.transferDone s.cabinetId .out s.sinceAssertion SeqState.onBypass.code).enterStatic .onBypass
  | .onBypass => s
  | .forced => s
  | .latched => s
  | .maint => s
  | .transferIn => s

/-- An unexpected return (R114). -/
def State.unexpectedReturn (s : State) : State :=
  ((s.release WKind.isCabinet).goOnline).notify .unexpectedReturn s.cabinetId s.seq.state.code 0 0

/-- The sequencer takes a fall of SS_FB (R109, R114). -/
def State.switchToInverter (s : State) : State :=
  match s.seq.state with
  | .transferIn =>
    ((s.release WKind.isCabinet).goOnline).transferDone s.cabinetId .into s.sinceAssertion
      SeqState.online.code
  | .onBypass => s.unexpectedReturn
  | .forced => s.unexpectedReturn
  | .latched => s.unexpectedReturn
  | .online => s
  | .syncWait => s
  | .claiming => s
  | .transferOut => s
  | .maint => s

/-- The sequencer takes a rise of MBS_CLOSED (R109, R115, R118). -/
def State.maintCloses (s : State) : State :=
  match s.seq.state with
  | .online => s.forcedMaint
  | .syncWait => s.forcedMaint
  | .claiming => s.forcedMaint
  | .transferOut => s.forcedMaint
  | .onBypass => s.enterMaint .onBypass true
  | .forced => s.enterMaint .forced true
  | .latched => s.enterMaint .latched true
  | .maint => s
  | .transferIn =>
    (s.notify .transferFault s.cabinetId Direction.into.code FaultCause.maintClosed.code
      SeqState.maint.code).enterMaint (s.seq.prior.getD .forced) true

/-- Cause MBS_OPENED of TRANSFER_DONE (R117; log 14). -/
def causeMbsOpened : Nat := 1

/-- The sequencer takes a fall of MBS_CLOSED (R117). -/
def State.maintOpens (s : State) : State :=
  if s.seq.state = .maint then
    let s1 := s.autoAction .maintLeft
    if s.pins.ssFb then s1.leaveMaintKind.enterStatic (s.seq.prior.getD .forced)
    else ((s1.release WKind.isCabinet).goOnline).transferDone s.cabinetId .into 0 causeMbsOpened
  else s

/-- SS_FB_RISE (R106, R110, R119). -/
def execSsFbRise (s : State) : Host.Outcome State Fault Refusal :=
  s.lineEvent (!s.pins.ssFb) (fun p => { p with ssFb := true })
    (fun s => s.onSwitch State.switchToBypass)

/-- SS_FB_FALL (R109, R114, R119). -/
def execSsFbFall (s : State) : Host.Outcome State Fault Refusal :=
  s.lineEvent s.pins.ssFb (fun p => { p with ssFb := false })
    (fun s => s.onSwitch State.switchToInverter)

/-- MBS_CLOSED_RISE (R109, R115, R118, R119). -/
def execMbsClosedRise (s : State) : Host.Outcome State Fault Refusal :=
  s.lineEvent (!s.pins.mbsClosed) (fun p => { p with mbsClosed := true })
    (fun s => s.onSwitch State.maintCloses)

/-- MBS_CLOSED_FALL (R117, R119). -/
def execMbsClosedFall (s : State) : Host.Outcome State Fault Refusal :=
  s.lineEvent s.pins.mbsClosed (fun p => { p with mbsClosed := false })
    (fun s => s.onSwitch State.maintOpens)

/-- INV_OK_RISE: in FORCED the retransfer condition may begin to hold (R113). -/
def execInvOkRise (s : State) : Host.Outcome State Fault Refusal :=
  s.lineEvent (!s.pins.invOk) (fun p => { p with invOk := true })
    (fun s => if s.joined then s.followRetransfer else s)

/-- INV_OK_FALL: a TRANSFER_IN fails with INV_FAULT, and in FORCED the retransfer timer stops (R109,
R113). -/
def execInvOkFall (s : State) : Host.Outcome State Fault Refusal :=
  s.lineEvent s.pins.invOk (fun p => { p with invOk := false })
    (fun s =>
      if s.joined then
        if s.seq.state = .transferIn then s.failTransfer .invFault else s.followRetransfer
      else s)

/-- AUTO_RETRANSFER (R113). -/
def execAutoRetransfer (s : State) : Host.Outcome State Fault Refusal :=
  s.event (s.seq.state == .forced && s.isDue s.seq.retransferAt) (fun s =>
    (s.startReturn .sync).notify .autoRetransfer s.cabinetId s.cfg.retransferDelay s.phase.angle 0)

/-- SYNC_FAIL (R103); the lock indication and BYP_OK are 1 where held or set and 0 otherwise (DESIGN CHOICE,
log 42). -/
def execSyncFail (s : State) : Host.Outcome State Fault Refusal :=
  s.event (s.seq.state == .syncWait && s.isDue s.seq.syncAt) (fun s =>
    s.goOnline.notify .syncFail 0 (bitIf s.locked 0) (bitIf s.seq.bypOk 0) s.phase.angle)

/-- The confirm timeout of a running transfer timer is due (R105). -/
def State.confirmDue (s : State) : Bool :=
  match s.seq.xfer with
  | some t => Nat.ble t.expiresAt s.now
  | none => false

/-- CONFIRM_TIMEOUT: limit B (R105, R106, R109). -/
def execConfirmTimeout (s : State) : Host.Outcome State Fault Refusal :=
  s.event s.confirmDue (fun s => s.failTransfer .confirmTimeout)

end Sys2Proof.Machine
end

