-- ==== Sys2Proof/Machine/VisitEvents.lean ====
section
/-! DEFINITION. The service key and the overdue levels of a visit (R133, R139). -/

namespace Sys2Proof.Machine

/-- Raise KEY_REMOVED or KEY_RETURNED for visit `v` (R133). -/
def State.keyNotice (s : State) (k : NoticeKind) (v : Visit) : State :=
  s.notify k v.visitId (if v.admitting then 1 else 2) (s.visitMinutes v) v.actions.length

/-- KEY_ON_FALL (R133). -/
def execKeyOnFall (s : State) : Host.Outcome State Fault Refusal :=
  s.lineEvent s.pins.keyOn (fun p => { p with keyOn := false }) (fun s =>
    match s.visit.current with
    | some v => (s.onCurrent (fun v => { v with keyOut := true })).keyNotice .keyRemoved v
    | none => s)

/-- KEY_ON_RISE (R133). -/
def execKeyOnRise (s : State) : Host.Outcome State Fault Refusal :=
  s.lineEvent (!s.pins.keyOn) (fun p => { p with keyOn := true }) (fun s =>
    match s.visit.current with
    | some v =>
      if v.keyOut then (s.onCurrent (fun v => { v with keyOut := false })).keyNotice .keyReturned v
      else s
    | none => s)

/-- The current visit is OPEN at level `from`, and `times` its planned time has passed (R139). -/
def State.levelDue (s : State) (level : OverdueLevel) (times : Nat) : Bool :=
  match s.visit.current with
  | some v => !v.admitting && v.overdue == level
      && Nat.ble (v.openedMs + times * v.planned * 60000) s.now
  | none => false

/-- Raise the overdue level of the current visit, with its notice (R139). -/
def State.raiseLevel (s : State) (level : OverdueLevel) (k : NoticeKind) : State :=
  match s.visit.current with
  | some v =>
    (s.onCurrent (fun v => { v with overdue := level })).notify k v.visitId v.scope.code v.planned
      level.code
  | none => s

/-- VISIT_OVERDUE (R139). -/
def execVisitOverdue (s : State) : Host.Outcome State Fault Refusal :=
  s.event (s.levelDue .none 1) (fun s => s.raiseLevel .overdue .visitOverdue)

/-- VISIT_LONG (R139). -/
def execVisitLong (s : State) : Host.Outcome State Fault Refusal :=
  s.event (s.levelDue .overdue 2) (fun s => s.raiseLevel .long .visitLong)

end Sys2Proof.Machine
end

