-- ==== Sys2Proof/Machine/Clock.lean ====
section
/-! DEFINITION. What the part does when no command waits: the rows its own timers bring, those it may
take at a moment the spec does not fix, and the passing of a microsecond (R2; log 2, log 3). -/

namespace Sys2Proof.Machine

/-- A row, where its condition holds. -/
def rowIf (c : Bool) (i : Instr) : List Instr := if c then [i] else []

/-- An EEPROM attempt has not finished within 20 ms (R191; log 12). -/
def State.readOverrun (s : State) : Bool :=
  s.reading && s.startup.readSince.any (fun t => Nat.ble (t + 20) s.now)

/-- Rows of start-up, supply, intake and watchdog that are due. -/
def State.dueControl (s : State) : List Instr :=
  rowIf s.readOverrun .imageReadFailed
  ++ rowIf (s.startup.state == .loading && s.isDue s.startup.retryAt) .imageReadRetry
  ++ rowIf (s.inWindow && s.isDue s.startup.windowEnds) .startWindowExpiry
  ++ rowIf s.resetDue .resetTakesEffect
  ++ rowIf (s.hasBuffer .ready && !s.hasBuffer .inUse) .measTakeIn
  ++ rowIf (s.joined && s.dog.stage == .watching && s.isDue s.dog.expiresAt) .hostStale
  ++ rowIf (s.joined && s.dog.stage == .hostStale && s.isDue s.dog.expiresAt) .unsupervised

/-- Rows of the loop ports that are due. -/
def State.dueLoop (s : State) : List Instr :=
  rowIf (!s.loop.a.completed.isEmpty) (.frameCompleted .a)
  ++ rowIf (!s.loop.b.completed.isEmpty) (.frameCompleted .b)
  ++ rowIf (s.mayTransmit .a) (.transmitNextFrame .a)
  ++ rowIf (s.mayTransmit .b) (.transmitNextFrame .b)
  ++ (s.loop.inFlight.filter (fun f => s.flightDue f.tag)).map (fun f => .inFlightTagExpiry f.tag)

/-- Rows of the floor view unit and the claim unit that are due. -/
def State.dueFloor (s : State) : List Instr :=
  rowIf (s.joined && s.isDue s.view.statusAt) .statusPeriod
  ++ (stations.filter (fun n => s.silentFor n .present 3)).map .peerStale
  ++ (stations.filter (fun n => s.silentFor n .stale 20)).map .peerLost
  ++ (s.claims.list.filter (fun w => s.joined && s.holdDue w)).map
      (fun w => .provisionalHoldExpiry w.owner w.claimId)
  ++ rowIf s.claimDue .claimTimerExpiry
  ++ rowIf s.retryDue .retryTimerExpiry
  ++ (s.claims.list.filter (fun w => s.joined && s.overdueDue w)).map
      (fun w => .withdrawalOverdue w.claimId)

/-- Rows of the ageing unit, the sequencer and the visit unit that are due. -/
def State.dueCabinet (s : State) : List Instr :=
  rowIf (s.joined && s.isDue s.ticks.nextAt)
    (if s.ticks.count = 1439 then .dayBoundary else .ageingTick)
  ++ rowIf (s.job.state == .running && s.isDue s.job.limitAt) .testLimitExpiry
  ++ rowIf (s.seq.state == .forced && s.isDue s.seq.retransferAt) .autoRetransfer
  ++ rowIf (s.seq.state == .syncWait && s.isDue s.seq.syncAt) .syncFail
  ++ rowIf s.confirmDue .confirmTimeout
  ++ rowIf (s.levelDue .none 1) .visitOverdue
  ++ rowIf (s.levelDue .overdue 2) .visitLong

/-- The row that takes the waiting command, and whether its 50 µs have passed (R181). -/
def State.commandRow (s : State) : Option (Instr × Bool) :=
  match s.host.slot with
  | .pending r since => some (takenRow r, Nat.ble (since + 50) s.us)
  | .empty => none
  | .replied _ => none

/-- The end of the take-in in progress, and whether its millisecond has passed (R166). -/
def State.endRow (s : State) : Option (Instr × Bool) :=
  if s.hasBuffer .inUse then
    some (.takeInEnd, s.intake.inUseSince.all (fun t => Nat.ble (t + 1000) s.us))
  else none

/-- The rows that must be taken before time goes on. -/
def State.dueNow (s : State) : List Instr :=
  s.dueControl ++ s.dueLoop ++ s.dueFloor ++ s.dueCabinet
  ++ (s.commandRow.toList ++ s.endRow.toList).filterMap (fun x => if x.2 then some x.1 else none)

/-- The rows that may be taken now or later (R166, R181). -/
def State.dueMay (s : State) : List Instr :=
  (s.commandRow.toList ++ s.endRow.toList).filterMap (fun x => if x.2 then none else some x.1)

/-- What may come next: a row that is due, a row that may be taken, or, with nothing due, the passing
of a microsecond (none). -/
def State.options (s : State) : List (Option Instr) :=
  (s.dueNow ++ s.dueMay).map some
  ++ (if s.dueNow.isEmpty then [if s.counter = 65535 then some .phaseCounterWrap else none] else [])

/-- What does come next, left open where there is more than one option (R2; log 3). -/
def State.nextOption (s : State) : Option Instr × State :=
  match s.options with
  | [] => (none, s)
  | [x] => (x, s)
  | x :: l =>
    ((x :: l).getD (Config.choice s.freeCount % (x :: l).length) x, s.withFreeCount (s.freeCount + 1))

end Sys2Proof.Machine
end

