-- ==== Sys2Proof/Machine/Dispatch.lean ====
section
/-! DEFINITION. One arm per command of the table, each a direct call of its meaning. -/

namespace Sys2Proof.Machine

/-- The effect of a command on everything but the queue. -/
def exec (i : Instr) (s : State) : Host.Outcome State Fault Refusal :=
  match i with
  | .powerOn => Sys2Proof.Machine.execPowerOn s
  | .resetNFall => Sys2Proof.Machine.execResetNFall s
  | .resetNRise => Sys2Proof.Machine.execResetNRise s
  | .imageReadComplete bytes => Sys2Proof.Machine.execImageReadComplete bytes s
  | .imageReadFailed => Sys2Proof.Machine.execImageReadFailed s
  | .imageReadRetry => Sys2Proof.Machine.execImageReadRetry s
  | .startWindowExpiry => Sys2Proof.Machine.execStartWindowExpiry s
  | .join => Sys2Proof.Machine.execJoin s
  | .reset => Sys2Proof.Machine.execReset s
  | .resetTakesEffect => Sys2Proof.Machine.execResetTakesEffect s
  | .loadAgeing => Sys2Proof.Machine.execLoadAgeing s
  | .readString => Sys2Proof.Machine.execReadString s
  | .readFloor => Sys2Proof.Machine.execReadFloor s
  | .readView => Sys2Proof.Machine.execReadView s
  | .readWithdrawals => Sys2Proof.Machine.execReadWithdrawals s
  | .forgetStation => Sys2Proof.Machine.execForgetStation s
  | .readCounters => Sys2Proof.Machine.execReadCounters s
  | .reqBypass => Sys2Proof.Machine.execReqBypass s
  | .reqReturn => Sys2Proof.Machine.execReqReturn s
  | .reqTest => Sys2Proof.Machine.execReqTest s
  | .abortTest => Sys2Proof.Machine.execAbortTest s
  | .openVisit => Sys2Proof.Machine.execOpenVisit s
  | .isolate => Sys2Proof.Machine.execIsolate s
  | .replace => Sys2Proof.Machine.execReplace s
  | .restore => Sys2Proof.Machine.execRestore s
  | .note => Sys2Proof.Machine.execNote s
  | .closeVisit => Sys2Proof.Machine.execCloseVisit s
  | .readVisit => Sys2Proof.Machine.execReadVisit s
  | .unknownCommand => Sys2Proof.Machine.execUnknownCommand s
  | .measWrite bytes => Sys2Proof.Machine.execMeasWrite bytes s
  | .measTakeIn => Sys2Proof.Machine.execMeasTakeIn s
  | .takeInEnd => Sys2Proof.Machine.execTakeInEnd s
  | .cmdWrite bytes => Sys2Proof.Machine.execCmdWrite bytes s
  | .replyRead => Sys2Proof.Machine.execReplyRead s
  | .noticeRead => Sys2Proof.Machine.execNoticeRead s
  | .statusRead => Sys2Proof.Machine.execStatusRead s
  | .badTransaction first => Sys2Proof.Machine.execBadTransaction first s
  | .symbolReceived port symbol => Sys2Proof.Machine.execSymbolReceived port symbol s
  | .lineBreak port => Sys2Proof.Machine.execLineBreak port s
  | .frameCompleted port => Sys2Proof.Machine.execFrameCompleted port s
  | .transmitNextFrame port => Sys2Proof.Machine.execTransmitNextFrame port s
  | .inFlightTagExpiry tag => Sys2Proof.Machine.execInFlightTagExpiry tag s
  | .statusPeriod => Sys2Proof.Machine.execStatusPeriod s
  | .peerStale station => Sys2Proof.Machine.execPeerStale station s
  | .peerLost station => Sys2Proof.Machine.execPeerLost station s
  | .provisionalHoldExpiry owner claimId => Sys2Proof.Machine.execProvisionalHoldExpiry owner claimId s
  | .claimTimerExpiry => Sys2Proof.Machine.execClaimTimerExpiry s
  | .retryTimerExpiry => Sys2Proof.Machine.execRetryTimerExpiry s
  | .withdrawalOverdue claimId => Sys2Proof.Machine.execWithdrawalOverdue claimId s
  | .ageingTick => Sys2Proof.Machine.execAgeingTick s
  | .dayBoundary => Sys2Proof.Machine.execDayBoundary s
  | .testLimitExpiry => Sys2Proof.Machine.execTestLimitExpiry s
  | .hostStale => Sys2Proof.Machine.execHostStale s
  | .unsupervised => Sys2Proof.Machine.execUnsupervised s
  | .ssFbRise => Sys2Proof.Machine.execSsFbRise s
  | .ssFbFall => Sys2Proof.Machine.execSsFbFall s
  | .mbsClosedRise => Sys2Proof.Machine.execMbsClosedRise s
  | .mbsClosedFall => Sys2Proof.Machine.execMbsClosedFall s
  | .invOkRise => Sys2Proof.Machine.execInvOkRise s
  | .invOkFall => Sys2Proof.Machine.execInvOkFall s
  | .autoRetransfer => Sys2Proof.Machine.execAutoRetransfer s
  | .syncFail => Sys2Proof.Machine.execSyncFail s
  | .confirmTimeout => Sys2Proof.Machine.execConfirmTimeout s
  | .zcInvEdge => Sys2Proof.Machine.execZcInvEdge s
  | .zcBypEdge => Sys2Proof.Machine.execZcBypEdge s
  | .phaseCounterWrap => Sys2Proof.Machine.execPhaseCounterWrap s
  | .keyOnFall => Sys2Proof.Machine.execKeyOnFall s
  | .keyOnRise => Sys2Proof.Machine.execKeyOnRise s
  | .visitOverdue => Sys2Proof.Machine.execVisitOverdue s
  | .visitLong => Sys2Proof.Machine.execVisitLong s
  | .powerOff => Sys2Proof.Machine.execPowerOff s
  | .transactionEndsEarly => Sys2Proof.Machine.execTransactionEndsEarly s
  | .transactionBegins kind => Sys2Proof.Machine.execTransactionBegins kind s

end Sys2Proof.Machine
end

