-- ==== Sys2Proof/Machine/Step.lean ====
section
/-! DEFINITION. One step: the front of the queue is executed, and an empty queue lets the part's own
clock and timers go on (log 2, log 3, log 23). -/

namespace Sys2Proof.Machine

/-- The step on an empty queue: an unpowered part and one held in reset stay as they are; otherwise
what comes next is a row of the part's own or one microsecond. -/
def idle (s : State) : Host.Outcome State Fault Refusal :=
  if s.running then
    match s.nextOption.1 with
    | some i => exec i s.nextOption.2
    | none => .next s.nextOption.2.advance
  else .next s

/-- One step of the block. -/
def step (s : State) : Host.Outcome State Fault Refusal :=
  match s.pending with
  | i :: rest => exec i (s.withPending rest)
  | [] => idle s

/-- `s` with the command that the word spells put at the front of its queue, `s` itself where it spells
none (log 34). -/
def State.withFetchWord (s : State) (nbits w : Nat) : State :=
  match Sys2Proof.decodeTableWord nbits w with
  | some i => s.withPending (i :: s.pending)
  | none => s

end Sys2Proof.Machine
end

