-- ==== Sys2Proof/Safety.lean ====
section
/-! DEFINITION. The laws of the part that the manual states, as conditions on one state; the claims say
that every step keeps them. -/

namespace Sys2Proof.Machine

/-! ### The notice queue (R187, R188) -/

/-- The queue never holds more than 32 notices, its overflow count never exceeds 255, and NOTICE_IRQ is
asserted exactly while the queue holds a notice. -/
def State.noticesOk (s : State) : Bool :=
  Nat.ble s.host.notices.length 32 && Nat.ble s.host.overflow 255
  && s.host.irq == !s.host.notices.isEmpty

/-! ### The output lines (R36, R98, R171) -/

/-- XFER_BYP_REQ, XFER_INV_REQ, MBS_PERMIT, DISCH_REQ and the UNSUPERVISED line are each asserted exactly
in their own states. -/
def State.linesOk (s : State) : Bool :=
  s.outs.xferByp == (s.seq.state == .transferOut)
  && s.outs.xferInv == (s.seq.state == .transferIn)
  && s.outs.mbsPermit == s.permitNow
  && s.outs.dischReq == (s.job.state == .running)
  && s.outs.unsupervised == (s.dog.stage == .unsupervised)

/-! ### Charge, health and reported energy (R23, R25, R27) -/

/-- A string's Q lies within 0..Q_full and its SoC within 0..10000; SoH, ρ and u within their ranges;
e_avail is what R27 gives and never exceeds the string's E_rated. -/
def StringRec.ok (p : StringParams) (silent : Bool) (r : StringRec) : Bool :=
  Nat.ble r.q r.qFull && Nat.ble r.soc 10000 && Nat.ble r.soh 10000 && Nat.ble r.u 20000
  && inRange r.rho 10000 30000
  && r.eAvail == availOf silent r && Nat.ble r.eAvail p.eRated && Nat.ble r.eUsable p.eRated
  && Nat.ble r.resList.length 5

/-- Every string record is as `StringRec.ok` asks, there is a record for no index without parameters,
and before JOIN the watchdog is OFF (R27, R171). -/
def State.stringsOk (s : State) : Bool :=
  (List.range s.strings.length).all (fun k =>
    (s.strings.getD k StringRec.blank).ok (s.params k) s.hostSilent)
  && (s.joined || s.dog.stage == .off)

/-! ### The margin state (R65 to R67) -/

/-- From JOIN onward the figures and the margin state are those of the view as it stands. -/
def State.marginOk (s : State) : Bool :=
  !s.joined || (s.view.figures == s.figuresNow && s.view.margin == s.marginNow)

/-! ### The peer view table (R51, R52) -/

/-- The table has sixteen entries, and an ABSENT entry holds the reset values. -/
def State.tableOk (s : State) : Bool :=
  s.view.peers.length == 16 && s.view.peers.all (fun e => e.state != .absent || e == PeerEntry.blank)

/-! ### The loop ports (R155, R157, R159, R160) -/

/-- A forward buffer holds at most 256 bytes, and no frame in it has a hop count above 64. -/
def PortState.forwardOk (p : PortState) : Bool :=
  Nat.ble (waiting p.fwd) 256 && p.fwd.all (fun b => Nat.ble (frHops b) 64)

/-- Both forward buffers are as `PortState.forwardOk` asks, the own queue holds at most 8 frames and at
most one STATUS, and at most 32 own frames are in flight. -/
def State.loopOk (s : State) : Bool :=
  s.loop.a.forwardOk && s.loop.b.forwardOk && Nat.ble s.loop.queue.length 8
  && Nat.ble (s.loop.queue.filter (fun f => f.kind == .status)).length 1
  && Nat.ble s.loop.inFlight.length 32

/-! ### The withdrawal list and the cabinet (R71, R73, R101, R115) -/

/-- Peers' entries fill at most 29 places, every own entry is ACTIVE, and before JOIN the list is empty
and the slot FREE. -/
def State.listOk (s : State) : Bool :=
  Nat.ble s.peerEntries.length 29 && s.ownWithdrawals.all (fun w => w.active)
  && (s.joined || (s.claims.list.isEmpty && s.claims.slot == .free))

/-- The own list holds an ACTIVE entry of the cabinet class with scope CABINET (R101). -/
def State.holdsCabinet (s : State) : Bool :=
  s.ownWithdrawals.any (fun w => w.kind.isCabinet && w.active && w.scope == .cabinet)

/-- The states of the sequencer that stand on a cabinet withdrawal (R101). -/
def SeqState.withdrawn : SeqState → Bool
  | .online => false
  | .syncWait => false
  | .claiming => false
  | .transferOut => true
  | .onBypass => true
  | .forced => true
  | .latched => true
  | .maint => true
  | .transferIn => true

/-- The request in the claim slot. -/
def Slot.request : Slot → Option Request
  | .free => none
  | .inFlight q _ _ _ => some q
  | .retryWait q _ => some q

/-- What a request in the slot says of its requester: a BYPASS of the cabinet for the sequencer, which
is CLAIMING unless superseded; another class for the others (R72, R75, R101). -/
def State.requestOk (s : State) (q : Request) : Bool :=
  match q.requester with
  | .sequencer => q.kind == .bypass && q.scope == .cabinet
      && (s.seq.superseded || s.seq.state == .claiming)
  | .ageing => q.kind == .test
  | .visit => q.kind == .service

/-- The own MAINT withdrawal carries the unsanctioned flag (R115). -/
def State.unsanctionedMaint (s : State) : Bool :=
  s.ownWithdrawals.any (fun w => w.kind == .maint && w.unsanctioned)

/-- The switch, the sequencer and the own cabinet withdrawal agree: from JOIN onward the part runs, a
cabinet on bypass has a withdrawal, and MAINT is sanctioned by an OPEN CABINET visit or carries the
unsanctioned flag (R101, R115, R119). -/
def State.cabinetOk (s : State) : Bool :=
  (!s.joined && !s.inWindow || s.running)
  && (!s.inWindow || s.seq.found == s.pins.found)
  && (!s.joined || !s.pins.ssFb || (s.seq.state.withdrawn && s.seq.state != .transferOut))
  && (s.joined || s.seq.state == .online)
  && (!s.seq.state.withdrawn || s.holdsCabinet)
  && (s.seq.state != .maint || s.cabinetVisitOpen || s.unsanctionedMaint)
  && s.seq.prior.all SeqState.onStatic
  && s.ownWithdrawals.all (fun w => w.active && pairs w.kind w.scope)
  && s.claims.slot.request.all s.requestOk
  && (s.joined || (s.claims.list.isEmpty && s.claims.slot == .free))

/-! ### The measurement buffers (R165) -/

/-- The number of measurement buffers in role `r`. -/
def State.buffersIn (s : State) (r : BufferRole) : Nat :=
  (s.intake.buffers.filter (fun b => b.role == r)).length

/-- Of the three buffers at most one is READY and at most one IN_USE, and one is WRITING exactly while a
MEAS_WRITE is open, the one it writes into. -/
def State.buffersOk (s : State) : Bool :=
  s.intake.buffers.length == 3 && Nat.ble (s.buffersIn .ready) 1 && Nat.ble (s.buffersIn .inUse) 1
  && (match s.host.txn with
    | some (.measWrite b) => s.buffersIn .writing == 1
        && b.any (fun i => (s.intake.buffers[i]?.map (fun c => c.role)) == some .writing)
    | some .cmdWrite => s.buffersIn .writing == 0
    | some (.replyRead _) => s.buffersIn .writing == 0
    | some (.noticeRead _) => s.buffersIn .writing == 0
    | some (.statusRead _) => s.buffersIn .writing == 0
    | none => s.buffersIn .writing == 0)

/-! ### One withdrawal of each class, and the test law (R39, R73, R75) -/

/-- The own entries of a class. -/
def State.ownOf (s : State) (c : WKind → Bool) : List Withdrawal :=
  s.ownWithdrawals.filter (fun w => c w.kind)

/-- At most one own withdrawal of each class, and at most 32 entries in all (R73). -/
def State.classesOk (s : State) : Bool :=
  Nat.ble (s.ownOf WKind.isCabinet).length 1 && Nat.ble (s.ownOf WKind.isTest).length 1
  && Nat.ble (s.ownOf WKind.isService).length 1 && Nat.ble s.claims.list.length 32

/-- A string is in TEST exactly while an own ACTIVE TEST withdrawal has that string as its scope
(R39). -/
def State.testLaw (s : State) : Bool :=
  (List.range s.strings.length).all (fun k => s.stringIs k .test ==
    s.ownWithdrawals.any (fun w => w.kind == .test && w.active && w.scope == .string k))

/-- What the request in the slot says of its requester: whose it is, whether that one has given it up,
and that the station holds no withdrawal of its class unless it has. -/
def State.requesterOk (s : State) (q : Request) : Bool :=
  match q.requester with
  | .sequencer => q.kind == .bypass && q.scope == .cabinet && q.givenUp == s.seq.superseded
      && (s.seq.superseded || s.seq.state == .claiming)
  | .ageing => q.kind == .test && q.scope == .string s.job.k && s.job.state == .claiming
      && q.givenUp == s.job.givenUp.isSome
  | .visit => q.kind == .service
      && s.visit.current.any (fun v => v.admitting && v.scope == q.scope && v.givenUp == q.givenUp)

/-- The own withdrawals and the claim slot agree with the sequencer, the test job and the visit: the
station holds a TEST entry exactly while its test runs, a SERVICE entry exactly while a STRING visit is
OPEN, a cabinet entry exactly in the withdrawn states, and each requester that waits has its request in
the slot. -/
def State.holdersOk (s : State) : Bool :=
  (s.ownOf WKind.isTest).map (fun w => w.scope)
    == (if s.job.state = .running then [.string s.job.k] else [])
  && (s.ownOf WKind.isService).map (fun w => w.scope)
    == (match s.visit.current with
        | some v => if v.scope != .cabinet && !v.admitting then [v.scope] else []
        | none => [])
  && (s.ownOf WKind.isCabinet).length == (if s.seq.state.withdrawn then 1 else 0)
  && s.ownWithdrawals.all (fun w => w.active)
  && (s.job.state == .idle || Nat.blt s.job.k s.strings.length)
  && (s.strings.zip (List.range s.strings.length)).all
      (fun x => (x.1.state == .test) == (s.job.state == .running && s.job.k == x.2))
  && s.claims.slot.request.all s.requesterOk
  && (s.seq.state != .claiming
      || s.claims.slot.request.any (fun q => q.requester == .sequencer && !q.givenUp))
  && (!s.seq.superseded || s.claims.slot.request.any (fun q => q.requester == .sequencer))
  && (s.job.state != .claiming || s.claims.slot.request.any (fun q => q.requester == .ageing))
  && s.visit.current.all (fun v => !v.admitting
      || (v.scope != .cabinet && s.claims.slot.request.any (fun q => q.requester == .visit)))

/-- The laws of R39 and R73, with the agreement they rest on. -/
def State.ownersOk (s : State) : Bool :=
  s.classesOk && s.testLaw && s.holdersOk && Nat.ble s.peerEntries.length 29

/-! ### One entry for each owner and claim id (R71), and the level of an admission (R139) -/

/-- No two entries share owner and claim id, and no own entry has the claim id in flight (R71, R72). -/
def State.pairsOk (s : State) : Bool :=
  decide (s.claims.list.map (fun w => (w.owner, w.claimId))).Nodup
  && s.claimInFlight.all (fun id => s.ownWithdrawals.all (fun w => w.claimId != id))

/-- The next claim id is not the one in flight: the counter has not come round within one claim's flight
(R72; log 48). -/
def State.idAhead (s : State) : Bool := s.claimInFlight.all (fun id => s.newClaimId != id)

/-- A visit that is ADMITTING is at level NONE (R122, R139). -/
def State.admissionOk (s : State) : Bool :=
  s.visit.current.all (fun v => !v.admitting || v.overdue == .none)

/-! ### Before JOIN (R3, R6, R51, R71, R75, R122, R157, R171, R187, R191) -/

/-- A configuration is held from START_WINDOW on, every field of it in its range, with one string record
for each configured string. -/
def State.configOk (s : State) : Bool :=
  if s.inWindow || s.joined then
    s.image.any (fun i => i.inRanges && s.strings.length == i.stringCount)
  else s.image.isNone && s.strings.isEmpty

/-- Before JOIN the floor view unit, the claim unit, the test job, the sequencer, the watchdog, the visit
unit, the notice queue and the own frames are at their reset values, and every string is IN_SERVICE. -/
def State.beforeJoinOk (s : State) : Bool :=
  s.joined
  || (s.view == State.reset.view && s.claims == State.reset.claims && s.job == State.reset.job
      && s.ticks == State.reset.ticks && s.dog == State.reset.dog && s.visit == State.reset.visit
      && { s.seq with found := .inverter, bypOk := false } == State.reset.seq
      && s.host.notices.isEmpty && s.host.overflow == 0 && !s.host.irq
      && s.loop.queue.isEmpty && s.loop.inFlight.isEmpty && s.loop.tagCounter == 0
      && s.loop.ownDrops == 0 && !s.intake.baselineNext
      && s.strings.all (fun r => r.state == .inService))

/-! ### What a statement about a command says -/

/-- The part runs and the slot holds the record `r`, which the row `row` takes (R181). -/
def State.takes (s : State) (row : Instr) (r : List Byte) : Prop :=
  s.running = true ∧ (∃ since, s.host.slot = .pending r since) ∧ takenRow r = row

/-- The slot with the reply to record `r`: its code and sequence echoed (R183). -/
def replyTo (r : List Byte) (c : ReplyCode) (result : List Byte) : CmdSlot :=
  .replied ⟨r.getD 0 0#8, r.getD 1 0#8, c, result⟩

/-- `s` with nothing changed but the reply to record `r` in the slot. -/
def State.repliedOnly (s : State) (r : List Byte) (c : ReplyCode) (result : List Byte) : State :=
  (s.withHost { s.host with slot := replyTo r c result }).withStatusDue false

/-- The host port with the notices `l` raised, in order (R187). -/
def HostPort.joinAll (h : HostPort) (l : List Notice) : HostPort := l.foldl HostPort.join h

/-- A notice raised at the present time (R187). -/
def State.noticeOf (s : State) (k : NoticeKind) (subject v1 v2 v3 : Int) : Notice :=
  ⟨k, half subject, half v1, half v2, half v3, BitVec.ofNat 32 s.now⟩

/-- The notices `l` were raised after what the queue of `s` held, and stand in the queue of `t` as far as
it had room; nothing before them has left it. -/
def State.raised (s : State) (l : List Notice) (t : State) : Prop :=
  (s.host.joinAll l).notices <+: t.host.notices

/-- The own transmit queue of `t` holds a frame of kind `k` for claim id `id` with the body `body`, its tag
in it (R158, R159). -/
def State.sends (t : State) (k : FrameKind) (id : Nat) (body : List Byte) : Prop :=
  ∃ f ∈ t.loop.queue, f.kind = k ∧ f.claimId = id ∧ f.bytes = ownBytes k t.own f.tag body

/-- The state in which an event that began in `s` ends, where its own effect made `u`: the margin state is
evaluated, and one STATUS is queued where something R55 watches has changed. -/
def State.ends (s u : State) : State := State.finish (s.withStatusDue false) u

/-- The oldest frame assembled at port `p`, which is UP, is `b`; `rest` waits behind it, and `b` passes the
checks of R148 and R149. -/
def State.meets (s : State) (p : Port) (b : List Byte) (rest : List (List Byte)) : Prop :=
  s.running = true ∧ (s.port p).up = true ∧ (s.port p).completed = b :: rest ∧ frameOk b = true

/-- `s` with the oldest assembled frame of port `p` taken from it, `rest` left. -/
def State.handed (s : State) (p : Port) (rest : List (List Byte)) : State :=
  (s.withStatusDue false).onPort p (fun x => { x with completed := rest })

/-- A JOINED station meets a frame of kind `k` from a peer for the first time (R151). -/
def State.firstMeeting (s : State) (k : FrameKind) (b : List Byte) : Prop :=
  s.startup.state = .joined ∧ frOrigin b ≠ s.own ∧ maskHas (frVisited b) s.own = false
  ∧ frameKindOf (byteAt b 0) = some k

/-- STRING_CLASS for every string whose class differs in the records `new` (R24). -/
def State.classNotices (s : State) (new : List StringRec) : List Notice :=
  ((s.strings.zip new).zip (List.range s.strings.length)).filterMap (fun x =>
    if x.1.1.cls = x.1.2.cls then none
    else some (s.noticeOf .stringClass x.2 x.1.1.cls.code x.1.2.cls.code x.1.2.soh))

/-- The capture of one string at a take-in, record alone (R31 to R34): nothing without a step, a rejected
capture counted, an accepted one kept and the record recomputed. -/
def StringRec.captured (p : StringParams) (silent : Bool) (h : Handed) (r : StringRec) : StringRec :=
  match r.baseline with
  | none => r
  | some b =>
    if h.valid = true ∧ b.valid = true ∧ r.state ≠ .isolated ∧ b.state ≠ .isolated
        ∧ p.stepThreshold ≤ (h.current - b.current).natAbs then
      if captureOk b.voltage h.voltage b.current h.current then
        (r.accept (resistance b.voltage h.voltage b.current h.current).toNat).recompute p silent
      else { r with captureRejects := satAdd 16 r.captureRejects 1 }
    else r

/-- What a take-in from JOIN onward makes of the record of a string that is not under test (R35): flags,
counting or baseline, capture, and the new capture baseline. -/
def StringRec.takenIn (p : StringParams) (base : Bool) (dt : Nat) (h : Hold) (x : Sample)
    (r : StringRec) : StringRec :=
  let g := handedOf h x
  let r1 := (r.takeFlags h x).countIn p base false dt g
  (if base then r1 else r1.captured p false g).setBaseline g

/-! ### Frames -/

/-- The pieces of the state that a frame speaks of. `statusDue`, which is a mark of the model that lives
inside one event, belongs to none. -/
inductive Piece where
  | queue
  | freeCount
  | clock
  | supply
  | pins
  | requests
  | lamp
  | dischReq
  | unsupervisedLine
  | startup
  | image
  | strings
  | job
  | ticks
  | peers
  | statusTimer
  | margin
  | duplicate
  | withdrawals
  | claimIds
  | slot
  | sequencer
  | phase
  | visits
  | intake
  | watchdog
  | command
  | reset
  | notices
  | transaction
  | hostCounts
  | portA
  | portB
  | ownQueue
  | inFlight
  deriving DecidableEq, Repr

/-- Piece `p` is in `t` as it is in `s`. -/
def Piece.kept (s t : State) : Piece → Prop
  | .queue => t.pending = s.pending
  | .freeCount => t.freeCount = s.freeCount
  | .clock => t.us = s.us
  | .supply => t.power = s.power
  | .pins => t.pins = s.pins
  | .requests => t.outs.xferByp = s.outs.xferByp ∧ t.outs.xferInv = s.outs.xferInv
  | .lamp => t.outs.mbsPermit = s.outs.mbsPermit
  | .dischReq => t.outs.dischReq = s.outs.dischReq
  | .unsupervisedLine => t.outs.unsupervised = s.outs.unsupervised
  | .startup => t.startup = s.startup
  | .image => t.image = s.image
  | .strings => t.strings = s.strings
  | .job => t.job = s.job
  | .ticks => t.ticks = s.ticks
  | .peers => t.view.peers = s.view.peers
  | .statusTimer => t.view.seq = s.view.seq ∧ t.view.statusAt = s.view.statusAt
  | .margin => t.view.margin = s.view.margin ∧ t.view.figures = s.view.figures
  | .duplicate => t.view.duplicate = s.view.duplicate
  | .withdrawals => t.claims.list = s.claims.list ∧ t.claims.lost = s.claims.lost
      ∧ t.claims.incomplete = s.claims.incomplete
  | .claimIds => t.claims.lastId = s.claims.lastId
  | .slot => t.claims.slot = s.claims.slot
  | .sequencer => t.seq = s.seq
  | .phase => t.phase = s.phase
  | .visits => t.visit = s.visit
  | .intake => t.intake = s.intake
  | .watchdog => t.dog = s.dog
  | .command => t.host.slot = s.host.slot
  | .reset => t.host.resetAt = s.host.resetAt ∧ t.host.resetNow = s.host.resetNow
  | .notices => t.host.notices = s.host.notices ∧ t.host.overflow = s.host.overflow
      ∧ t.host.irq = s.host.irq
  | .transaction => t.host.txn = s.host.txn ∧ t.host.shifted = s.host.shifted
  | .hostCounts => t.host.rejected = s.host.rejected ∧ t.host.bad = s.host.bad
  | .portA => t.loop.a = s.loop.a
  | .portB => t.loop.b = s.loop.b
  | .ownQueue => t.loop.queue = s.loop.queue ∧ t.loop.tagCounter = s.loop.tagCounter
      ∧ t.loop.ownDrops = s.loop.ownDrops
  | .inFlight => t.loop.inFlight = s.loop.inFlight

/-- Every piece outside `f` is in `t` as it is in `s`. -/
structure State.ChangesOnly (s : State) (f : List Piece) (t : State) : Prop where
  kept : ∀ p, p ∉ f → p.kept s t

/-- What the end of any event may change: the margin state with its notices, and a STATUS queued (R55,
R67, R68). -/
def endPieces : List Piece := [.margin, .notices, .statusTimer, .ownQueue]

/-- What an entry to DEFICIT also changes where a test is being claimed or runs (R41, R45, R46). -/
def testPieces : List Piece := [.strings, .job, .dischReq, .withdrawals, .slot]

/-- What the end of an event that began in `s` may change, beside the event's own effect. -/
def State.eventEnd (s : State) : List Piece :=
  if s.job.state = .idle then endPieces else endPieces ++ testPieces

end Sys2Proof.Machine
end

