-- ==== Sys2Proof/Certificates/Slice0/Obligations.lean ====
section
/-! DEFINITION. The statements for the provers. -/

section

open Sys2Proof Sys2Proof.Machine

/-! ### The machine -/

/-- A step takes the command at the front of the queue and executes it on the state with the rest. -/
def Obligations.StepRunsTheFront : Prop :=
  ∀ (c : Instr) (rest : List Instr) (s : State), s.pending = c :: rest →
    step s = exec c (s.withPending rest)

/-- The step on an empty queue, a choice of the model (logs 2, 3 and 23): a part without supply or held
in reset stays as it is; with nothing due and nothing it may take, one microsecond passes; the only row
that may come is executed; and whatever comes is one of the rows that may come, or the microsecond. -/
def Obligations.IdleStep : Prop :=
  ∀ s : State, s.pending = [] →
    (s.running = false → step s = .next s)
    ∧ (s.running = true → s.dueNow = [] → s.dueMay = [] → s.counter ≠ 65535 →
        step s = .next s.advance)
    ∧ (s.running = true → ∀ i, s.options = [some i] → step s = exec i s)
    ∧ (s.running = true → ∃ o ∈ s.options, ∃ n, (n = s.freeCount ∨ n = s.freeCount + 1)
        ∧ (o = none → step s = .next (s.withFreeCount n).advance)
        ∧ (∀ i, o = some i → step s = exec i (s.withFreeCount n)))
    ∧ s.advance.us = s.us + 1
    ∧ (∀ n ∈ stations, s.view.peers.length = 16 → (s.peer n).state ≠ .absent →
        (s.advance.peer n).age = (if (s.us + 1) % 1000 = 0 then min 65535 ((s.peer n).age + 1)
          else (s.peer n).age))

/-- Every command completes from every state, and leaves the sender's queue alone. The choices of
the model that it rests on are log 4. -/
def Obligations.EveryCommandCompletes : Prop :=
  ∀ (i : Instr) (s : State), ∃ t, exec i s = .next t ∧ t.pending = s.pending
    ∧ s.freeCount ≤ t.freeCount

/-! ### Supply, reset and start-up -/

/-- The five rows that reset the part bring every block to its reset state. The sender's queue, the
count of free values, the lines into the part and the supply are not the part's. Where the row's
change has already happened, or no reset is pending, nothing changes. The choices of the model that
it rests on are logs 3 and 4. -/
def Obligations.ResetRows : Prop :=
  ∀ s : State,
    (s.power = false → exec .powerOn s = .next { State.reset with
        pending := s.pending, freeCount := s.freeCount, pins := s.pins, power := true })
    ∧ (s.power = true → exec .powerOff s = .next { State.reset with
        pending := s.pending, freeCount := s.freeCount, pins := s.pins, power := false })
    ∧ (s.pins.resetN = true → exec .resetNFall s = .next { State.reset with
        pending := s.pending, freeCount := s.freeCount, pins := { s.pins with resetN := false }
        power := s.power })
    ∧ (s.pins.resetN = false → exec .resetNRise s = .next { State.reset with
        pending := s.pending, freeCount := s.freeCount, pins := { s.pins with resetN := true }
        power := s.power })
    ∧ (s.running = true → (s.host.resetNow = true ∨ ∃ d, s.host.resetAt = some d ∧ d ≤ s.now) →
        exec .resetTakesEffect s = .next { State.reset with
          pending := s.pending, freeCount := s.freeCount, pins := s.pins, power := s.power })
    ∧ (s.host.resetNow = false → (∀ d, s.host.resetAt = some d → s.now < d) →
        exec .resetTakesEffect s = .next s)
    ∧ (s.power = true → exec .powerOn s = .next s) ∧ (s.power = false → exec .powerOff s = .next s)
    ∧ (s.pins.resetN = false → exec .resetNFall s = .next s)
    ∧ (s.pins.resetN = true → exec .resetNRise s = .next s)

/-- The values the spec gives for reset, block by block. -/
def Obligations.ResetValues : Prop :=
  let s := State.reset
  s.startup.state = .loading ∧ s.startup.attempt = 1 ∧ s.image = none ∧ s.strings = [] ∧ s.now = 0
  ∧ s.counter = 0 ∧ s.job.state = .idle ∧ s.ticks.count = 0
  ∧ (∀ n ∈ stations, (s.peer n).state = .absent ∧ (s.peer n).core.period = 1000)
  ∧ s.view.seq = 0 ∧ s.view.margin = .normal ∧ s.view.duplicate = false
  ∧ s.claims.list = [] ∧ s.claims.lastId = 0 ∧ s.claims.lost = 0 ∧ s.claims.incomplete = false
  ∧ s.claims.slot = .free ∧ s.seq.state = .online ∧ s.seq.history = [] ∧ s.seq.found = .inverter
  ∧ s.seq.bypOk = false ∧ s.phase.lock = 0 ∧ s.phase.angle = 0 ∧ s.phase.inv.freq = none
  ∧ s.phase.byp.freq = none ∧ s.visit.current = none ∧ s.visit.history = [] ∧ s.visit.counter = 0
  ∧ s.intake.pAvail = 0 ∧ s.intake.load = 0 ∧ s.intake.vBypass = 0 ∧ s.intake.lastCounter = none
  ∧ (∀ b ∈ s.intake.buffers, b.role = .free) ∧ (∀ h ∈ s.intake.holds, h.temperature = 200)
  ∧ s.dog.stage = .off ∧ s.host.slot = .empty ∧ s.host.notices = [] ∧ s.host.overflow = 0
  ∧ s.host.irq = false ∧ s.host.rejected = 0 ∧ s.host.bad = 0 ∧ s.loop.a.up = false
  ∧ s.loop.b.up = false ∧ s.loop.queue = [] ∧ s.loop.inFlight = [] ∧ s.loop.tagCounter = 0
  ∧ s.outs = ⟨false, false, false, false, false⟩

/-- The machine right after reset meets every law that the invariants below keep. -/
def Obligations.ResetMeetsTheLaws : Prop :=
  let s := State.reset
  s.noticesOk = true ∧ s.linesOk = true ∧ s.stringsOk = true ∧ s.marginOk = true ∧ s.tableOk = true
  ∧ s.loopOk = true ∧ s.listOk = true ∧ s.cabinetOk = true ∧ s.ownersOk = true ∧ s.configOk = true
  ∧ s.beforeJoinOk = true

/-- The start-up state and the configuration go forward only by their own rows: out of START_WINDOW by JOIN
and by the expiry of the window, in LOADING and out of it by the three rows of the image, and a configuration
is loaded by the completion of its read. JOINED, CONFIG_FAULT and a loaded configuration are left by
nothing but a reset. -/
def Obligations.OnlyAResetLeaves : Prop :=
  ∀ (i : Instr) (s t : State),
    i ∉ [Instr.powerOn, .powerOff, .resetNFall, .resetNRise, .resetTakesEffect] →
    exec i s = .next t →
    (s.startup.state = .joined → t.startup = s.startup)
    ∧ (s.startup.state = .configFault → t.startup = s.startup)
    ∧ (s.startup.state = .startWindow →
        t.startup = s.startup ∨ ((i = .join ∨ i = .startWindowExpiry)
          ∧ t.startup = { s.startup with state := .joined, windowEnds := none }))
    ∧ (s.startup.state = .loading → t.startup.state ≠ .joined
        ∧ ((∀ b, i ≠ .imageReadComplete b) → t.image = s.image ∧ t.startup.state ≠ .startWindow
          ∧ (i ≠ .imageReadFailed → t.startup.state = .loading
            ∧ (i ≠ .imageReadRetry → t.startup = s.startup))))
    ∧ (s.startup.state ≠ .loading → t.image = s.image)

/-- A read attempt that fails, the retry of a failed attempt, and the checks of a read image in the order of
R191: the first failure enters CONFIG_FAULT; an image that passes is held, the records are built, `found` is
formed and the window timer runs. The bytes of each field are those of R201, and its index and range those of
R195 and R4. A read that brought fewer than 98 bytes is a failed attempt (log 13, the
model's choice). -/
def Obligations.ImageRead : Prop :=
  (∀ s : State, s.running = true → s.startup.state = .loading →
     (s.startup.readSince ≠ none →
       (s.startup.attempt < 3 → exec .imageReadFailed s = .next ((s.withStartup { s.startup with
           readSince := none, retryAt := some (s.now + 10) }).withStatusDue false))
       ∧ (3 ≤ s.startup.attempt → exec .imageReadFailed s = .next ((s.withStartup { s.startup with
           state := .configFault, reason := some .noAck, fieldIndex := 0, readSince := none
           retryAt := none }).withStatusDue false))
       ∧ (∀ b : List Byte, b.length < 98 → exec (.imageReadComplete b) s = exec .imageReadFailed s))
     ∧ (∀ d, s.startup.retryAt = some d → d ≤ s.now →
         exec .imageReadRetry s = .next ((s.withStartup { s.startup with
           attempt := s.startup.attempt + 1, readSince := some s.now
           retryAt := none }).withStatusDue false)))
  ∧ (∀ (b : List Byte) (s : State), s.running = true → s.startup.state = .loading →
       s.startup.readSince ≠ none → b.length = 98 →
       let sum := ((b.take 96).map BitVec.toNat).sum % 65536
       let faulted := fun (r : FaultReason) (i : Nat) => exec (.imageReadComplete b) s
         = .next ((s.withStartup { s.startup with
             state := .configFault, reason := some r, fieldIndex := i, readSince := none
             retryAt := none }).withStatusDue false)
       (sum ≠ u16At b 96 → faulted .badSum 0)
       ∧ (sum = u16At b 96 → byteAt b 0 ≠ 1 → faulted .badVersion 0)
       ∧ (sum = u16At b 96 → byteAt b 0 = 1 →
           (∀ (before after : List (Nat × Bool)) (i : Nat),
             imageChecks (imageOf b) = before ++ (i, false) :: after → (∀ c ∈ before, c.2 = true) →
             faulted .fieldRange i)
           ∧ ((∀ c ∈ imageChecks (imageOf b), c.2 = true) →
               exec (.imageReadComplete b) s = .next (((((s.withStartup { s.startup with
                   state := .startWindow, readSince := none, retryAt := none
                   windowEnds := some (s.now + (imageOf b).startWindow * 1000) }).withImage
                 (some (imageOf b))).withStrings ((imageOf b).strings.map builtRecord)).withSeq
                   { s.seq with found :=
                       if s.pins.mbsClosed = true then .maintBypass
                       else if s.pins.ssFb = true then .bypass else .inverter }).withStatusDue false))))
  ∧ (let within := fun (index v lo hi : Nat) => (index, decide (lo ≤ v ∧ v ≤ hi))
     (∀ (k : Nat) (p : StringParams), paramChecks k p =
       [within (20 + 10 * k + 1) p.n 6 48, within (20 + 10 * k + 2) p.cRated 10 1000,
        within (20 + 10 * k + 3) p.lDesign 365 7300, within (20 + 10 * k + 4) p.nCyc 100 5000,
        within (20 + 10 * k + 5) p.eta 80 100, within (20 + 10 * k + 6) p.warn 7000 9900,
        (20 + 10 * k + 7, decide ((6000 ≤ p.endSoh ∧ p.endSoh ≤ 9800) ∧ p.endSoh < p.warn)),
        within (20 + 10 * k + 8) p.endVoltage 900 1150,
        within (20 + 10 * k + 9) p.stepThreshold 50 2000,
        within (20 + 10 * k + 10) p.dischThreshold 10 255])
     ∧ (∀ i : Image, imageChecks i =
       [within 1 i.version 1 1, within 2 i.station 1 16, within 3 i.quorum 1 16,
        within 4 i.statusPeriod 50 1000, within 5 i.claimTimeout 10 250, within 6 i.retryLimit 0 7,
        within 7 i.startWindow 10 300, within 8 i.hostTimeout 100 5000, within 9 i.syncTimeout 2 30,
        within 10 i.pRated 10 10000, within 11 i.bypNominal 1000 6000, within 12 i.band 1 20,
        within 13 i.syncWindow 5 200, within 14 i.slipMax 10 200, within 15 i.confirmTimeout 5 200,
        within 16 i.retransferDelay 5 60, within 17 i.reservePct 0 100, within 18 i.autonomyMin 1 240,
        within 19 i.exposurePct 0 100, within 20 i.stringCount 0 4]
       ++ ((List.range i.strings.length).map (fun k =>
          paramChecks k (i.strings.getD k StringParams.blank))).flatten)
     ∧ (∀ b : List Byte,
       let u8 := fun (o : Nat) => (b.getD o 0).toNat
       let u16 := fun (o : Nat) => u8 o + 256 * u8 (o + 1)
       imageOf b =
         { version := u8 0, station := u8 1, quorum := u8 2, statusPeriod := u16 3
           claimTimeout := u8 5, retryLimit := u8 6, startWindow := u16 7, hostTimeout := u16 9
           syncTimeout := u8 11, pRated := u16 12, bypNominal := u16 14, band := u8 16
           syncWindow := u8 17, slipMax := u8 18, confirmTimeout := u8 19, retransferDelay := u8 20
           reservePct := u8 21, autonomyMin := u8 22, exposurePct := u8 23, stringCount := u8 24
           strings := (List.range (min 4 (u8 24))).map (fun k =>
             let o := 25 + 17 * k
             { n := u8 o, cRated := u16 (o + 1), lDesign := u16 (o + 3), nCyc := u16 (o + 5)
               eta := u8 (o + 7), warn := u16 (o + 8), endSoh := u16 (o + 10)
               endVoltage := u16 (o + 12), stepThreshold := u16 (o + 14)
               dischThreshold := u8 (o + 16) }) }))

/-- A record as it is built for parameters in their ranges: the values of R5, and one recompute,
which caps SoH at warn − 1 (R6). LOAD_AGEING in START_WINDOW: refusals in the order of R28, and an
accepted load with its recompute and reply. The choices of the model that it rests on are logs 14
and 15. -/
def Obligations.RecordsBuiltAndLoaded : Prop :=
  (∀ (k : Nat) (p : StringParams), (∀ c ∈ paramChecks k p, c.2 = true) →
     let r := builtRecord p
     r.soh = p.warn - 1 ∧ r.cls = (if p.endSoh = p.warn - 1 then .ended else .worn)
     ∧ r.q = 0 ∧ r.soc = 0 ∧ r.eUsable = 0 ∧ r.eAvail = 0 ∧ r.u = 0 ∧ r.rho = 10000
     ∧ r.qFull = p.cRated * 3600 * (p.warn - 1) / 10000 ∧ 0 < r.qFull
     ∧ r.daysLeft = p.lDesign ∧ r.state = .inService ∧ r.ageUnknown = true ∧ r.unmeasured = false
     ∧ r.tempSuspect = false ∧ r.rem = 0 ∧ r.aCal = 0 ∧ r.tDah = 0 ∧ r.tRem = 0 ∧ r.deepCount = 0
     ∧ r.dischEvents = 0 ∧ r.dischSeconds = 0 ∧ r.dischMs = 0 ∧ r.iRef = 0 ∧ r.tSum = 0 ∧ r.tN = 0
     ∧ r.tLast = 200 ∧ r.daySum = 0 ∧ r.fDay = 256 ∧ r.resList = [] ∧ r.rRef = none
     ∧ r.testCap = none ∧ r.lastTest = none ∧ r.captureRejects = 0 ∧ r.loaded = false)
  ∧ (∀ (r : List Byte) (s : State), s.takes .loadAgeing r → s.startup.state = .startWindow →
       (s.strings.length ≤ arg8 r 0 → exec .loadAgeing s = .next (s.repliedOnly r .badArg (le8 1)))
       ∧ (∀ x, s.strings[arg8 r 0]? = some x →
           (x.loaded = true → exec .loadAgeing s = .next (s.repliedOnly r .badState (le8 0)))
           ∧ (x.loaded = false → (∃ v, argOpt32 r 17 = some v ∧ (v < 100 ∨ 100000 < v)) →
               exec .loadAgeing s = .next (s.repliedOnly r .badArg (le8 7)))
           ∧ (x.loaded = false → (∀ v, argOpt32 r 17 = some v → 100 ≤ v ∧ v ≤ 100000) →
               let y := { x with
                 aCal := arg32 r 1, tDah := arg32 r 5, deepCount := arg16 r 9, dischEvents := arg16 r 11
                 dischSeconds := arg32 r 13, tRem := 0, rem := 0, dischMs := 0, rRef := argOpt32 r 17
                 q := arg32 r 22, ageUnknown := false
                 loaded := true }.recompute (s.params (arg8 r 0)) s.hostSilent
               exec .loadAgeing s = .next ((s.repliedOnly r .ok
                 (le16 y.soh ++ le8 y.cls.code ++ le16 y.soc)).withStrings
                   (s.strings.set (arg8 r 0) y)))))

/-! ### JOIN and what is refused before it -/

/-- JOIN, by the command or by the window timer: the controller enters JOINED, the watchdog is
armed, the minute starts, baselines are dropped, the cabinet's position is taken up from the lines,
and the first STATUS, with sequence 1, stands behind the FORCED frame where there is one. The
choices of the model that it rests on are logs 14, 15, 20 and 38. -/
def Obligations.JoinEffects : Prop :=
  ∀ s : State, s.running = true → s.startup.state = .startWindow → s.seq.found = s.pins.found →
    s.beforeJoinOk = true →
    let joins := fun (t : State) =>
      t.startup = { s.startup with state := .joined, windowEnds := none }
      ∧ t.dog = ⟨.watching, some (s.now + s.cfg.hostTimeout)⟩
      ∧ t.ticks = ⟨0, some (s.now + 60000)⟩
      ∧ t.strings = s.strings.map (fun r => { r with baseline := none })
      ∧ t.intake = { s.intake with baselineNext := true }
      ∧ t.view.seq = 1 ∧ t.view.statusAt = some (s.now + s.cfg.statusPeriod)
      ∧ t.view.peers = s.view.peers ∧ t.seq.found = .inverter ∧ t.seq.history = []
      ∧ (s.pins.ssFb = false → s.pins.mbsClosed = false →
          t.seq.state = .online ∧ t.claims.list = []
          ∧ t.loop.queue.map (fun f => f.kind) = [.status] ∧ s.raised [] t)
      ∧ (s.pins.ssFb = true → s.pins.mbsClosed = false →
          t.seq.state = .forced
          ∧ t.seq.retransferAt = (if s.pins.invOk = true ∧ s.phase.lock = 4
              then some (s.now + s.cfg.retransferDelay * 1000) else none)
          ∧ t.claims.list = [⟨s.own, 1, .bypass, .cabinet, true, true, false, none, s.now, false⟩]
          ∧ t.loop.queue.map (fun f => (f.kind, f.claimId)) = [(.forced, 1), (.status, 0)]
          ∧ s.raised [s.noticeOf .forcedBypass 1 0 SeqState.online.code 3] t)
      ∧ (s.pins.mbsClosed = true →
          t.seq.state = .maint ∧ t.seq.prior = some .forced
          ∧ t.claims.list = [⟨s.own, 1, .maint, .cabinet, true, true, true, none, s.now, false⟩]
          ∧ t.loop.queue.map (fun f => (f.kind, f.claimId)) = [(.forced, 1), (.status, 0)]
          ∧ s.raised [s.noticeOf .forcedBypass 1 0 SeqState.online.code 3,
              s.noticeOf .unsanctionedMaint 1 SeqState.forced.code 0 0] t)
    (∀ r, s.takes .join r → ∃ t, exec .join s = .next t ∧ joins t
      ∧ t.host.slot = replyTo r .ok (le8 t.seq.state.code ++ le8 t.view.margin.code)
      ∧ s.ChangesOnly [.requests, .lamp, .startup, .strings, .ticks, .statusTimer, .margin,
          .withdrawals, .claimIds, .sequencer, .intake, .watchdog, .command, .notices,
          .ownQueue] t)
    ∧ ((∃ d, s.startup.windowEnds = some d ∧ d ≤ s.now) →
        ∃ t, exec .startWindowExpiry s = .next t ∧ joins t
      ∧ s.ChangesOnly [.requests, .lamp, .startup, .strings, .ticks, .statusTimer, .margin,
          .withdrawals, .claimIds, .sequencer, .intake, .watchdog, .notices, .ownQueue] t)

/-- A command that the start-up state does not take is answered NOT_JOINED, a record with an unknown
code BAD_ARG with result COMMAND, and JOIN and LOAD_AGEING are answered BAD_STATE in JOINED; such a
reply changes nothing beyond the slot. The choices of the model that it rests on are logs 14 and 15. -/
def Obligations.RefusedByThePort : Prop :=
  ∀ (row : Instr) (r : List Byte) (s : State), s.takes row r →
    (s.startup.state ≠ .joined →
        row ∈ [Instr.readFloor, .readView, .readWithdrawals, .forgetStation, .reqBypass, .reqReturn,
          .reqTest, .abortTest, .openVisit, .isolate, .replace, .restore, .note, .closeVisit,
          .readVisit] →
        exec row s = .next (s.repliedOnly r .notJoined (le8 s.startup.state.code)))
    ∧ (s.startup.state = .loading ∨ s.startup.state = .configFault →
        row ∈ [Instr.join, .loadAgeing, .readString] →
        exec row s = .next (s.repliedOnly r .notJoined (le8 s.startup.state.code)))
    ∧ (s.marginOk = true → row = .unknownCommand →
        exec row s = .next (s.repliedOnly r .badArg (le8 1)))
    ∧ (s.marginOk = true → s.startup.state = .joined → row = .join →
        exec row s = .next (s.repliedOnly r .badState (le8 14)))
    ∧ (s.marginOk = true → s.startup.state = .joined → row = .loadAgeing →
        exec row s = .next (s.repliedOnly r .badState (le8 0)))

/-! ### Commands that read -/

/-- The reading commands change nothing but the slot, and reply with the values as they stand, field by
field in the order of the rule of each, at the widths of R197: least significant byte first, an optional
field behind its presence byte, a list behind its count. READ_COUNTERS with `clear` 1 also returns the counts of the ports, the intake and the host port to
0. RESET is answered OK in every start-up state and leaves a reset pending for 20 ms. The choices of
the model that it rests on are logs 14, 15, 18, 42, 43, 44, 47, 50, 51 and 53. -/
def Obligations.ReadingCommandsAndReset : Prop :=
  (∀ (r : List Byte) (s : State), s.marginOk = true →
     (∀ x, s.takes .readString r → s.startup.state = .startWindow ∨ s.startup.state = .joined →
         s.strings[arg8 r 0]? = some x → exec .readString s = .next (s.repliedOnly r .ok x.bytes))
     ∧ (s.takes .readString r → s.startup.state = .startWindow ∨ s.startup.state = .joined →
         s.strings.length ≤ arg8 r 0 → exec .readString s = .next (s.repliedOnly r .badArg (le8 1)))
     ∧ (s.startup.state = .joined →
         (s.takes .readFloor r → exec .readFloor s = .next (s.repliedOnly r .ok s.floorBytes))
         ∧ (s.takes .readView r → 1 ≤ arg8 r 0 → arg8 r 0 ≤ 16 →
             exec .readView s = .next (s.repliedOnly r .ok (s.viewBytes (arg8 r 0))))
         ∧ (s.takes .readView r → arg8 r 0 = 0 ∨ 17 ≤ arg8 r 0 →
             exec .readView s = .next (s.repliedOnly r .badArg (le8 1)))
         ∧ (s.takes .readWithdrawals r → arg8 r 0 ≤ 31 →
             exec .readWithdrawals s = .next (s.repliedOnly r .ok (s.withdrawalBytes (arg8 r 0))))
         ∧ (s.takes .readWithdrawals r → 32 ≤ arg8 r 0 →
             exec .readWithdrawals s = .next (s.repliedOnly r .badArg (le8 1)))
         ∧ (s.takes .readVisit r → arg8 r 0 = 1 →
             exec .readVisit s = .next (s.repliedOnly r .ok
               (s.visitHead ++ leOpt 23 s.currentBytes s.visit.current)))
         ∧ (s.takes .readVisit r → arg8 r 0 = 2 → arg8 r 1 ≤ 7 →
             exec .readVisit s = .next (s.repliedOnly r .ok
               (s.visitHead ++ leOpt 25 ClosedVisit.bytes s.visit.history[arg8 r 1]?)))
         ∧ (s.takes .readVisit r → arg8 r 0 = 2 → 8 ≤ arg8 r 1 →
             exec .readVisit s = .next (s.repliedOnly r .badArg (le8 2)))
         ∧ (s.takes .readVisit r → arg8 r 0 ≠ 1 → arg8 r 0 ≠ 2 →
             exec .readVisit s = .next (s.repliedOnly r .badArg (le8 1)))))
  ∧ (∀ (r : List Byte) (s : State), s.marginOk = true →
       let cleared := fun (p : PortState) =>
         { p with symErr := 0, frmErr := 0, lost := 0, circ := 0, overruns := 0 }
       (s.takes .readCounters r → arg8 r 0 = 0 → exec .readCounters s = .next
           ((s.repliedOnly r .ok s.counterBytes).withFreeCount (s.freeCount + 1)))
       ∧ (s.takes .readCounters r → arg8 r 0 = 1 → exec .readCounters s = .next
           { s with
             statusDue := false
             freeCount := s.freeCount + 1
             loop := { s.loop with a := cleared s.loop.a, b := cleared s.loop.b, ownDrops := 0 }
             intake := { s.intake with skipped := 0, repeated := 0, short := 0 }
             host := { s.host with slot := replyTo r .ok s.counterBytes, rejected := 0, bad := 0 } })
       ∧ (s.takes .readCounters r → 2 ≤ arg8 r 0 →
           exec .readCounters s = .next (s.repliedOnly r .badArg (le8 1)))
       ∧ (s.takes .reset r → exec .reset s = .next
           { s with
             statusDue := false
             host := { s.host with
               slot := replyTo r .ok [], resetAt := some (s.now + 20), resetNow := false } }))
  ∧ (let le := fun (width value : Nat) =>
       (List.range width).map (fun i => BitVec.ofNat 8 (value / 256 ^ i))
     (∀ v, le8 v = le 1 v ∧ le16 v = le 2 v ∧ le32 v = le 4 v)
     ∧ (∀ v : Int, leInt16 v = le 2 (v % 65536).toNat)
     ∧ (∀ b : Bool, leMark b = le 1 (if b then 1 else 0))
     ∧ (∀ (α : Type) (width : Nat) (f : α → List Byte),
         leOpt width f none = le 1 0 ++ List.replicate width 0
         ∧ (∀ x, leOpt width f (some x) = le 1 1 ++ f x)
         ∧ (∀ l, leList f l = le 1 l.length ++ (l.map f).flatten)))
  ∧ (let mark := fun (b : Bool) (v : Nat) => if b then v else 0
     (∀ x : StringRec, x.bytes =
         le8 (match x.state with
           | .inService => 0
           | .test => 1
           | .isolated => 2)
         ++ le8 (match x.cls with
           | .good => 0
           | .worn => 1
           | .ended => 2)
         ++ le8 (mark x.ageUnknown 1 + mark x.unmeasured 2 + mark x.tempSuspect 4)
         ++ le32 x.q ++ le32 x.qFull ++ le16 x.soc ++ le16 x.u ++ le16 x.rho
         ++ le16 x.soh ++ le16 x.eUsable ++ le16 x.eAvail ++ le16 x.daysLeft
         ++ le32 x.aCal ++ le32 x.tDah ++ le16 x.deepCount ++ le16 x.dischEvents
         ++ le32 x.dischSeconds ++ le16 x.fDay ++ leList le32 x.resList ++ leOpt 4 le32 x.rRef
         ++ leOpt 2 le16 x.testCap
         ++ leOpt 24 (fun l : LastTest => le32 l.startMs ++ le16 l.socStart ++ le16 l.target
             ++ le16 l.limitMin ++ le32 l.delivered
             ++ leOpt 1 (fun v : Verdict => le8 (match v with
               | .pass => 1
               | .failVoltage => 2
               | .inconclusive => 3
               | .abortedHost => 4
               | .abortedDeficit => 5
               | .abortedStale => 6
               | .abortedBypass => 7)) l.verdict
             ++ leOpt 4 le32 l.endMs ++ leOpt 2 le16 l.kappa) x.lastTest
         ++ le16 x.captureRejects ++ leMark x.loaded)
     ∧ (∀ s : State,
         let f := s.view.figures
         let peers := fun (e : EntryState) =>
           (stations.filter (fun n => n != s.own && (s.peer n).state == e)).length
         s.floorBytes = le8 (match s.view.margin with
             | .normal => 1
             | .deficit => 2)
           ++ le32 f.totals.c ++ le32 f.totals.l ++ le32 f.totals.d ++ le32 f.totals.x
           ++ le32 f.totals.e ++ leInt16 f.headroom ++ le16 f.runtime ++ le16 f.exposedBp
           ++ leMark f.capacityOk ++ leMark f.energyOk ++ leMark f.exposureOk
           ++ le8 s.cfg.reservePct ++ le8 s.cfg.autonomyMin ++ le8 s.cfg.exposurePct
           ++ le8 (peers .present) ++ le8 (peers .stale) ++ le8 (peers .lost)
           ++ le8 s.claims.list.length ++ leMark s.claims.incomplete ++ leMark s.view.duplicate)
     ∧ (∀ s : State,
         let port := fun (p : PortState) => le8 (if p.up then 1 else 2) ++ le16 p.symErr
           ++ le16 p.frmErr ++ le8 p.lost ++ le16 p.circ ++ le16 p.overruns
         let freq := fun (i : Nat) (o : Option Nat) => le16 (o.getD (Config.invalidFrequency i).toNat)
           ++ leMark o.isSome
         s.counterBytes = le8 (match s.startup.state with
             | .loading => 1
             | .configFault => 2
             | .startWindow => 3
             | .joined => 4)
           ++ le8 (match s.startup.reason with
             | none => 0
             | some .noAck => 1
             | some .badSum => 2
             | some .badVersion => 3
             | some .fieldRange => 4)
           ++ le8 s.startup.fieldIndex
           ++ port s.loop.a ++ port s.loop.b ++ le16 s.loop.ownDrops
           ++ le16 s.intake.skipped ++ le16 s.intake.repeated ++ le16 s.intake.short
           ++ le8 (match s.dog.stage with
             | .off => 1
             | .watching => 2
             | .hostStale => 3
             | .unsupervised => 4)
           ++ le16 s.host.rejected ++ le16 s.host.bad ++ le8 s.host.notices.length
           ++ freq (2 * s.freeCount) s.phase.inv.freq ++ freq (2 * s.freeCount + 1) s.phase.byp.freq
           ++ leOpt 2 le16 s.phase.inv.period ++ leOpt 2 le16 s.phase.byp.period
           ++ leInt16 s.phase.angle ++ le8 s.phase.lock
           ++ le8 s.seq.state.code ++ leOpt 1 (fun x : SeqState => le8 x.code) s.seq.prior
           ++ leMark s.seq.pending ++ leList le32 s.seq.history)
     ∧ [SeqState.online, .syncWait, .claiming, .transferOut, .onBypass, .forced, .latched, .maint,
         .transferIn].map SeqState.code = [1, 2, 3, 4, 5, 6, 7, 8, 9]
     ∧ (∀ (s : State) (n : Nat),
         let e := s.entry n
         let t := s.contribution [] n
         let cov := (∃ w ∈ s.claims.list, w.owner = n ∧ (w.kind = .bypass ∨ w.kind = .maint))
           ∨ e.core.flags.onBypass = true
         ∃ c : Bool, (c = true ↔ cov) ∧ s.viewBytes n = le8 (match e.state with
             | .absent => 1
             | .present => 2
             | .stale => 3
             | .lost => 4)
           ++ le8 e.lastSeq ++ leMark e.seqOpen ++ le16 e.age ++ e.core.bytes
           ++ leOpt 1 le8 e.claimInFlight
           ++ le8 (match e.visitScope with
             | none => 0
             | some .cabinet => 1
             | some (.string k) => 4 + k)
           ++ le8 e.overdue.code
           ++ le16 t.d ++ le16 t.l ++ le16 t.x ++ le16 t.c ++ le32 t.e ++ leMark c))
  ∧ (let kinds := fun (k : WKind) (c : Scope) => 16 * (match k with
         | .bypass => 1
         | .maint => 2
         | .test => 3
         | .service => 4) + (match c with
         | .cabinet => 1
         | .string k => 4 + k)
     (∀ (s : State) (i : Nat), ∃ sorted : List Withdrawal,
         sorted.Perm s.claims.list
         ∧ sorted.Pairwise (fun a b => a.owner < b.owner ∨ (a.owner = b.owner ∧ a.claimId ≤ b.claimId))
         ∧ s.withdrawalBytes i = le8 s.claims.list.length
           ++ le8 (s.claims.list.filter (fun w => w.owner == s.own)).length
           ++ leMark s.claims.incomplete ++ le16 s.claims.lost
           ++ (match s.claims.slot with
             | .free => le8 1 ++ [0, 0, 0, 0]
             | .inFlight q id _ _ => le8 2 ++ le8 (kinds q.kind q.scope) ++ le8 id ++ le8 q.retries
               ++ leMark q.givenUp
             | .retryWait q _ => le8 3 ++ le8 (kinds q.kind q.scope) ++ le8 0 ++ le8 q.retries
               ++ leMark q.givenUp)
           ++ leOpt 14 (fun w : Withdrawal => le8 w.owner ++ le8 w.claimId
             ++ le8 (kinds w.kind w.scope) ++ le8 (if w.active then 2 else 1) ++ leMark w.forced
             ++ leMark w.unsanctioned ++ leOpt 2 le16 w.planned ++ le32 w.enteredMs
             ++ leMark w.overdue) sorted[i]?)
     ∧ (∀ s : State, s.visitHead = le8 s.visit.history.length ++ le16 s.visit.counter)
     ∧ (let head := fun (v : Visit) => le16 v.visitId ++ le32 v.tech ++ le8 (match v.scope with
           | .cabinet => 1
           | .string k => 4 + k)
           ++ le16 v.planned ++ le32 v.openedMs ++ le8 (if v.admitting then 1 else 2)
       let level := fun (v : Visit) => le8 (match v.overdue with
         | .none => 0
         | .overdue => 1
         | .long => 2)
       let actions := fun (v : Visit) => leList (fun a : VisitAction => le8 (match a.kind with
             | .isolated => 1
             | .replaced => 2
             | .restored => 3
             | .note => 4
             | .maintEntered => 5
             | .maintLeft => 6)
           ++ leOpt 1 le8 a.string ++ le32 a.ms ++ le16 a.value) v.actions ++ leMark v.actionsLost
       (∀ (s : State) (v : Visit), s.currentBytes v = head v ++ leMark v.givenUp ++ level v ++ actions v
           ++ leMark v.keyOut ++ le32 ((s.now - v.openedMs) / 60000))
       ∧ (∀ c : ClosedVisit, c.bytes = head c.visit ++ level c.visit ++ actions c.visit ++ le32 c.closedMs
           ++ (match c.admission with
             | none => le8 1 ++ [0, 0, 0]
             | some (outcome, givenUp) => le8 2 ++ le8 1 ++ le8 outcome.code ++ leMark givenUp))
       ∧ [ClaimOutcome.granted, .objected, .marginLocal, .contended, .unheard, .lost, .abandoned,
           .refused].map ClaimOutcome.code = [1, 2, 3, 4, 5, 6, 7, 8]))

/-! ### The string record -/

/-- One counting step on the charge: the increment scaled by the efficiency when positive, the remainder
within 0 to 9999, the whole ampere-seconds rounded toward minus infinity, Q clamped to 0 to Q_full, and
what is delivered added to the throughput before that clamp. -/
def Obligations.ChargeCounting : Prop :=
  ∀ (p : StringParams) (silent : Bool) (i : Int) (dt : Nat) (r : StringRec),
    let c := r.count p silent i dt
    let x := i * dt
    let y := if 0 < x then Int.tdiv (x * p.eta) 100 else x
    let w := Int.fdiv (r.rem + y) 10000
    (c.rem : Int) = r.rem + y - w * 10000 ∧ c.rem ≤ 9999
    ∧ (c.q : Int) = max 0 (min (r.qFull : Int) (r.q + w))
    ∧ (0 ≤ w → c.tRem = r.tRem ∧ c.tDah = r.tDah)
    ∧ (w < 0 → ((c.tRem : Int) = (r.tRem + -w) % 360
        ∧ (c.tDah : Int) = min 4294967295 (r.tDah + (r.tRem + -w) / 360)))

/-- The same step on SoC, deep discharges and discharge runs, and what it leaves. -/
def Obligations.DeepDischargesAndRuns : Prop :=
  ∀ (p : StringParams) (silent : Bool) (i : Int) (dt : Nat) (r : StringRec),
    let c := r.count p silent i dt
    c.soc = c.q * 10000 / r.qFull
    ∧ c.deepCount = (if 2000 ≤ r.soc ∧ c.soc < 2000 then min 65535 (r.deepCount + 1) else r.deepCount)
    ∧ c.dischEvents = (if -(p.dischThreshold : Int) ≤ r.iRef ∧ i < -(p.dischThreshold : Int)
        then min 65535 (r.dischEvents + 1) else r.dischEvents)
    ∧ (i < -(p.dischThreshold : Int) →
        c.dischSeconds = min 4294967295 (r.dischSeconds + (r.dischMs + dt) / 1000)
        ∧ c.dischMs = (r.dischMs + dt) % 1000)
    ∧ (-(p.dischThreshold : Int) ≤ i → c.dischSeconds = r.dischSeconds ∧ c.dischMs = r.dischMs)
    ∧ c.iRef = i ∧ c.eUsable = p.n * 12 * p.cRated / 100 * r.soh / 10000 * c.soc / 10000
    ∧ c.eAvail = (if r.state = .inService ∧ r.unmeasured = false ∧ r.cls ≠ .ended ∧ silent = false
        then c.eUsable else 0)
    ∧ c = { r with
        rem := c.rem, q := c.q, tRem := c.tRem, tDah := c.tDah, soc := c.soc
        deepCount := c.deepCount, dischEvents := c.dischEvents, dischSeconds := c.dischSeconds
        dischMs := c.dischMs, iRef := c.iRef, eUsable := c.eUsable, eAvail := c.eAvail }

/-- Life used and the resistance ratio as a recompute forms them; the ratio takes the lower median of the
captures, whichever ascending order of them is taken. -/
def Obligations.LifeUsedAndRatio : Prop :=
  ∀ (p : StringParams) (silent : Bool) (r : StringRec),
    let c := r.recompute p silent
    c.u = min 20000 (r.aCal * 10000 / (p.lDesign * 368640)
        + r.tDah * 10000 / (p.nCyc * p.cRated * 10) + 20 * r.deepCount)
    ∧ (r.rRef = none ∨ r.resList = [] → c.rho = 10000)
    ∧ (∀ (ref : Nat) (sorted : List Nat), r.rRef = some ref → r.resList ≠ [] → sorted.Perm r.resList →
        sorted.Pairwise (· ≤ ·) →
        c.rho = max 10000 (min 30000 (sorted.getD ((r.resList.length - 1) / 2) 0 * 10000 / ref)))

/-- SoH, class, Q_full, Q, SoC, days left and energy as a recompute forms them from u and ρ, the range of
SoH for a `warn` in its range, and what a recompute leaves. -/
def Obligations.HealthFigures : Prop :=
  ∀ (p : StringParams) (silent : Bool) (r : StringRec),
    let c := r.recompute p silent
    let model := 10000 - max c.u (c.rho - 10000) / 5
    let capped := match r.testCap with
      | some k => min model (max k 6000)
      | none => model
    c.soh = (if r.ageUnknown then min capped (p.warn - 1) else capped)
    ∧ (7000 ≤ p.warn → 6000 ≤ c.soh ∧ c.soh ≤ 10000)
    ∧ c.cls = (if c.soh ≤ p.endSoh ∨ 10000 ≤ c.u then .ended
        else if c.soh < p.warn then .worn else .good)
    ∧ c.qFull = p.cRated * 3600 * c.soh / 10000 ∧ c.q = min r.q c.qFull
    ∧ c.soc = c.q * 10000 / c.qFull
    ∧ c.daysLeft = (if 10000 ≤ c.u then 0
        else min 65535 ((10000 - c.u) * p.lDesign * 256 / (10000 * r.fDay)))
    ∧ c.eUsable = p.n * 12 * p.cRated / 100 * c.soh / 10000 * c.soc / 10000
    ∧ c.eAvail = (if r.state = .inService ∧ r.unmeasured = false ∧ c.cls ≠ .ended ∧ silent = false
        then c.eUsable else 0)
    ∧ c = { r with
        u := c.u, rho := c.rho, soh := c.soh, cls := c.cls, qFull := c.qFull, q := c.q, soc := c.soc
        daysLeft := c.daysLeft, eUsable := c.eUsable, eAvail := c.eAvail }

/-! ### The end of an event, and the ageing of the strings -/

/-- What every event ends with from JOIN onward: the margin state is evaluated and is then that of the
view as it stands, a change raises its notice, and exactly where something R55 watches has changed (an
own flag, the state, class or flags of a string, the set of own withdrawals or the kind or marks of one,
the margin state) a STATUS with the next sequence is queued and the period restarts. It carries the own
entry and the first three own withdrawals, as R198 lays them out. Where no test is claimed or runs,
nothing else changes. An entry to DEFICIT ends a test that runs, with verdict ABORTED_DEFICIT, its DROP
and TEST_END, and gives up one that is being claimed. The choices of the model that it rests on are logs
14, 19, 20, 22 and 49. -/
def Obligations.EventEnd : Prop :=
  ∀ s0 s : State,
    let t := State.finish s0 s
    let f := s.figuresNow
    let changed := s.marginNow ≠ s.view.margin
    let notice := s.noticeOf (if s.marginNow = .deficit then .deficitEnter else .deficitLeave) 0
      ((if f.capacityOk then 0 else 1) + (if f.energyOk then 0 else 2)
        + (if f.exposureOk then 0 else 4) : Nat) f.headroom f.exposedBp
    let others := s.loop.queue.filter (fun f => f.kind != .status)
    let strings := fun (u : State) =>
      u.strings.map (fun x => (x.state, x.cls, x.ageUnknown, x.unmeasured, x.tempSuspect))
    let withdrawals := fun (u : State) => (u.claims.list.filter (fun w => w.owner == u.own)).map
      (fun w => (w.claimId, w.kind, w.scope, w.overdue, w.forced, w.unsanctioned))
    let same := s.ownFlags = s0.ownFlags ∧ strings s = strings s0 ∧ withdrawals s = withdrawals s0
      ∧ s.view.margin = s0.view.margin
    (s.startup.state ≠ .joined → t = s)
    ∧ s.ChangesOnly s.eventEnd t
    ∧ (s.startup.state = .joined → s.job.state = .idle →
        t.view.margin = s.marginNow ∧ t.view.figures = f
        ∧ (¬ changed → t.host = s.host)
        ∧ (changed → t.host = s.host.join notice)
        ∧ (¬ changed → s.statusDue = false → same →
            t.loop = s.loop ∧ t.view.seq = s.view.seq ∧ t.view.statusAt = s.view.statusAt)
        ∧ (changed ∨ s.statusDue = true ∨ ¬ same →
            t.view.seq = (s.view.seq + 1) % 256
            ∧ t.view.statusAt = some (s.now + s.cfg.statusPeriod)
            ∧ (others.length < 8 →
                (t.loop.queue.filter (fun f => f.kind != .status)) = others
                ∧ (t.loop.queue.filter (fun f => f.kind == .status)).length = 1
                ∧ t.sends .status 0 (t.statusBody t.view.seq))))
    ∧ (s.startup.state = .joined →
        t.marginOk = true
        ∧ (¬ changed → t.view.margin = s.view.margin ∧ t.view.figures = f
            ∧ s.ChangesOnly [.margin, .statusTimer, .ownQueue] t)
        ∧ (changed → s.raised [notice] t)
        ∧ (¬ changed → s.statusDue = false → same →
            t.loop = s.loop ∧ t.view.seq = s.view.seq ∧ t.view.statusAt = s.view.statusAt)
        ∧ (changed ∨ s.statusDue = true ∨ ¬ same →
            t.view.seq = (s.view.seq + 1) % 256
            ∧ t.view.statusAt = some (s.now + s.cfg.statusPeriod)
            ∧ (others.length < 7 →
                (t.loop.queue.filter (fun f => f.kind == .status)).length = 1
                ∧ t.sends .status 0 (t.statusBody t.view.seq)))
        ∧ (s.view.margin = .normal → s.marginNow = .deficit →
            let k := s.job.k
            (∀ x l, s.job.state = .running → s.strings[k]? = some x → x.lastTest = some l →
                t.job = TestJob.blank ∧ t.outs.dischReq = false
                ∧ (∃ y, t.strings[k]? = some y ∧ y.state = .inService ∧ y.lastTest
                    = some { l with verdict := some .abortedDeficit, endMs := some s.now })
                ∧ (∀ w, s.ownOfClass WKind.isTest = some w →
                    (∀ y ∈ t.claims.list, y.owner = s.own → y.claimId = w.claimId → y.kind ≠ .test)
                    ∧ (others.length < 7 → t.sends .drop w.claimId (le8 w.claimId ++ le8 2)))
                ∧ s.raised [notice, s.noticeOf .testEnd k 5 x.soc
                    (min 65535 (l.delivered / 360) : Nat)] t)
            ∧ (∀ q id tag d, s.job.state = .claiming → s.job.givenUp = none →
                s.claims.slot = .inFlight q id tag d → q.requester = .ageing → q.givenUp = false →
                t.job = { s.job with givenUp := some .deficit }
                ∧ t.claims.slot = .inFlight { q with givenUp := true } id tag d)
            ∧ (∀ q d, s.job.state = .claiming → s.job.givenUp = none →
                s.claims.slot = .retryWait q d → q.requester = .ageing →
                t.job = TestJob.blank ∧ t.claims.slot = .free
                ∧ s.raised [notice, s.noticeOf .testDenied k 7 0 15] t)))
    ∧ (s.startup.state = .joined → s.ownCore = (s.entry s.own).core ∧ s.ownFlags = s.ownCore.flags)
    ∧ (let mark := fun (b : Bool) (v : Nat) => if b then v else 0
      (∀ c : StatusCore, c.bytes = le16 c.period
        ++ le16 (mark c.flags.hostStale 1 + mark c.flags.unsupervised 2 + mark c.flags.deficit 4
          + mark c.flags.onBypass 8 + mark c.flags.maint 16 + mark c.flags.visitOpen 32
          + mark c.flags.visitOverdue 64 + mark c.flags.visitLong 128 + mark c.flags.ageUnknown 256)
        ++ le16 c.pAvail ++ le16 c.load
        ++ (c.strings.map (fun r =>
          le8 ((match r.state with
              | .inService => 0
              | .test => 1
              | .isolated => 2
              | .none => 3) + (match r.cls with
              | .good => 0
              | .worn => 4
              | .ended => 8))
          ++ le8 (mark r.ageUnknown 1 + mark r.unmeasured 2 + mark r.tempSuspect 4)
          ++ le16 r.eAvail)).flatten
        ++ le8 c.reserve ++ le8 c.autonomy ++ le8 c.exposure)
      ∧ (∀ n,
        let kind := fun (k : WKind) => match k with
          | .bypass => 1
          | .maint => 2
          | .test => 3
          | .service => 4
        let scope := fun (x : Scope) => match x with
          | .cabinet => 1
          | .string k => 4 + k
        let own := (s.claims.list.filter (fun w => w.owner == s.own)).take 3
        s.statusBody n = le8 n ++ s.ownCore.bytes
          ++ le8 (match s.claims.slot with
            | .inFlight _ id _ _ => id
            | _ => 0)
          ++ le8 (match s.visit.current with
            | some v => scope v.scope
            | none => 0)
          ++ le8 (match s.visit.current with
            | some v => (match v.overdue with
              | .none => 0
              | .overdue => 1
              | .long => 2)
            | none => 0)
          ++ le8 own.length
          ++ (own.map (fun w => le8 w.claimId ++ le8 (16 * kind w.kind + scope w.scope)
            ++ le8 (mark w.overdue 1 + mark w.forced 2 + mark w.unsanctioned 4))).flatten))

/-- One ageing tick: the tick temperature, the band factor added to both sums, on the 1440th tick of the
day the mean of the day, the recompute of every string with its notices, and the next tick a minute on.
Its event ends as every event does. DAY_BOUNDARY is that 1440th tick. The choices of the model that it
rests on are log 9 and, for the order of several STRING_CLASS notices of one tick, log 20. -/
def Obligations.AgeingTick : Prop :=
  ∀ s : State, s.running = true → s.startup.state = .joined →
    (∃ d, s.ticks.nextAt = some d ∧ d ≤ s.now) →
    let band := fun (t : Int) =>
      if t < 200 then 192 else if t < 250 then 256 else if t < 300 then 362 else if t < 350 then 512
      else if t < 400 then 724 else if t < 450 then 1024 else if t < 500 then 1448 else 2048
    let new := s.strings.mapIdx (fun k r =>
      let f := band (if r.tN = 0 then r.tLast else Int.fdiv r.tSum r.tN)
      let a := { r with aCal := min 4294967295 (r.aCal + f), tSum := 0, tN := 0 }
      (if s.ticks.count = 1439 then { a with daySum := 0, fDay := (r.daySum + f) / 1440 }
        else { a with daySum := r.daySum + f }).recompute (s.params k) s.hostSilent)
    (exec .ageingTick s = .next (s.ends { s with
        statusDue := false
        strings := new
        ticks := ⟨if s.ticks.count = 1439 then 0 else s.ticks.count + 1,
          s.ticks.nextAt.map (fun d => d + 60000)⟩
        host := s.host.joinAll (s.classNotices new) }))
    ∧ (s.ticks.count = 1439 → exec .dayBoundary s = exec .ageingTick s)

/-- A string's calendar, throughput and deep-discharge counts never decrease, whatever is commanded, but for
a reset, the one load in the start window, and a replacement, which clears them only while the string is
ISOLATED and an OPEN visit has it as its scope. -/
def Obligations.AccumulatorsNeverDecrease : Prop :=
  ∀ (i : Instr) (s t : State) (k : Nat) (x : StringRec),
    i ∉ [Instr.powerOn, .powerOff, .resetNFall, .resetNRise, .resetTakesEffect] →
    s.configOk = true → exec i s = .next t → s.strings[k]? = some x →
    x.aCal ≤ 4294967295 → x.tDah ≤ 4294967295 → x.deepCount ≤ 65535 →
    ∃ y, t.strings[k]? = some y
      ∧ y.aCal ≤ 4294967295 ∧ y.tDah ≤ 4294967295 ∧ y.deepCount ≤ 65535
      ∧ ((x.aCal ≤ y.aCal ∧ x.tDah ≤ y.tDah ∧ x.deepCount ≤ y.deepCount)
        ∨ (i = .loadAgeing ∧ s.startup.state = .startWindow ∧ x.loaded = false ∧ y.loaded = true)
        ∨ (i = .replace ∧ s.startup.state = .joined ∧ x.state = .isolated
            ∧ (∃ v, s.visit.current = some v ∧ v.admitting = false ∧ v.scope = .string k)
            ∧ y.aCal = 0 ∧ y.tDah = 0 ∧ y.deepCount = 0))

/-! ### Test discharges -/

/-- The end of a running test: DISCH_REQ released, the string back IN_SERVICE with the verdict and
the end time, the TEST withdrawal removed and its DROP queued, the job IDLE, the verdict's own
effects on the record, and TEST_END after any STRING_CLASS. The limit timer ends a running test
INCONCLUSIVE. ABORT_TEST ends a running one ABORTED_HOST, gives up one being claimed, and is
answered BAD_STATE where there is none or it is already given up. The choices of the model that it
rests on are logs 14, 15 and 20. -/
def Obligations.TestEnds : Prop :=
  (∀ (v : Verdict) (s : State) (x : StringRec) (l : LastTest) (w : Withdrawal),
     s.startup.state = .joined → s.strings[s.job.k]? = some x → x.lastTest = some l →
     s.ownOfClass WKind.isTest = some w →
     let k := s.job.k
     let p := s.params k
     let l1 : LastTest := { l with verdict := some v, endMs := some s.now }
     let x1 : StringRec := { x with state := .inService, lastTest := some l1 }
     let kappa := min 10000 (l.delivered * 10000 / l.socStart * 10000 / (p.cRated * 3600))
     let y : StringRec :=
       if v = .failVoltage then
         { StringRec.recompute p s.hostSilent { x1 with
             testCap := some kappa, lastTest := some { l1 with kappa := some kappa } } with
           q := 0, rem := 0, soc := 0, eUsable := 0, eAvail := 0 }
       else if v = .pass ∧ x.testCap ≠ none then
         StringRec.recompute p s.hostSilent { x1 with testCap := none }
       else { x1 with eAvail := availOf s.hostSilent x1 }
     let t := s.endTest v
     t.strings = s.strings.set k y ∧ t.job = TestJob.blank ∧ t.outs.dischReq = false
     ∧ t.claims.list = s.claims.list.filter
         (fun e => !(e.owner == s.own && e.claimId == w.claimId && e.kind == .test))
     ∧ (s.loop.queue.length < 8 → t.sends .drop w.claimId (le8 w.claimId ++ le8 2))
     ∧ t.host = s.host.joinAll (s.classNotices t.strings
         ++ [s.noticeOf .testEnd k v.code y.soc (min 65535 (l.delivered / 360) : Nat)])
     ∧ s.ChangesOnly [.dischReq, .strings, .withdrawals, .ownQueue, .job, .notices] t)
  ∧ (∀ s : State, s.running = true →
       (s.job.state = .running → (∃ d, s.job.limitAt = some d ∧ d ≤ s.now) →
         exec .testLimitExpiry s = .next (s.ends ((s.withStatusDue false).endTest .inconclusive)))
       ∧ (∀ r, s.takes .abortTest r → s.startup.state = .joined →
           (s.marginOk = true → (s.job.state = .idle
               ∨ (s.job.state = .claiming ∧ s.job.givenUp ≠ none)) →
             exec .abortTest s = .next (s.repliedOnly r .badState (le8 0)))
           ∧ (s.job.state = .running →
               let u := (s.withStatusDue false).endTest .abortedHost
               exec .abortTest s = .next (s.ends
                 (u.withHost { u.host with slot := replyTo r .ok [] })))
           ∧ (∀ q id tag d, s.marginOk = true → s.job.state = .claiming → s.job.givenUp = none →
               s.claims.slot = .inFlight q id tag d → q.requester = .ageing → q.givenUp = false →
               exec .abortTest s = .next { s with
                 statusDue := false
                 job := { s.job with givenUp := some .host }
                 claims := { s.claims with slot := .inFlight { q with givenUp := true } id tag d }
                 host := { s.host with slot := replyTo r .ok [] } })
           ∧ (∀ q d, s.marginOk = true → s.job.state = .claiming → s.job.givenUp = none →
               s.claims.slot = .retryWait q d → q.requester = .ageing →
               exec .abortTest s = .next { s with
                 statusDue := false
                 job := TestJob.blank
                 claims := { s.claims with slot := .free }
                 host := { s.host.join (s.noticeOf .testDenied s.job.k ClaimOutcome.abandoned.code 0 14)
                   with slot := replyTo r .ok [] } })))

/-- REQ_TEST, examined in the order of R37: the first condition that fails gives the reply and
nothing else changes. A request that passes is claimed: a CLAIM for a TEST withdrawal of the string
is queued, the slot holds it, the job is CLAIMING, and the reply carries the claim id. The choices
of the model that it rests on are logs 14 and 15 and, for the class of an END string with `test_cap` absent,
log 41. -/
def Obligations.ReqTest : Prop :=
  ∀ (r : List Byte) (s : State), s.takes .reqTest r → s.startup.state = .joined → s.marginOk = true →
    let k := arg8 r 0
    let target := arg16 r 1
    let limit := arg16 r 3
    let replies := fun (c : ReplyCode) (b : Nat) =>
      exec .reqTest s = .next (s.repliedOnly r c (le8 b))
    if s.strings.length ≤ k then replies .badArg 1
    else if target < 3000 ∨ 9000 < target then replies .badArg 2
    else if limit < 10 ∨ 600 < limit then replies .badArg 3
    else if s.dog.stage = .hostStale ∨ s.dog.stage = .unsupervised then
      replies .stale s.dog.stage.code
    else ∀ x, s.strings[k]? = some x →
      if s.seq.state ≠ .online then replies .badState 1
      else if s.job.state ≠ .idle then replies .badState 2
      else if x.state ≠ .inService then replies .badState 3
      else if x.cls = .ended
          ∧ ({ x with testCap := none }.recompute (s.params k) false).cls = .ended then
        replies .badState 4
      else if x.unmeasured = true then replies .badState 5
      else if x.soc < 9000 then replies .badState 6
      else if s.visitScope = some (.string k) then replies .badState 7
      else if s.claims.slot ≠ .free then exec .reqTest s = .next (s.repliedOnly r .busy [])
      else match s.localCheck ⟨s.own, .test, .string k⟩ with
        | some reason => replies .refused reason.code
        | none => ∃ t, exec .reqTest s = .next t
            ∧ t.job = ⟨.claiming, k, target, limit, none, none⟩
            ∧ t.claims.lastId = s.newClaimId
            ∧ t.claims.slot = .inFlight
                ⟨.ageing, .test, .string k, limit, 0, false, s.newClaimId⟩ s.newClaimId
                t.loop.tagCounter (s.now + s.cfg.claimTimeout)
            ∧ t.host.slot = replyTo r .accepted (le8 s.newClaimId)
            ∧ (s.loop.queue.length < 8 → t.sends .claim s.newClaimId
                (le8 s.newClaimId ++ le8 (48 + 4 + k) ++ le16 limit ++ s.ownCore.bytes
                  ++ le16 0 ++ le8 0 ++ le8 0))
            ∧ s.ChangesOnly [.job, .claimIds, .slot, .command, .ownQueue] t

/-- The claim unit takes a request: BUSY outside FREE; the first failing condition of the local check
refuses it with nothing changed; otherwise a CLAIM with a new id goes into the own queue and the slot is
IN_FLIGHT. -/
def Obligations.LocalCheckAndClaim : Prop :=
  ∀ (who : Requester) (k : WKind) (c : Scope) (planned : Nat) (s : State),
    let a := s.requestClaim who k c planned
    let v := s.totals [⟨s.own, k, c⟩]
    let id := s.newClaimId
    (s.claims.slot ≠ .free → a = (.busy, s))
    ∧ (s.claims.slot = .free →
        if s.view.duplicate = true then a = (.refused .duplicate, s)
        else if s.claims.incomplete = true then a = (.refused .viewFull, s)
        else if s.view.margin = .deficit then a = (.refused .deficit, s)
        else if s.loop.a.up = false ∧ s.loop.b.up = false then a = (.refused .isolated, s)
        else if (s.peersIn .present).length + 1 < s.cfg.quorum then a = (.refused .quorum, s)
        else if v.c * 100 < v.l * (100 + s.cfg.reservePct) then a = (.refused .capacity, s)
        else if v.e * 60 < v.l * s.cfg.autonomyMin then a = (.refused .energy, s)
        else if v.d * s.cfg.exposurePct < v.x * 100 then a = (.refused .exposure, s)
        else a.1 = .sent id ∧ a.2.claims.lastId = id
          ∧ a.2.claims.slot = .inFlight ⟨who, k, c, planned, 0, false, id⟩ id a.2.loop.tagCounter
              (s.now + s.cfg.claimTimeout)
          ∧ (s.loop.queue.length < 8 → a.2.sends .claim id
              (le8 id ++ le8 (kindScopeCode k c) ++ le16 planned ++ s.ownCore.bytes
                ++ le16 0 ++ le8 0 ++ le8 0))
          ∧ s.ChangesOnly [.claimIds, .slot, .ownQueue] a.2)
    ∧ (s.ownWithdrawals.length ≤ 3 → s.claims.lastId ≤ 255 →
        1 ≤ id ∧ id ≤ 255 ∧ (∀ w ∈ s.ownWithdrawals, w.claimId ≠ id)
        ∧ ((∀ w ∈ s.ownWithdrawals, w.claimId ≠ s.claims.lastId % 255 + 1) →
            id = s.claims.lastId % 255 + 1))

/-! ### The measurement intake and the watchdog -/

/-- A measured sample becomes the held sample with its temperature clamped, ends the hold and sets TEMP_SUSPECT
where the clamp acted; an invalid one counts the hold, hands on the held values up to ten times, and at eleven
makes the string UNMEASURED with nothing handed on. A resistance capture is attempted only between two valid
samples of a string that is not ISOLATED, with a step of the threshold; accepted only where the differences
have one sign and the resistance lies in its window; kept with the five most recent, the reference set from
the first five; rejected ones counted. -/
def Obligations.SamplesAndCaptures : Prop :=
  (∀ (x : Sample) (h : Hold) (r : StringRec), h.count ≤ 11 →
     let h1 := h.after x
     let temperature := max (-400) (min 850 x.temperature)
     (x.valid = true →
       h1 = ⟨x.voltage, x.current, temperature, 0⟩
       ∧ handedOf h1 x = ⟨true, x.voltage, x.current, temperature⟩
       ∧ r.takeFlags h1 x = { r with
           unmeasured := false
           tempSuspect := decide (x.temperature < -400 ∨ 850 < x.temperature) })
     ∧ (x.valid = false → h.count ≤ 9 →
         h1 = { h with count := h.count + 1 }
         ∧ handedOf h1 x = ⟨false, h.voltage, h.current, h.temperature⟩ ∧ r.takeFlags h1 x = r)
     ∧ (x.valid = false → 10 ≤ h.count →
         h1 = { h with count := 11 } ∧ handedOf h1 x = ⟨false, 0, 0, 0⟩
         ∧ r.takeFlags h1 x = { r with unmeasured := true }))
  ∧ (∀ (p : StringParams) (silent : Bool) (b : Baseline) (h : Handed) (r : StringRec),
       r.baseline = some b → r.resList.length ≤ 5 →
       let dv := (b.voltage : Int) - h.voltage
       let di := b.current - h.current
       let ohms := Int.tdiv (dv * 100000) di
       let accepted := ((0 < dv ∧ 0 < di) ∨ (dv < 0 ∧ di < 0)) ∧ 100 ≤ ohms ∧ ohms ≤ 100000
       let kept := (if r.resList.length = 5 then r.resList.tail else r.resList) ++ [ohms.toNat]
       let c := r.captured p silent h
       (h.valid = false ∨ b.valid = false ∨ r.state = .isolated ∨ b.state = .isolated
           ∨ di.natAbs < p.stepThreshold → c = r)
       ∧ (h.valid = true → b.valid = true → r.state ≠ .isolated → b.state ≠ .isolated →
           p.stepThreshold ≤ di.natAbs →
           (¬ accepted → c = { r with captureRejects := min 65535 (r.captureRejects + 1) })
           ∧ (accepted → c = { r with
               resList := kept
               rRef := if r.rRef = none ∧ kept.length = 5 then some (lowerMedian kept)
                 else r.rRef }.recompute p silent)))

/-- A frame taken in from JOIN onward: the time base and the cabinet figures are kept with `p_avail`
lowered to P_rated, every string that is not under test goes through flags, counting, capture and
baseline in the order of R35, the watchdog is fed, the margin state is evaluated, BYP_OK is re-formed and
readiness is tested on it, and a take-in that ends HOST_STALE or UNSUPERVISED raises HOST_BACK. Outside
SYNC_WAIT the sequencer changes in BYP_OK alone. The choices of the model that it rests on are logs 17,
20 and 37. -/
def Obligations.FrameTakenIn : Prop :=
  ∀ (i : Nat) (s : State), s.running = true → s.startup.state = .joined → s.image ≠ none →
    s.bufferIn .ready = some i → s.bufferIn .inUse = none →
    let f := measOf ((s.intake.buffers.getD i ⟨.free, []⟩).bytes)
    s.intake.lastCounter ≠ some f.counter →
    let silent := s.dog.stage = .hostStale ∨ s.dog.stage = .unsupervised
    let base := s.intake.baselineNext || s.hostSilent
    let dt := max 1 (min s.cfg.hostTimeout (s.now - s.intake.lastTakeMs.getD s.now))
    let holds := fun (k : Nat) =>
      (s.intake.holds.getD k Hold.blank).after (f.samples.getD k ⟨false, 0, 0, 0⟩)
    let bypOk := s.phase.byp.freq.isSome
      && decide ((max f.vBypass s.cfg.bypNominal - min f.vBypass s.cfg.bypNominal) * 100
        ≤ s.cfg.bypNominal * s.cfg.band)
    let changed := [Piece.freeCount, .intake, .strings, .watchdog, .unsupervisedLine, .sequencer]
      ++ s.eventEnd
    ∃ t u, exec .measTakeIn s = .next t
      ∧ u.marginOk = true ∧ u.seq = { s.seq with bypOk := bypOk } ∧ s.ChangesOnly changed u
      ∧ (¬ silent → t = s.ends u.testReady)
      ∧ (silent → ∃ since : Half,
          (∀ m, s.intake.lastTakeMs = some m → since = half (min 65535 (s.now - m) : Nat))
          ∧ let v := u.testReady.evalMargin
            t = s.ends (v.withHost (v.host.join ⟨.hostBack, half 0, half s.dog.stage.code,
              half f.counter, since, BitVec.ofNat 32 s.now⟩)))
      ∧ t.intake = { s.intake with
          buffers := s.intake.buffers.modify i (fun b => { b with role := .inUse })
          lastCounter := some f.counter, lastTakeMs := some s.now, inUseSince := some s.us
          pAvail := min s.cfg.pRated f.pAvail, load := f.load, vBypass := f.vBypass
          holds := s.intake.holds.mapIdx (fun k h => if k < s.strings.length then holds k else h)
          baselineNext := false }
      ∧ t.dog = ⟨.watching, some (s.now + s.cfg.hostTimeout)⟩ ∧ t.outs.unsupervised = false
      ∧ t.strings.length = s.strings.length
      ∧ (∀ k x, s.strings[k]? = some x → ¬ (s.job.state = .running ∧ s.job.k = k) →
          t.strings[k]? = some (x.takenIn (s.params k) base dt (holds k)
            (f.samples.getD k ⟨false, 0, 0, 0⟩)))
      ∧ (s.seq.state ≠ .syncWait → t.seq = { s.seq with bypOk := bypOk })
      ∧ (s.job.state = .idle → ¬ silent → s.raised (s.classNotices t.strings) t)
      ∧ (silent → ∀ m, s.intake.lastTakeMs = some m → s.host.notices.length ≤ 16 →
          s.noticeOf .hostBack 0 s.dog.stage.code f.counter (min 65535 (s.now - m) : Nat)
            ∈ t.host.notices)
      ∧ s.ChangesOnly (changed ++ (if s.seq.state = .syncWait
          then [.requests, .lamp, .claimIds, .slot] else [])) t

/-- The string under test at a take-in: what the counting took out is added to `delivered`, where a
baseline take-in counts nothing and attempts no capture, and then the test ends FAIL_VOLTAGE at or below the end voltage of a measured string, else PASS at or below
the target; otherwise it goes on unless the margin state ends it. The choices of the model that it
rests on are log 21. -/
def Obligations.TestAtTakeIn : Prop :=
  ∀ (i : Nat) (s : State) (x : StringRec) (l : LastTest), s.running = true →
    s.startup.state = .joined → s.bufferIn .ready = some i → s.bufferIn .inUse = none →
    s.job.state = .running → s.strings[s.job.k]? = some x → x.lastTest = some l → s.hostSilent = false →
    s.seq.state ≠ .syncWait →
    let f := measOf ((s.intake.buffers.getD i ⟨.free, []⟩).bytes)
    s.intake.lastCounter ≠ some f.counter → s.job.k < 4 → s.intake.holds.length = 4 →
    let k := s.job.k
    let p := s.params k
    let sample := f.samples.getD k ⟨false, 0, 0, 0⟩
    let h := (s.intake.holds.getD k Hold.blank).after sample
    let g := handedOf h sample
    let x1 := x.takeFlags h sample
    let dt := max 1 (min s.cfg.hostTimeout (s.now - s.intake.lastTakeMs.getD s.now))
    let base := s.intake.baselineNext
    let c := if base then
        { x1 with
          iRef := g.current, eAvail := availOf false x1
          tLast := if x1.unmeasured then x1.tLast else g.temperature
          tSum := if x1.unmeasured then x1.tSum else x1.tSum + g.temperature
          tN := if x1.unmeasured then x1.tN else x1.tN + 1 }
      else ((x1.count p false g.current dt).takeTemp true g.temperature).captured p false g
    let out := if base then 0
      else (-(Int.fdiv (x.rem + chargeIncrement p.eta g.current dt) 10000)).toNat
    ∃ t, exec .measTakeIn s = .next t
      ∧ ∃ y l', t.strings[k]? = some y ∧ y.lastTest = some l'
        ∧ l'.delivered = min 4294967295 (l.delivered + out) ∧ l'.startMs = l.startMs
        ∧ l'.socStart = l.socStart ∧ l'.target = l.target ∧ l'.limitMin = l.limitMin
        ∧ (if x1.unmeasured = false ∧ g.voltage ≤ p.n * p.endVoltage then
            l'.verdict = some .failVoltage ∧ t.job.state = .idle ∧ y.state = .inService
          else if c.soc ≤ s.job.target then
            l'.verdict = some .pass ∧ t.job.state = .idle ∧ y.state = .inService
          else (l'.verdict = l.verdict ∧ t.job = s.job ∧ y.state = x.state)
            ∨ (l'.verdict = some .abortedDeficit ∧ t.job.state = .idle ∧ y.state = .inService))

/-- The other ends of a READY buffer: before START_WINDOW and with a repeated counter it returns to FREE;
in START_WINDOW the frame refreshes T_last and the flags, the figures and BYP_OK, and counts nothing. The
end of a take-in frees the buffer in use. -/
def Obligations.TakeInOutcomes : Prop :=
  ∀ s : State, s.running = true →
    (∀ i, s.bufferIn .ready = some i → s.bufferIn .inUse = none →
      let freed := s.intake.buffers.modify i (fun b => { b with role := .free })
      let f := measOf ((s.intake.buffers.getD i ⟨.free, []⟩).bytes)
      let h := fun (k : Nat) =>
        (s.intake.holds.getD k Hold.blank).after (f.samples.getD k ⟨false, 0, 0, 0⟩)
      let bypOk := s.phase.byp.freq.isSome
        && decide ((max f.vBypass s.cfg.bypNominal - min f.vBypass s.cfg.bypNominal) * 100
          ≤ s.cfg.bypNominal * s.cfg.band)
      (s.startup.state = .loading ∨ s.startup.state = .configFault →
        exec .measTakeIn s = .next { s with
          statusDue := false, intake := { s.intake with buffers := freed } })
      ∧ (s.startup.state = .startWindow ∨ s.startup.state = .joined → s.marginOk = true →
          s.intake.lastCounter = some f.counter → exec .measTakeIn s = .next { s with
            statusDue := false
            intake := { s.intake with
              buffers := freed, repeated := min 65535 (s.intake.repeated + 1) } })
      ∧ (s.startup.state = .startWindow → s.seq.state = .online → s.dog.stage = .off →
          s.intake.baselineNext = false → s.intake.lastCounter ≠ some f.counter →
          s.image ≠ none → exec .measTakeIn s = .next { s with
            statusDue := false
            strings := s.strings.mapIdx (fun k r =>
              let g := handedOf (h k) (f.samples.getD k ⟨false, 0, 0, 0⟩)
              let r1 := r.takeFlags (h k) (f.samples.getD k ⟨false, 0, 0, 0⟩)
              let r2 := { r1 with tLast := if r1.unmeasured then r1.tLast else g.temperature }
              { r2 with eAvail := availOf false r2 })
            seq := { s.seq with bypOk := bypOk }
            intake := { s.intake with
              buffers := s.intake.buffers.modify i (fun b => { b with role := .inUse })
              lastCounter := some f.counter, lastTakeMs := some s.now, inUseSince := some s.us
              pAvail := min s.cfg.pRated f.pAvail, load := f.load, vBypass := f.vBypass
              holds := s.intake.holds.mapIdx
                (fun k x => if k < s.strings.length then h k else x) } }))
    ∧ (∀ i, s.bufferIn .inUse = some i → s.marginOk = true →
        exec .takeInEnd s = .next { s with
          statusDue := false
          intake := { s.intake with
            buffers := s.intake.buffers.modify i (fun b => { b with role := .free })
            inUseSince := none } })

/-- The two expiries of the watchdog with no take-in between: HOST_STALE takes the station's energy
off the floor, makes the next take-in a baseline and ends or gives up a test; UNSUPERVISED asserts
its line. Each raises its notice with the counter of the last frame taken in and the time since it; before
any take-in the two are free values, and everything else is the same. The choices of the model that it
rests on are logs 14, 17 and 20. -/
def Obligations.WatchdogStages : Prop :=
  ∀ s : State, s.running = true → s.startup.state = .joined →
    (∃ d, s.dog.expiresAt = some d ∧ d ≤ s.now) →
    let reports := fun (k : NoticeKind) (stage : DogStage) (t : State) => ∃ counter since : Half,
      (∀ c, s.intake.lastCounter = some c → counter = half c)
      ∧ (∀ m, s.intake.lastTakeMs = some m → since = half (min 65535 (s.now - m) : Nat))
      ∧ (s.host.notices.length ≤ 16 →
          ⟨k, half 0, half stage.code, counter, since, BitVec.ofNat 32 s.now⟩ ∈ t.host.notices)
      ∧ t.freeCount = s.freeCount + (if s.intake.lastCounter = none then 1 else 0)
        + (if s.intake.lastTakeMs = none then 1 else 0)
    (s.dog.stage = .watching → ∃ t, exec .hostStale s = .next t
      ∧ t.dog = ⟨.hostStale, some (s.now + s.cfg.hostTimeout)⟩
      ∧ t.intake = { s.intake with baselineNext := true }
      ∧ (∀ x ∈ t.strings, x.eAvail = 0)
      ∧ (s.job.state = .idle → t.strings = s.strings.map (fun x => { x with eAvail := 0 }))
      ∧ (∀ x l, s.job.state = .running → s.strings[s.job.k]? = some x → x.lastTest = some l →
          t.job.state = .idle ∧ ∃ y l', t.strings[s.job.k]? = some y ∧ y.lastTest = some l'
            ∧ l'.verdict = some .abortedStale ∧ y.state = .inService)
      ∧ (s.job.state = .claiming → s.job.givenUp = none →
          t.job.state = .idle ∨ (t.job.state = .claiming ∧ t.job.givenUp = some .stale))
      ∧ reports .hostStale .hostStale t
      ∧ s.ChangesOnly ([.freeCount, .strings, .intake, .watchdog] ++ s.eventEnd) t)
    ∧ (s.dog.stage = .hostStale → ∃ t, exec .unsupervised s = .next t
      ∧ t.dog = ⟨.unsupervised, none⟩ ∧ t.outs.unsupervised = true
      ∧ reports .unsupervised .unsupervised t
      ∧ s.ChangesOnly ([.freeCount, .unsupervisedLine, .watchdog] ++ s.eventEnd) t)

/-! ### Host port transactions -/

/-- A transaction begins: one still open ended early, a read captures its record, and a MEAS_WRITE
takes a FREE buffer. A transaction that ends early writes nothing and removes nothing, and a read that
does shifted out the record it captured; a first byte that names no kind is counted as a bad transaction,
and every byte shifted out in it reads FFh. The status word that a STATUS_READ captures holds the start-up
state, the state of the slot, a bit for each of the nine conditions in their order, the first of them that
holds, the number of notices and the overflow count, in seven bytes. The choices of the model that it
rests on are logs 7 and 8. -/
def Obligations.TransactionsOpenAndEnd : Prop :=
  ∀ s : State, s.running = true → s.marginOk = true →
    let early : State := { s with
      statusDue := false
      host := { s.host with
        txn := none
        bad := if s.host.txn = some .cmdWrite then min 65535 (s.host.bad + 1) else s.host.bad
        shifted := match s.host.txn with
          | some (.replyRead (some r)) => r.bytes
          | some (.replyRead none) => [0, 0, 0, 0]
          | some (.noticeRead (some n)) => n.bytes
          | some (.noticeRead none) => List.replicate 14 0
          | some (.statusRead w) => w.bytes
          | _ => s.host.shifted }
      intake := match s.host.txn with
        | some (.measWrite b) => { s.intake with
            short := min 65535 (s.intake.short + 1)
            buffers := match b with
              | some i => s.intake.buffers.modify i (fun c => { c with role := .free })
              | none => s.intake.buffers }
        | _ => s.intake }
    (s.host.txn ≠ none → exec .transactionEndsEarly s = .next early)
    ∧ (exec (.transactionBegins .cmdWrite) s
        = .next (early.withHost { early.host with txn := some .cmdWrite }))
    ∧ (exec (.transactionBegins .replyRead) s = .next (early.withHost { early.host with
        txn := some (.replyRead (match s.host.slot with
          | .replied r => some r
          | _ => none)) }))
    ∧ (exec (.transactionBegins .noticeRead) s = .next (early.withHost { early.host with
        txn := some (.noticeRead s.host.notices.head?) }))
    ∧ (exec (.transactionBegins .statusRead) s = .next (early.withHost { early.host with
        txn := some (.statusRead early.statusWord) }))
    ∧ (exec (.transactionBegins .measWrite) s = .next
        ((early.withHost { early.host with txn := some (.measWrite (early.bufferIn .free)) }).withIntake
          { early.intake with buffers := match early.bufferIn .free with
              | some i => early.intake.buffers.modify i (fun c => { c with role := .writing })
              | none => early.intake.buffers }))
    ∧ (∀ b, namesTxnKind b = false → exec (.badTransaction b) s = .next (early.withHost
        { early.host with bad := min 65535 (early.host.bad + 1), shifted := [] }))
    ∧ (∀ b t i, namesTxnKind b = false → exec (.badTransaction b) s = .next t →
        t.host.dataOut i = 0xFF#8)
    ∧ (let w := early.statusWord
      let silent := s.dog.stage = .hostStale ∨ s.dog.stage = .unsupervised
      let holds := fun (n : Nat) =>
        (n = 1 ∧ s.startup.state = .configFault) ∨ (n = 2 ∧ s.view.duplicate = true)
        ∨ (n = 3 ∧ s.dog.stage = .unsupervised)
        ∨ (n = 4 ∧ s.loop.a.up = false ∧ s.loop.b.up = false)
        ∨ (n = 5 ∧ s.view.margin = .deficit) ∨ (n = 6 ∧ silent)
        ∨ (n = 7 ∧ s.loop.a.up ≠ s.loop.b.up)
        ∨ (n = 8 ∧ ∃ v, s.visit.current = some v ∧ v.overdue = .long)
        ∨ (n = 9 ∧ ∃ x ∈ s.strings, x.cls = .ended)
      w.start = (match s.startup.state with
        | .loading => 1#8
        | .configFault => 2#8
        | .startWindow => 3#8
        | .joined => 4#8)
      ∧ w.slot = (match s.host.slot with
        | .empty => 1#8
        | .pending _ _ => 2#8
        | .replied _ => 3#8)
      ∧ (∀ n, w.conditions.getLsbD n = true ↔ holds (n + 1))
      ∧ (∀ n, holds n → (∀ m, m < n → ¬ holds m) → w.top = BitVec.ofNat 8 n)
      ∧ ((∀ n, ¬ holds n) → w.top = 0#8)
      ∧ w.count = BitVec.ofNat 8 s.host.notices.length ∧ w.overflow = s.host.overflow
      ∧ w.bytes = [w.start, w.slot, BitVec.ofNat 8 w.conditions.toNat,
        BitVec.ofNat 8 (w.conditions.toNat / 256), w.top, w.count, BitVec.ofNat 8 w.overflow])

/-- A whole measurement frame becomes READY and supersedes one that was READY; a whole command
record enters an EMPTY slot and is counted as rejected otherwise; a write that stops short ends
early. A completed read removes what it captured: the reply empties the slot, and lets a pending
reset take effect; the notice leaves the head of the queue and NOTICE_IRQ follows; the status word
lowers the overflow count by the value it reported. An empty capture removes nothing. Bytes clocked
beyond the record read FFh. The choices of the model that it rests on are logs 7, 8, 32, 46 and 51. -/
def Obligations.TransactionsComplete : Prop :=
  (∀ (b : List Byte) (s : State), s.running = true → s.marginOk = true →
     (∀ i, s.host.txn = some (.measWrite (some i)) → 40 ≤ b.length → exec (.measWrite b) s = .next
         { s with
           statusDue := false
           host := { s.host with txn := none }
           intake := { s.intake with
             skipped := if (∃ c ∈ s.intake.buffers, c.role = .ready)
               then min 65535 (s.intake.skipped + 1) else s.intake.skipped
             buffers := (s.intake.buffers.map (fun c =>
               if c.role = .ready then { c with role := .free } else c)).set i
                 ⟨.ready, b.take 40⟩ } })
     ∧ (∀ x, s.host.txn = some (.measWrite x) → b.length < 40 →
         exec (.measWrite b) s = exec .transactionEndsEarly s)
     ∧ (s.host.txn = some .cmdWrite → 28 ≤ b.length → s.host.slot = .empty →
         exec (.cmdWrite b) s = .next ((s.withHost { s.host with
           txn := none, slot := .pending (b.take 28) s.us }).withStatusDue false))
     ∧ (s.host.txn = some .cmdWrite → 28 ≤ b.length → s.host.slot ≠ .empty →
         exec (.cmdWrite b) s = .next ((s.withHost { s.host with
           txn := none, rejected := min 65535 (s.host.rejected + 1) }).withStatusDue false))
     ∧ (s.host.txn = some .cmdWrite → b.length < 28 →
         exec (.cmdWrite b) s = exec .transactionEndsEarly s)
     ∧ (s.host.txn = none → exec (.cmdWrite b) s
         = exec (.cmdWrite b) ((s.withHost { s.host with txn := some .cmdWrite }).withStatusDue false)))
  ∧ (∀ s : State, s.running = true → s.marginOk = true →
       let ends := fun (h : HostPort) => ((s.withHost h).withStatusDue false)
       (∀ r, s.host.txn = some (.replyRead (some r)) → exec .replyRead s = .next (ends { s.host with
           txn := none, shifted := r.bytes, slot := .empty, resetNow := s.host.resetAt.isSome }))
       ∧ (s.host.txn = some (.replyRead none) → exec .replyRead s = .next (ends { s.host with
           txn := none, shifted := [0, 0, 0, 0] }))
       ∧ (∀ n, s.host.txn = some (.noticeRead (some n)) → exec .noticeRead s = .next (ends { s.host with
           txn := none, shifted := n.bytes, notices := s.host.notices.tail
           irq := !s.host.notices.tail.isEmpty }))
       ∧ (s.host.txn = some (.noticeRead none) → exec .noticeRead s = .next (ends { s.host with
           txn := none, shifted := List.replicate 14 0 }))
       ∧ (∀ w, s.host.txn = some (.statusRead w) → exec .statusRead s = .next (ends { s.host with
           txn := none, shifted := w.bytes, overflow := s.host.overflow - w.overflow }))
       ∧ (s.host.txn = none → s.host.slot = .empty → exec .replyRead s = .next (ends { s.host with
           txn := none, shifted := [0, 0, 0, 0] })))
  ∧ (∀ (h : HostPort) (i : Nat), (∀ x, h.shifted[i]? = some x → h.dataOut i = x)
       ∧ (h.shifted.length ≤ i → h.dataOut i = 0xFF#8))

/-! ### The loop ports -/

/-- What a received symbol and a break do to a port: a symbol error, an idle or no-hear symbol, the
first and the later symbols of a frame, the changes of link state with their notices, and a frame
complete at 11 bytes plus its length, which a DOWN port discards with no count. A port going DOWN releases the tag of an own frame whose last
symbol has not begun, which is thereby cut off. The choices of the model that it rests on are logs 11, 14
and 31. -/
def Obligations.SymbolsAndLinks : Prop :=
  ∀ (port : Port) (y : Symbol) (s : State), s.running = true → s.marginOk = true →
    let p := s.port port
    let other := (s.port (otherPort port)).up
    let ones := ((List.range 8).filter (fun i => y.data.getLsbD i)).length
      + (if y.mark then 1 else 0) + (if y.parity then 1 else 0)
    let good := y.stop = true ∧ ones % 2 = 1
    let q : PortState := if p.rx = none then p
      else { p with rx := none, frmErr := min 65535 (p.frmErr + 1) }
    let count := fun (n : Nat) => min 8 (n + 1)
    let becomes := fun (i : Instr) (x : PortState) =>
      exec i s = .next ((s.withStatusDue false).onPort port (fun _ => x))
    let raises := fun (i : Instr) (u : State) (n : Notice) =>
      exec i s = .next (u.withHost (if s.startup.state = .joined then s.host.join n else s.host))
    let goesDown := fun (i : Instr) (x : PortState) (cause : Nat) =>
      let lost := min 255 (p.lost + 1)
      let s1 := s.withStatusDue false
      let s2 := match s.sendingTag port with
        | some t => s1.withLoop { s1.loop with
            inFlight := s1.loop.inFlight.filter (fun f => f.tag != t) }
        | none => s1
      raises i (s2.onPort port (fun _ => { x with
          up := false, lost := lost, hearing := 0, run := 0, rx := none, fwd := [], tx := none }))
        (s.noticeOf .linkDown (portCode port) cause lost (if other then 1 else 2))
    (¬ good → becomes (.symbolReceived port y) { p with
        symErr := min 65535 (p.symErr + 1), rx := none
        hearing := if p.up then p.hearing else 0, run := if p.up then p.run else 0 })
    ∧ (good → y.mark = true → y.data = 0xFF#8 →
        (p.up = true → becomes (.symbolReceived port y) q)
        ∧ (p.up = false → count p.run ≠ 8 → becomes (.symbolReceived port y)
            { q with hearing := count p.hearing, run := count p.run })
        ∧ (p.up = false → count p.run = 8 → raises (.symbolReceived port y)
            ((s.withStatusDue false).onPort port (fun _ =>
              { q with hearing := count p.hearing, run := 8, up := true }))
            (s.noticeOf .linkUp (portCode port) (if other then 1 else 2) p.symErr 0)))
    ∧ (good → y.mark = true → y.data = 0xFE#8 →
        (p.up = false → becomes (.symbolReceived port y)
          { q with hearing := count p.hearing, run := 0 })
        ∧ (p.up = true → goesDown (.symbolReceived port y) q 2))
    ∧ (good → y.mark = true → y.data ≠ 0xFF#8 → y.data ≠ 0xFE#8 → becomes (.symbolReceived port y)
        { q with run := if p.up then p.run else 0, rx := some [y.data] })
    ∧ (good → y.mark = false →
        let x : PortState := { p with run := if p.up then p.run else 0 }
        (p.rx = none → becomes (.symbolReceived port y) x)
        ∧ (∀ l, p.rx = some l →
            let l1 := l ++ [y.data]
            (11 ≤ l1.length ∧ l1.length = 11 + byteAt l1 6 → becomes (.symbolReceived port y)
              { x with
                rx := none, completed := if p.up then p.completed ++ [l1] else p.completed })
            ∧ (¬ (11 ≤ l1.length ∧ l1.length = 11 + byteAt l1 6) →
                becomes (.symbolReceived port y) { x with rx := some l1 })))
    ∧ (p.up = true → goesDown (.lineBreak port) p 1)
    ∧ (p.up = false → becomes (.lineBreak port) { p with hearing := 0, run := 0, rx := none })
    ∧ (p.tx = none → s.sendingTag port = none)
    ∧ (∀ x start, p.tx = some x → x.doneAt = start + (12 * (x.bytes.length + 1) + 9) / 10 →
        let last := 10 * start + 12 * (x.bytes.length - 1)
        (10 * s.us < last → s.sendingTag port = x.ownTag)
        ∧ (last ≤ 10 * s.us → s.sendingTag port = none))

/-- Forwarding: the hop count steps and the check byte is formed again with every other byte as it
was; a frame above 64 hops is discarded and counted at its port of arrival; it joins the forward
buffer of the other port, or of its own where the other is DOWN, and one that finds no room is an
overrun. Before JOIN this is all that a completed frame gets; a damaged one is counted and dropped: one
with a length above 112 or not that of its body, a wrong check byte, or a kind, an origin, a tag, a reserved
byte or a body that fails its content check. The choices of the model that it rests on are logs 10 and 30. -/
def Obligations.Forwarding : Prop :=
  ∀ (p : Port) (b : List Byte) (rest : List (List Byte)) (s : State),
    let far := (s.port (otherPort p)).up
    let leave := if far then otherPort p else p
    let arrival := if far then p else otherPort p
    let b1 := setHops b (frHops b + 1)
    let w := ((s.port leave).fwd.map List.length).sum
    (64 ≤ frHops b → s.forward p b = s.onPort arrival (fun x => { x with circ := min 65535 (x.circ + 1) }))
    ∧ (frHops b < 64 → w + b1.length ≤ 256 →
        s.forward p b = s.onPort leave (fun x => { x with fwd := x.fwd ++ [b1] }))
    ∧ (frHops b < 64 → 256 < w + b1.length →
        s.forward p b = s.onPort leave (fun x => { x with overruns := min 65535 (x.overruns + 1) }))
    ∧ (11 ≤ b.length → frHops b < 64 → b1.length = b.length ∧ frHops b1 = frHops b + 1
        ∧ checkByte b1 = 0#8
        ∧ (∀ i, i ≠ 3 → i + 1 < b.length → byteAt b1 i = byteAt b i))
    ∧ (s.running = true → (s.port p).completed = b :: rest →
        ((s.port p).up = true → frameOk b = true → s.startup.state ≠ .joined →
          exec (.frameCompleted p) s = .next ((s.handed p rest).forward p b))
        ∧ ((s.port p).up = true → frameOk b = false → s.marginOk = true →
            exec (.frameCompleted p) s = .next ((s.handed p rest).onPort p (fun x =>
              { x with frmErr := min 65535 (x.frmErr + 1) })))
        ∧ ((s.port p).up = true → frameOk b = true → s.startup.state = .joined →
            s.marginOk = true → frOrigin b ≠ s.own → maskHas (frVisited b) s.own = true →
            exec (.frameCompleted p) s = .next ((s.handed p rest).forward p b)))
    ∧ (let n := byteAt b 6
      let body := fun (i : Nat) => byteAt b (10 + i)
      let kind := fun (i : Nat) => body i / 16 % 8
      let scope := fun (i : Nat) => body i % 8
      let pair := fun (i : Nat) => ((kind i = 1 ∨ kind i = 2) ∧ scope i = 1)
        ∨ ((kind i = 3 ∨ kind i = 4) ∧ 4 ≤ scope i)
      let classes := fun (core : Nat) => ∀ k, k < 4 → body (core + 8 + 4 * k) / 4 % 4 ≠ 3
      (frameOk b = true ↔
        n ≤ 112 ∧ b.length = 11 + n
        ∧ b.getLast? = some (b.dropLast.foldl (fun x y => x ^^^ y) 0#8)
        ∧ 1 ≤ byteAt b 1 ∧ byteAt b 1 ≤ 16 ∧ byteAt b 2 ≠ 0
        ∧ byteAt b 7 = 0 ∧ byteAt b 8 = 0 ∧ byteAt b 9 = 0
        ∧ ((byteAt b 0 = 0x41 ∧ body 31 ≤ 3 ∧ n = 32 + 3 * body 31 ∧ classes 1
              ∧ (∀ i, i < body 31 → body (32 + 3 * i) ≠ 0 ∧ pair (33 + 3 * i))
              ∧ (body 29 = 0 ∨ body 29 = 1 ∨ (4 ≤ body 29 ∧ body 29 ≤ 7)) ∧ body 30 ≤ 2)
          ∨ (byteAt b 0 = 0x42 ∧ n = 35 ∧ body 0 ≠ 0 ∧ pair 1 ∧ classes 4 ∧ body 33 ≤ 16
              ∧ body 34 ≤ 7)
          ∨ (byteAt b 0 = 0x43 ∧ n = 2 ∧ body 0 ≠ 0 ∧ pair 1)
          ∨ (byteAt b 0 = 0x44 ∧ n = 2 ∧ body 0 ≠ 0 ∧ (body 1 = 1 ∨ body 1 = 2))
          ∨ (byteAt b 0 = 0x45 ∧ n = 3 ∧ body 0 ≠ 0 ∧ pair 1))))

/-- The arbiter of a port starts the oldest forwarded frame, or an own frame where none waits, the
port is the own port and the in-flight list has room; an own frame is then in flight, and its entry
ends 100 ms later at the latest. An own frame gets a tag of 1 to 255 that no own frame queued or in
flight bears, and joins the own queue: a STATUS takes the place of an older one, a full queue gives
up its STATUS, and what still finds no room is dropped and counted. A port sends a symbol at all times:
those of its frame, the first byte marked, the idle symbol behind it and while it has no frame, and while
DOWN the no-hear symbol until it has heard the far end; its line is low without supply and repeats the
other port's under reset. The choices of the model that it rests on are log 11. -/
def Obligations.OwnFramesAndTransmission : Prop :=
  (∀ (port : Port) (s : State), s.running = true → s.marginOk = true → (s.port port).up = true →
     s.busy port = false →
     let done := fun (b : List Byte) => s.us + (12 * (b.length + 1) + 9) / 10
     (∀ b l, (s.port port).fwd = b :: l → exec (.transmitNextFrame port) s = .next
         ((s.withStatusDue false).onPort port (fun x =>
           { x with fwd := l, tx := some ⟨b, none, done b⟩ })))
     ∧ (∀ f l, (s.port port).fwd = [] → s.loop.queue = f :: l → s.loop.inFlight.length < 32 →
         (port = .b ∨ s.loop.b.up = false) → exec (.transmitNextFrame port) s = .next
           (((s.withStatusDue false).onPort port (fun x =>
               { x with tx := some ⟨f.bytes, some f.tag, done f.bytes⟩ })).onLoop (fun l1 =>
             { l1 with queue := l, inFlight := l1.inFlight ++ [⟨f.tag, f.kind, f.claimId, s.now⟩] })))
     ∧ (∀ f ∈ s.loop.inFlight, f.sentMs + 100 ≤ s.now → exec (.inFlightTagExpiry f.tag) s = .next
         { s with
           statusDue := false
           loop := { s.loop with inFlight := s.loop.inFlight.filter (fun g => g.tag != f.tag) } }))
  ∧ (∀ (k : FrameKind) (id : Nat) (body : List Byte) (s : State),
       let q := if k = .status then s.loop.queue.filter (fun f => f.kind != .status) else s.loop.queue
       let t := (s.queueOwn k id body).1
       let tag := (s.queueOwn k id body).2
       let f : OwnFrame := ⟨k, tag, id, ownBytes k s.own tag body⟩
       t.loop.tagCounter = tag
       ∧ (s.loop.queue.length ≤ 8 → s.loop.inFlight.length ≤ 32 → 1 ≤ tag ∧ tag ≤ 255
           ∧ (∀ g ∈ q, g.tag ≠ tag) ∧ (∀ g ∈ s.loop.inFlight, g.tag ≠ tag))
       ∧ (q.length < 8 → t.loop.queue = q ++ [f] ∧ t.loop.ownDrops = s.loop.ownDrops)
       ∧ (8 ≤ q.length → ∀ before g after, q = before ++ g :: after → g.kind = .status →
           (∀ h ∈ before, h.kind ≠ .status) →
           t.loop.queue = before ++ after ++ [f] ∧ t.loop.ownDrops = s.loop.ownDrops)
       ∧ (8 ≤ q.length → (∀ g ∈ q, g.kind ≠ .status) →
           t.loop.queue = q ∧ t.loop.ownDrops = min 65535 (s.loop.ownDrops + 1))
       ∧ s.ChangesOnly [.ownQueue] t)
  ∧ (∀ (port : Port) (s : State),
       let p := s.port port
       let ones := fun (y : Symbol) => ((List.range 8).filter (fun i => y.data.getLsbD i)).length
         + (if y.mark then 1 else 0) + (if y.parity then 1 else 0)
       (s.power = false → s.lineOut port = .low)
       ∧ (s.power = true → s.pins.resetN = false → s.lineOut port = .repeats (otherPort port))
       ∧ (s.running = true → ∃ y, s.lineOut port = .symbol y ∧ y.stop = true ∧ ones y % 2 = 1
           ∧ (p.up = false → y.mark = true ∧ y.data = (if p.hearing = 8 then 0xFF#8 else 0xFE#8))
           ∧ (p.up = true → p.tx = none → y.mark = true ∧ y.data = 0xFF#8)
           ∧ (∀ x start n, p.up = true → p.tx = some x →
               x.doneAt = start + (12 * (x.bytes.length + 1) + 9) / 10 →
               10 * start + 12 * n ≤ 10 * s.us → 10 * s.us < 10 * start + 12 * (n + 1) →
               (∀ d, x.bytes[n]? = some d → y.data = d ∧ y.mark = decide (n = 0))
               ∧ (x.bytes.length ≤ n → y.mark = true ∧ y.data = 0xFF#8))))

/-- A JOINED station and a frame of its own number. With the tag of an own frame in flight it is
home at port A, and at port B while A is DOWN: its tag is released, a CLAIM goes to the claim unit
and nothing is forwarded; at port B while A is UP it goes on as it is. With another tag it goes on
as it is, and a STATUS, CLAIM or FORCED sets the duplicate fault with its notice. The choices of the
model that it rests on are log 14. -/
def Obligations.OwnNumberFrames : Prop :=
  ∀ (p : Port) (b : List Byte) (rest : List (List Byte)) (s : State), s.meets p b rest →
    s.startup.state = .joined → frOrigin b = s.own →
    let s1 := s.handed p rest
    let home := s1.withLoop { s1.loop with
      inFlight := s1.loop.inFlight.filter (fun f => f.tag != frTag b) }
    ((∃ f ∈ s.loop.inFlight, f.tag = frTag b) →
      (p = .a ∨ s.loop.a.up = false →
        (frameKindOf (byteAt b 0) = some .claim →
          exec (.frameCompleted p) s = .next (s.ends (home.claimReturned b)))
        ∧ (frameKindOf (byteAt b 0) ≠ some .claim → s.marginOk = true →
          exec (.frameCompleted p) s = .next home))
      ∧ (p = .b → s.loop.a.up = true → s.marginOk = true →
          exec (.frameCompleted p) s = .next (s1.forward p b)))
    ∧ ((∀ f ∈ s.loop.inFlight, f.tag ≠ frTag b) → s.marginOk = true →
      (s.view.duplicate = true ∨ frameKindOf (byteAt b 0) = some .grant
          ∨ frameKindOf (byteAt b 0) = some .drop →
        exec (.frameCompleted p) s = .next (s1.forward p b))
      ∧ (s.view.duplicate = false → byteAt b 0 ∈ [0x41, 0x42, 0x45] →
        exec (.frameCompleted p) s = .next (({ s1 with
          view := { s1.view with duplicate := true }
          host := s.host.join (s.noticeOf .duplicateStation s.own (byteAt b 0) (frTag b)
            (portCode p)) }).forward p b)))

/-! ### What peers report -/

/-- A GRANT, a DROP or a FORCED of a peer at its first meeting: the entry it names becomes ACTIVE,
leaves the list, or takes the frame's kind, scope and mark; one not held is added, or lost to a full
list; and the frame goes on with the own bit set. The choices of the model that it rests on are log
28. -/
def Obligations.SettlementFrames : Prop :=
  ∀ (p : Port) (b : List Byte) (rest : List (List Byte)) (s : State), s.meets p b rest →
    let n := frOrigin b
    let id := body8 b 0
    let c := s.claims
    let holds := ∃ w ∈ c.list, w.owner = n ∧ w.claimId = id
    let room := (c.list.filter (fun w => w.owner != s.own)).length < 29
    let goesOn := fun (l : Claims) (h : HostPort) =>
      exec (.frameCompleted p) s = .next (s.ends
        (({ s.handed p rest with claims := l, host := h }).forward p (setVisited b s.own)))
    let changed := fun (f : Withdrawal → Withdrawal) => { c with
      list := c.list.map (fun w => if w.owner = n ∧ w.claimId = id then f w else w) }
    let added := fun (w : Withdrawal) => { c with list := c.list ++ [w] }
    let lost : Claims := { c with lost := min 65535 (c.lost + 1), incomplete := true }
    let full := fun (k : WKind) => if c.incomplete then s.host
      else s.host.join (s.noticeOf .viewFull n id k.code c.list.length)
    (∀ k x, s.firstMeeting .grant b → kindScopeOf (body8 b 1) = some (k, x) →
      (holds → goesOn (changed (fun w => { w with active := true })) s.host)
      ∧ (¬ holds → room →
          goesOn (added ⟨n, id, k, x, true, false, false, none, s.now, false⟩) s.host)
      ∧ (¬ holds → ¬ room → goesOn lost (full k)))
    ∧ (s.firstMeeting .drop b →
        let l := c.list.filter (fun w => !(w.owner == n && w.claimId == id))
        (holds → goesOn { c with list := l, incomplete := c.incomplete && decide (28 < l.length) }
          s.host)
        ∧ (¬ holds → goesOn c s.host))
    ∧ (∀ k x, s.firstMeeting .forced b → kindScopeOf (body8 b 1) = some (k, x) →
      (holds → goesOn (changed (fun w => { w with
          active := true, kind := k, scope := x, unsanctioned := forcedMark b })) s.host)
      ∧ (¬ holds → room →
          goesOn (added ⟨n, id, k, x, true, true, forcedMark b, none, s.now, false⟩) s.host)
      ∧ (¬ holds → ¬ room → goesOn lost (full k)))

/-- A STATUS of a peer at its first meeting. One that repeats or is older than the one held changes
nothing but goes on; another is taken in: the entry takes every value it carries, a change of its
state and a policy that differs are noticed, and the owner's entries in the list are reconciled,
others left. The choices of the model that it rests on are logs 14, 20 and 39. -/
def Obligations.StatusTakenIn : Prop :=
  ∀ (p : Port) (b : List Byte) (rest : List (List Byte)) (s : State), s.meets p b rest →
    s.firstMeeting .status b → s.view.peers.length = 16 →
    let n := frOrigin b
    let e := s.peer n
    let d := (body8 b 0 + 256 - e.lastSeq) % 256
    let old := e.state = .present ∧ e.seqOpen = false ∧ (d = 0 ∨ 128 ≤ d)
    let core := coreOf b 1
    let policy := fun (c : StatusCore) => (c.reserve, c.autonomy, c.exposure)
    (old → s.marginOk = true →
      exec (.frameCompleted p) s = .next ((s.handed p rest).forward p (setVisited b s.own)))
    ∧ (¬ old → ∃ u, exec (.frameCompleted p) s = .next (s.ends (u.forward p (setVisited b s.own)))
      ∧ u.view.peers = s.view.peers.set (n - 1)
          ⟨.present, body8 b 0, false, 0, { core with period := max 50 (min 1000 core.period) },
            idOf (body8 b 28), scopeOf (body8 b 29), overdueOf (body8 b 30)⟩
      ∧ s.raised ((if e.state = .present then []
            else [s.noticeOf .peerState n e.state.code 2 (max 50 (min 1000 core.period) : Nat)])
          ++ (if policy core ≠ (s.cfg.reservePct, s.cfg.autonomyMin, s.cfg.exposurePct)
                ∧ (e.state = .absent ∨ policy e.core ≠ policy core) then
              [s.noticeOf .policyMismatch n core.reserve core.autonomy core.exposure] else [])
          ++ (if core.flags.visitLong = true ∧ e.core.flags.visitLong = false then
              [s.noticeOf .peerVisitLong n (body8 b 29) (body8 b 30) 0] else [])) u
      ∧ u.claims.list.filter (fun w => w.owner != n) = s.claims.list.filter (fun w => w.owner != n)
      ∧ (∀ w ∈ u.claims.list, w.owner = n →
          (∃ c ∈ carriedOf b, c.claimId = w.claimId)
          ∨ (w ∈ s.claims.list ∧ w.active = false ∧ idOf (body8 b 28) = some w.claimId))
      ∧ (s.peerEntries.length + (carriedOf b).length ≤ 29 →
          (carriedOf b).Pairwise (fun x y => x.claimId ≠ y.claimId) →
          (∀ c ∈ carriedOf b, ∃ w ∈ u.claims.list, w.owner = n ∧ w.claimId = c.claimId)
          ∧ (∀ c ∈ carriedOf b, ∀ w ∈ u.claims.list, w.owner = n → w.claimId = c.claimId →
              w.active = true ∧ w.kind = c.kind ∧ w.scope = c.scope ∧ w.overdue = c.overdue
              ∧ w.forced = c.forced ∧ w.unsanctioned = c.unsanctioned))
      ∧ s.ChangesOnly [.peers, .withdrawals, .notices, .portA, .portB] u)

/-- A CLAIM of a peer at its first meeting refreshes its origin's entry, with the notices of a change of
its state, of a policy that differs and of a VISIT_LONG newly set, and the margin state is evaluated on
that; the claim is then judged by the first condition of R79 that holds. An objection is written into the
frame, the first objector and reason only where none stands; a claim let pass is held as PROVISIONAL, or
objected to where the list is full. The choices of the model that it rests on are logs 14, 19 and 20. -/
def Obligations.ClaimJudged : Prop :=
  ∀ (p : Port) (b : List Byte) (rest : List (List Byte)) (s : State), s.meets p b rest →
    s.firstMeeting .claim b →
    let n := frOrigin b
    let e := s.peer n
    let core := coreOf b 4
    let policy := fun (c : StatusCore) => (c.reserve, c.autonomy, c.exposure)
    let period := max 50 (min 1000 core.period)
    let v := setVisited b s.own
    let peers := s.view.peers.set (n - 1) { e with
      state := .present, age := 0, claimInFlight := some (body8 b 0)
      core := { core with period := period }, seqOpen := e.seqOpen || e.state != .present }
    let notices := (if e.state = .present then []
        else [s.noticeOf .peerState n e.state.code 2 (period : Nat)])
      ++ (if policy core ≠ (s.cfg.reservePct, s.cfg.autonomyMin, s.cfg.exposurePct)
            ∧ (e.state = .absent ∨ policy e.core ≠ policy core) then
          [s.noticeOf .policyMismatch n core.reserve core.autonomy core.exposure] else [])
      ++ (if core.flags.visitLong = true ∧ e.core.flags.visitLong = false then
          [s.noticeOf .peerVisitLong n (visitScopeCode e.visitScope) e.overdue.code 0] else [])
    let refreshed : State := { s.handed p rest with
      view := { s.view with peers := peers }, host := s.host.joinAll notices }
    let u := refreshed.evalMargin
    (isStation s.own = true → ∀ r : Reason,
      let o := writeObjection v s.own r
      claimObjections o = maskAdd (claimObjections b) s.own ∧ checkByte o = 0#8
      ∧ (claimFirst b = 0 → claimFirst o = s.own ∧ claimReason o = r.code)
      ∧ (claimFirst b ≠ 0 → claimFirst o = claimFirst b ∧ claimReason o = claimReason b))
    ∧ u.marginOk = true ∧ u.view.peers = peers ∧ s.raised notices u
    ∧ u.claims.list.filter (fun w => w.owner != s.own)
        = s.claims.list.filter (fun w => w.owner != s.own)
    ∧ s.ChangesOnly ([.peers, .portA, .portB] ++ s.eventEnd) u
    ∧ ∀ k x, kindScopeOf (body8 b 1) = some (k, x) →
        let one := u.totals [⟨n, k, x⟩]
        let two := match u.claims.slot with
          | .inFlight q _ _ _ => u.policy.failing (u.totals [⟨n, k, x⟩, ⟨u.own, q.kind, q.scope⟩])
          | _ => none
        let objects := fun (r : Reason) => exec (.frameCompleted p) s
          = .next (s.ends (u.forward p (writeObjection v s.own r)))
        if u.view.duplicate = true then objects .duplicate
        else if u.claims.incomplete = true then objects .viewFull
        else if u.view.margin = .deficit then objects .deficit
        else match u.policy.failing one with
          | some r => objects r
          | none =>
            if two ≠ none then objects .contended
            else
              let w : Withdrawal :=
                ⟨n, body8 b 0, k, x, false, false, false, some (body16 b 2), s.now, false⟩
              if (∃ y ∈ u.claims.list, y.owner = n ∧ y.claimId = body8 b 0) then
                exec (.frameCompleted p) s = .next (s.ends ((u.setList (u.claims.list.map (fun y =>
                  if y.owner = n ∧ y.claimId = body8 b 0 then w else y))).forward p v))
              else if u.peerEntries.length < 29 then
                exec (.frameCompleted p) s
                  = .next (s.ends ((u.setList (u.claims.list ++ [w])).forward p v))
              else exec (.frameCompleted p) s
                = .next (s.ends ((u.loseEntry w).forward p (writeObjection v s.own .viewFull)))

/-! ### The floor view's timers and sums -/

/-- What a station contributes to the floor sums, in any view: a STALE, LOST, HOST_STALE, UNSUPERVISED or
cabinet-covered one no capacity and no energy, but its load; the totals over the sixteen stations, and the
figures and tests formed from them. The margin state that these give: DEFICIT where a test fails under the
own policy, and NORMAL again where all pass under the strengthened one. The own entry from JOIN onward, its
flags and its string reports included. -/
def Obligations.FloorSums : Prop :=
  ∀ (s : State) (hs : List Hyp),
    (∀ n : Nat,
      let e := s.entry n
      let c := s.contribution hs n
      let cabinet := fun (k : WKind) => k = .bypass ∨ k = .maint
      let cov := (∃ w ∈ s.claims.list, w.owner = n ∧ cabinet w.kind)
        ∨ (∃ h ∈ hs, h.owner = n ∧ cabinet h.kind) ∨ e.core.flags.onBypass = true
      let strCov := fun (k : Nat) =>
        (∃ w ∈ s.claims.list, w.owner = n ∧ ¬ cabinet w.kind ∧ w.scope = .string k)
        ∨ (∃ h ∈ hs, h.owner = n ∧ ¬ cabinet h.kind ∧ h.scope = .string k)
      let demand := if e.state = .absent then 0 else e.core.load
      let counted := e.state = .present ∧ e.core.flags.hostStale = false
        ∧ e.core.flags.unsupervised = false ∧ ¬ cov
      c.d = demand ∧ (cov → c.l = 0 ∧ c.x = demand) ∧ (¬ cov → c.l = demand ∧ c.x = 0)
      ∧ (counted → c.c = e.core.pAvail) ∧ (¬ counted → c.c = 0 ∧ c.e = 0)
      ∧ (counted → ∀ parts : List Nat, parts.length = e.core.strings.length →
          (∀ (k : Nat) (r : StringReport), e.core.strings[k]? = some r →
            (r.state = .inService ∧ r.cls ≠ .ended ∧ ¬ strCov k → parts[k]? = some r.eAvail)
            ∧ (¬ (r.state = .inService ∧ r.cls ≠ .ended ∧ ¬ strCov k) → parts[k]? = some 0)) →
          c.e = parts.sum))
    ∧ (let v := s.totals hs
      let sum := fun (f : Totals → Nat) => (stations.map (fun n => f (s.contribution hs n))).sum
      v.c = sum Totals.c ∧ v.l = sum Totals.l ∧ v.d = sum Totals.d ∧ v.x = sum Totals.x
      ∧ v.e = sum Totals.e)
    ∧ (let v := s.totals []
      let f := s.figuresNow
      f.headroom = max (-32767) (min 32767
          ((v.c : Int) - ((v.l * (100 + s.cfg.reservePct) / 100 : Nat) : Int)))
      ∧ f.runtime = (if v.l = 0 then 65535 else min 65535 (v.e * 60 / v.l))
      ∧ f.exposedBp = (if v.d = 0 then 0 else v.x * 10000 / v.d)
      ∧ (f.capacityOk = true ↔ v.l * (100 + s.cfg.reservePct) ≤ v.c * 100)
      ∧ (f.energyOk = true ↔ v.l * s.cfg.autonomyMin ≤ v.e * 60)
      ∧ (f.exposureOk = true ↔ v.x * 100 ≤ v.d * s.cfg.exposurePct)
      ∧ (let passes := fun (reserve autonomy exposure : Nat) =>
          v.l * (100 + reserve) ≤ v.c * 100 ∧ v.l * autonomy ≤ v.e * 60 ∧ v.x * 100 ≤ v.d * exposure
        (s.view.margin = .normal → (s.marginNow = .deficit ↔
          ¬ passes s.cfg.reservePct s.cfg.autonomyMin s.cfg.exposurePct))
        ∧ (s.view.margin = .deficit → (s.marginNow = .normal ↔
          passes (s.cfg.reservePct + 5) (s.cfg.autonomyMin + 1) (s.cfg.exposurePct - 5)))))
    ∧ (s.startup.state = .joined →
      let e := s.entry s.own
      let silent := s.dog.stage = .hostStale ∨ s.dog.stage = .unsupervised
      let flags := e.core.flags
      e.state = .present ∧ e.age = 0 ∧ e.lastSeq = s.view.seq ∧ e.seqOpen = false
      ∧ e.core.period = s.cfg.statusPeriod ∧ e.core.load = s.intake.load
      ∧ (silent → e.core.pAvail = 0) ∧ (¬ silent → e.core.pAvail = s.intake.pAvail)
      ∧ e.core.reserve = s.cfg.reservePct ∧ e.core.autonomy = s.cfg.autonomyMin
      ∧ e.core.exposure = s.cfg.exposurePct
      ∧ (flags.hostStale = true ↔ silent) ∧ (flags.unsupervised = true ↔ s.dog.stage = .unsupervised)
      ∧ (flags.deficit = true ↔ s.view.margin = .deficit)
      ∧ (flags.onBypass = true ↔
          s.seq.state ∈ [SeqState.onBypass, .forced, .latched, .maint, .transferIn])
      ∧ (flags.maint = true ↔ s.seq.state = .maint)
      ∧ (flags.visitOpen = true ↔ ∃ v, s.visit.current = some v ∧ v.admitting = false)
      ∧ (flags.visitOverdue = true ↔ ∃ v, s.visit.current = some v ∧ v.overdue ≠ .none)
      ∧ (flags.visitLong = true ↔ ∃ v, s.visit.current = some v ∧ v.overdue = .long)
      ∧ (flags.ageUnknown = true ↔ ∃ x ∈ s.strings, x.ageUnknown = true)
      ∧ e.core.strings.length = 4
      ∧ (∀ k, k < 4 →
          (∀ x, s.strings[k]? = some x → e.core.strings[k]? = some
            ⟨match x.state with
              | .inService => .inService
              | .test => .test
              | .isolated => .isolated, x.cls, x.ageUnknown, x.unmeasured, x.tempSuspect, x.eAvail⟩)
          ∧ (s.strings.length ≤ k →
              e.core.strings[k]? = some ⟨.none, .good, false, false, false, 0⟩))
      ∧ (∀ id, e.claimInFlight = some id ↔ ∃ q tag d, s.claims.slot = .inFlight q id tag d)
      ∧ (s.visit.current = none → e.visitScope = none ∧ e.overdue = .none)
      ∧ (∀ v, s.visit.current = some v → e.visitScope = some v.scope ∧ e.overdue = v.overdue))

/-- A silent peer goes STALE after three and LOST after twenty of its periods, each with its notice;
the status period brings a STATUS; FORGET_STATION takes a LOST peer and its withdrawals out of the
view. A PROVISIONAL entry held for ten own status periods is removed, an own entry whose planned
time has run out becomes overdue with its notice, and a release takes the own entry of a class out
with a DROP. The choices of the model that it rests on are logs 14, 15 and 20. -/
def Obligations.FloorTimersAndForget : Prop :=
  (∀ s : State, s.running = true → s.startup.state = .joined →
     (∀ n, isStation n = true → n ≠ s.own →
       let e := s.peer n
       let moved := fun (x : EntryState) => s.ends { s with
         statusDue := false
         view := { s.view with peers := s.view.peers.set (n - 1) { e with state := x } }
         host := s.host.join (s.noticeOf .peerState n e.state.code x.code e.core.period) }
       (e.state = .present → 3 * e.core.period < e.age → exec (.peerStale n) s = .next (moved .stale))
       ∧ (e.state = .stale → 20 * e.core.period < e.age → exec (.peerLost n) s = .next (moved .lost)))
     ∧ ((∃ d, s.view.statusAt = some d ∧ d ≤ s.now) →
         exec .statusPeriod s = .next (s.ends (s.withStatusDue true)))
     ∧ (∀ r, s.takes .forgetStation r →
       let n := arg8 r 0
       let gone := fun (w : Withdrawal) => w.owner == n
       let l := s.claims.list.filter (fun w => !gone w)
       (n < 1 ∨ 16 < n → s.marginOk = true →
         exec .forgetStation s = .next (s.repliedOnly r .badArg (le8 1)))
       ∧ (1 ≤ n → n ≤ 16 → n = s.own ∨ (s.peer n).state ≠ .lost → s.marginOk = true →
           exec .forgetStation s = .next (s.repliedOnly r .badState (le8 0)))
       ∧ (1 ≤ n → n ≤ 16 → n ≠ s.own → (s.peer n).state = .lost →
           exec .forgetStation s = .next (s.ends { s with
             statusDue := false
             view := { s.view with peers := s.view.peers.set (n - 1) PeerEntry.blank }
             claims := { s.claims with
               list := l
               incomplete := s.claims.incomplete
                 && (!s.claims.list.any gone || decide (28 < l.length)) }
             host := { s.host.join (s.noticeOf .peerState n 4 1 1000) with
               slot := replyTo r .ok (le8 (s.claims.list.filter gone).length) } }))))
  ∧ (∀ s : State, s.running = true → s.startup.state = .joined →
       (∀ w ∈ s.claims.list, w.active = false → w.enteredMs + 10 * s.cfg.statusPeriod ≤ s.now →
         let l := s.claims.list.filter (fun x => !(x.owner == w.owner && x.claimId == w.claimId
           && !x.active && decide (x.enteredMs + 10 * s.cfg.statusPeriod ≤ s.now)))
         exec (.provisionalHoldExpiry w.owner w.claimId) s = .next (s.ends { s with
           statusDue := false
           claims := { s.claims with
             list := l, incomplete := s.claims.incomplete && decide (28 < l.length) } }))
       ∧ (∀ w ∈ s.claims.list, ∀ m, w.owner = s.own → w.kind ≠ .test → w.overdue = false →
           w.planned = some m → w.enteredMs + m * 60000 ≤ s.now →
           (∀ x ∈ s.claims.list, x.owner = s.own → x.claimId = w.claimId → x = w) →
           exec (.withdrawalOverdue w.claimId) s = .next (s.ends { s with
             statusDue := false
             claims := { s.claims with list := s.claims.list.map (fun x =>
               if x = w then { x with overdue := true } else x) }
             host := s.host.join (s.noticeOf .withdrawalOverdue w.claimId w.kind.code w.scope.code m) }))
       ∧ (∀ c : WKind → Bool,
           ((∀ w ∈ s.ownWithdrawals, c w.kind = false) → s.release c = s)
           ∧ (∀ w, s.ownOfClass c = some w →
               let l := s.claims.list.filter (fun x =>
                 !(x.owner == s.own && x.claimId == w.claimId && c x.kind))
               let t := s.release c
               t.claims = { s.claims with
                 list := l, incomplete := s.claims.incomplete && decide (28 < l.length) }
               ∧ t.statusDue = true ∧ s.ChangesOnly [.withdrawals, .ownQueue] t
               ∧ (s.loop.queue.length < 8 → t.sends .drop w.claimId (le8 w.claimId ++ le8 2)))))

/-! ### Settlement of the own claim -/

/-- The own CLAIM has come home. It succeeds only unobjected, visited by every PRESENT peer and by a
quorum, with the own re-check passed: then the entry is ACTIVE and a GRANT goes out; after a give-up a GRANT
and a DROP and no entry. Otherwise it fails with the first outcome of R83 that applies, and MARGIN_LOCAL
carries its first reason that holds: DUPLICATE, VIEW_FULL, DEFICIT, or the test that fails. -/
def Obligations.ClaimReturn : Prop :=
  ∀ (b : List Byte) (q : Request) (id tag d : Nat) (s : State), s.claims.slot = .inFlight q id tag d →
    let heard := ∀ n ∈ s.peerNumbers, (s.peer n).state = .present → maskHas (frVisited b) n = true
    let quorum := s.cfg.quorum ≤ maskCount (frVisited b) + 1
    let own : List Hyp := [⟨s.own, q.kind, q.scope⟩]
    let clear := s.view.duplicate = false ∧ s.claims.incomplete = false ∧ s.view.margin = .normal
    let code := le8 id ++ le8 (kindScopeCode q.kind q.scope)
    let freed := { s.claims with slot := .free }
    (frTag b ≠ tag → s.claimReturned b = s)
    ∧ (frTag b = tag →
      (claimObjections b = 0 → heard → quorum → clear →
          s.policy.failing (s.totals own) = none →
        ∃ u, s.claimReturned b = u.report q ⟨.granted, id, 0, 0, 0⟩
          ∧ s.ChangesOnly [.withdrawals, .slot, .ownQueue] u
          ∧ (q.givenUp = false → u.claims = { freed with list := s.claims.list
                ++ [⟨s.own, id, q.kind, q.scope, true, false, false, some q.planned, s.now, false⟩] }
              ∧ u.statusDue = true ∧ (s.loop.queue.length < 8 → u.sends .grant id code))
          ∧ (q.givenUp = true → u.claims = freed ∧ (s.loop.queue.length < 7 →
              u.sends .grant id code ∧ u.sends .drop id (le8 id ++ le8 2))))
      ∧ (claimObjections b ≠ 0 → claimReason b = 7 → s.claimReturned b
          = s.settleFailed q id ⟨.contended, 0, claimFirst b, 0, 0⟩)
      ∧ (claimObjections b ≠ 0 → claimReason b ≠ 7 → s.claimReturned b
          = s.settleFailed q id ⟨.objected, 0, claimFirst b, 0, claimReason b⟩)
      ∧ (claimObjections b = 0 → ¬ (heard ∧ quorum) → s.claimReturned b
          = s.settleFailed q id ⟨.unheard, 0, 0, s.missingPeers (frVisited b), 0⟩)
      ∧ (claimObjections b = 0 → heard → quorum → ¬ clear →
          let r : Reason := if s.view.duplicate = true then .duplicate
            else if s.claims.incomplete = true then .viewFull else .deficit
          s.claimReturned b = s.settleFailed q id ⟨.marginLocal, 0, 0, 0, r.code⟩)
      ∧ (∀ r, claimObjections b = 0 → heard → quorum → clear →
          s.policy.failing (s.totals own) = some r →
          s.claimReturned b = s.settleFailed q id ⟨.marginLocal, 0, 0, 0, r.code⟩))

/-- A failed claim frees the slot and queues a DROP with reason FAILED. CONTENDED, UNHEARD and LOST
are retried after their delay, are final after a give-up, and are ABANDONED at the retry limit; the
others are final. The claim timer makes an outstanding claim LOST, and the retry timer runs the
local check again. The choices of the model that it rests on are log 33. -/
def Obligations.FailedClaimsAndTimers : Prop :=
  (∀ (q : Request) (id : Nat) (f : Final) (s : State),
    ∃ u, u.claims = { s.claims with slot := .free } ∧ s.ChangesOnly [.slot, .ownQueue] u
      ∧ (s.loop.queue.length < 8 → u.sends .drop id (le8 id ++ le8 1))
      ∧ (f.outcome = .contended ∨ f.outcome = .unheard ∨ f.outcome = .lost →
          (q.givenUp = true → s.settleFailed q id f = u.report q f)
          ∧ (q.givenUp = false → s.cfg.retryLimit ≤ q.retries →
              s.settleFailed q id f = u.report q ⟨.abandoned, 0, 0, 0, 0⟩)
          ∧ (q.givenUp = false → q.retries < s.cfg.retryLimit →
              s.settleFailed q id f = u.withClaims { s.claims with
                slot := .retryWait q (s.now + if f.outcome = .contended then 20 + s.own * 10
                  else s.cfg.claimTimeout) }))
      ∧ (f.outcome = .objected ∨ f.outcome = .marginLocal →
          s.settleFailed q id f = u.report q f))
  ∧ (∀ (q : Request) (id tag d : Nat) (s : State), s.running = true →
      s.claims.slot = .inFlight q id tag d → d ≤ s.now →
      exec .claimTimerExpiry s = .next (s.ends ({ s with
        statusDue := false
        loop := { s.loop with queue := s.loop.queue.filter (fun (f : OwnFrame) =>
          !(f.kind == FrameKind.claim && f.tag == tag)) } }.settleFailed q id ⟨.lost, 0, 0, 0, 0⟩)))
  ∧ (∀ (q : Request) (d : Nat) (s : State), s.running = true → s.claims.slot = .retryWait q d →
      d ≤ s.now →
      (∀ r, s.localCheck ⟨s.own, q.kind, q.scope⟩ = some r →
        exec .retryTimerExpiry s = .next (s.ends ({ s with
          statusDue := false
          claims := { s.claims with slot := .free } }.report { q with retries := q.retries + 1 }
            ⟨.refused, 0, 0, 0, r.code⟩)))
      ∧ (s.localCheck ⟨s.own, q.kind, q.scope⟩ = none → s.marginOk = true →
          ∃ t, exec .retryTimerExpiry s = .next t ∧ t.claims.lastId = s.newClaimId
            ∧ t.claims.slot = .inFlight { q with retries := q.retries + 1, lastId := s.newClaimId }
                s.newClaimId t.loop.tagCounter (s.now + s.cfg.claimTimeout)
            ∧ (s.loop.queue.length < 8 → t.sends .claim s.newClaimId
                (le8 s.newClaimId ++ le8 (kindScopeCode q.kind q.scope) ++ le16 q.planned
                  ++ s.ownCore.bytes ++ le16 0 ++ le8 0 ++ le8 0))
            ∧ s.ChangesOnly [.claimIds, .slot, .ownQueue] t))

/-- What a requester does with a final outcome: the ageing unit starts the test, or brings the job
back to IDLE with TEST_DENIED; the sequencer moves to TRANSFER_OUT, or back to ONLINE with
TRANSFER_RESULT; the visit unit opens the visit, or moves its record to the history with
VISIT_NOT_ADMITTED. The choices of the model that it rests on are logs 14, 26 and 27 and, for the class of
an END string with `test_cap` absent at the grant of a test, log 41. -/
def Obligations.OutcomesReported : Prop :=
  ∀ (q : Request) (f : Final) (s : State), s.startup.state = .joined →
    (q.requester = .ageing → s.job.state = .claiming →
      let k := s.job.k
      let denied := fun (x : Nat) => { s with
        job := TestJob.blank
        host := s.host.join (s.noticeOf .testDenied k f.outcome.code f.objector x) }
      (∀ c, s.job.givenUp = some c → s.report q f = denied c.code)
      ∧ (s.job.givenUp = none → f.outcome = .objected ∨ f.outcome = .refused →
          s.report q f = denied f.reason)
      ∧ (s.job.givenUp = none → f.outcome ≠ .granted → f.outcome ≠ .objected →
          f.outcome ≠ .refused → s.report q f = denied 0)
      ∧ (∀ x, s.job.givenUp = none → f.outcome = .granted → s.strings[k]? = some x →
          let fit := x.state = .inService ∧ x.unmeasured = false ∧ 9000 ≤ x.soc
            ∧ (x.cls ≠ .ended
              ∨ ({ x with testCap := none }.recompute (s.params k) false).cls ≠ .ended)
          (fit → s.report q f = { s with
            statusDue := true
            strings := s.strings.set k { x with
              state := .test, eAvail := 0
              lastTest := some ⟨s.now, x.soc, s.job.target, s.job.limitMin, 0, none, none, none⟩ }
            outs := { s.outs with dischReq := true }
            job := { s.job with
              state := .running, limitAt := some (s.now + s.job.limitMin * 60000) }
            host := s.host.join (s.noticeOf .testStarted k f.id x.soc s.job.limitMin) })
          ∧ (¬ fit → ∃ u, u = s.release WKind.isTest ∧ s.report q f = { u with
              job := TestJob.blank
              host := s.host.join (s.noticeOf .testDenied k 1 0 13) })))
    ∧ (q.requester = .sequencer →
      let result := fun (u : State) (code second reason : Nat) => u.withHost (s.host.join
        (s.noticeOf .transferResult q.lastId code second reason))
      let online := fun (u : State) => { u with
        seq := { s.seq with
          state := .online, prior := none, planned := none, pending := false, syncAt := none
          xfer := none, retransferAt := none }
        outs := { u.outs with xferByp := false, xferInv := false, mbsPermit := false } }
      (s.seq.superseded = true → s.report q f = result
          (s.withSeq { s.seq with pending := false, superseded := false }) 11 f.outcome.code f.first)
      ∧ (s.seq.superseded = false → f.outcome = .granted → s.phase.lock = 4 → s.seq.bypOk = true →
          s.report q f = { s with
            seq := { s.seq with
              state := .transferOut, pending := false, retransferAt := none
              xfer := some ⟨.out, .sync, false, s.now, s.now + s.cfg.confirmTimeout⟩ }
            outs := { s.outs with xferByp := true, xferInv := false, mbsPermit := false } })
      ∧ (s.seq.superseded = false → f.outcome = .granted →
          s.phase.lock ≠ 4 ∨ s.seq.bypOk = false →
          s.report q f = result (online (s.release WKind.isCabinet)) 10 0 0)
      ∧ (s.seq.superseded = false → f.outcome ≠ .granted →
          s.report q f = result (online s) f.outcome.code f.second f.reason))
    ∧ (∀ v, q.requester = .visit → s.visit.current = some v → v.admitting = true →
      let opened := { v with admitting := false }
      (f.outcome = .granted → v.givenUp = false → s.report q f = { s with
        visit := { s.visit with current := some opened }
        outs := { s.outs with mbsPermit := s.seq.state.onStatic && v.scope == .cabinet }
        host := s.host.join
          (s.noticeOf .visitOpened v.visitId v.scope.code (v.tech / 1000 : Nat) v.planned) })
      ∧ (f.outcome ≠ .granted ∨ v.givenUp = true → s.report q f = { s with
          visit := { s.visit with
            current := none
            history := (if s.visit.history.length < 8 then s.visit.history
              else s.visit.history.tail) ++ [⟨v, s.now, some (f.outcome, v.givenUp)⟩] }
          outs := { s.outs with mbsPermit := false }
          host := s.host.join (s.noticeOf .visitNotAdmitted v.visitId f.outcome.code f.second
            (if v.givenUp then 12 else f.reason : Nat)) }))

/-- A withdrawal that is not forced becomes ACTIVE in its owner's list only when a claim for it has
returned with no objection, visited by every peer PRESENT in the owner's view and by at least quorum − 1
peers. -/
def Obligations.ActiveOnlyByReturn : Prop :=
  ∀ (i : Instr) (s t : State) (w : Withdrawal), s.listOk = true → exec i s = .next t →
    w ∈ t.claims.list → w.owner = t.own → w.active = true → w.forced = false →
    (∀ x ∈ s.claims.list, x.owner = w.owner → x.claimId ≠ w.claimId) →
    ∃ (p : Port) (b : List Byte) (rest : List (List Byte)) (q : Request) (tag d : Nat),
      i = .frameCompleted p ∧ s.meets p b rest ∧ frOrigin b = s.own
      ∧ frameKindOf (byteAt b 0) = some .claim ∧ s.claims.slot = .inFlight q w.claimId tag d
      ∧ frTag b = tag ∧ q.givenUp = false ∧ w.kind = q.kind ∧ w.scope = q.scope
      ∧ claimObjections b = 0
      ∧ (∀ n ∈ s.peerNumbers, (s.peer n).state = .present → maskHas (frVisited b) n = true)
      ∧ s.cfg.quorum ≤ maskCount (frVisited b) + 1

/-! ### The transfer sequencer -/

/-- REQ_BYPASS, examined in the order of R102: an accepted one waits in SYNC_WAIT with the sync
timer, and readiness is tested at once. Readiness hands the claim unit the BYPASS request, and BUSY
or a refusal ends the wait with TRANSFER_RESULT. The choices of the model that it rests on are logs
14, 15 and 27. -/
def Obligations.ReqBypassAndReadiness : Prop :=
  (∀ (r : List Byte) (s : State), s.takes .reqBypass r → s.startup.state = .joined →
    s.marginOk = true →
    let m := arg16 r 0
    let replies := fun (c : ReplyCode) (b : List Byte) =>
      exec .reqBypass s = .next (s.repliedOnly r c b)
    if m < 1 ∨ 1440 < m then replies .badArg (le8 1)
    else if s.dog.stage = .hostStale ∨ s.dog.stage = .unsupervised then
      replies .stale (le8 s.dog.stage.code)
    else if s.seq.state ≠ .online then replies .badState (le8 1)
    else if s.job.state ≠ .idle then replies .badState (le8 8)
    else if s.claims.slot ≠ .free then replies .busy []
    else
      let u : State := { s with
        statusDue := false
        seq := { s.seq with
          state := .syncWait, planned := some m, syncAt := some (s.now + s.cfg.syncTimeout * 1000)
          xfer := none, retransferAt := none }
        outs := { s.outs with xferByp := false, xferInv := false, mbsPermit := false } }
      exec .reqBypass s = .next (u.testReady.withHost
        { u.testReady.host with slot := replyTo r .accepted [] }))
  ∧ (∀ s : State, s.startup.state = .joined →
      let online : State := { s with
        seq := { s.seq with
          state := .online, prior := none, planned := none, syncAt := none, xfer := none
          retransferAt := none }
        outs := { s.outs with xferByp := false, xferInv := false, mbsPermit := false } }
      let ends := fun (code reason : Nat) =>
        online.withHost (s.host.join (s.noticeOf .transferResult 0 code 0 reason))
      (s.seq.state ≠ .syncWait ∨ s.phase.lock ≠ 4 ∨ s.seq.bypOk = false → s.testReady = s)
      ∧ (s.seq.state = .syncWait → s.phase.lock = 4 → s.seq.bypOk = true →
          (s.claims.slot ≠ .free → s.testReady = ends 9 0)
          ∧ (s.claims.slot = .free → ∀ x, s.localCheck ⟨s.own, .bypass, .cabinet⟩ = some x →
              s.testReady = ends 8 x.code)
          ∧ (s.claims.slot = .free → s.localCheck ⟨s.own, .bypass, .cabinet⟩ = none →
              let t := s.testReady
              let id := s.newClaimId
              let m := s.seq.planned.getD 0
              t.seq = { s.seq with
                state := .claiming, pending := true, syncAt := none, xfer := none
                retransferAt := none }
              ∧ t.claims.lastId = id
              ∧ t.claims.slot = .inFlight ⟨.sequencer, .bypass, .cabinet, m, 0, false, id⟩ id
                  t.loop.tagCounter (s.now + s.cfg.claimTimeout)
              ∧ (s.loop.queue.length < 8 → t.sends .claim id (le8 id ++ le8 17 ++ le16 m
                  ++ s.ownCore.bytes ++ le16 0 ++ le8 0 ++ le8 0))
              ∧ s.ChangesOnly [.requests, .lamp, .sequencer, .claimIds, .slot, .ownQueue] t)))

/-- REQ_RETURN, examined in the order of R107: an accepted one stores the present state, asserts
XFER_INV_REQ and starts the transfer timer, in mode SYNC under lock and BREAK without. The choices
of the model that it rests on are logs 14 and 15. -/
def Obligations.ReqReturn : Prop :=
  ∀ (r : List Byte) (s : State), s.takes .reqReturn r → s.startup.state = .joined →
    s.marginOk = true →
    let replies := fun (c : ReplyCode) (b : Nat) =>
      exec .reqReturn s = .next (s.repliedOnly r c (le8 b))
    let starts := fun (mode : XferMode) (code : Nat) => exec .reqReturn s = .next { s with
      statusDue := false
      seq := { s.seq with
        state := .transferIn, prior := some s.seq.state, retransferAt := none
        xfer := some ⟨.into, mode, mode == .brk, s.now, s.now + s.cfg.confirmTimeout⟩ }
      outs := { s.outs with xferByp := false, xferInv := true, mbsPermit := false }
      host := { s.host with slot := replyTo r .accepted (le8 code) } }
    if 1 < arg8 r 0 then replies .badArg 1
    else if s.dog.stage = .hostStale ∨ s.dog.stage = .unsupervised then
      replies .stale s.dog.stage.code
    else if s.seq.state ≠ .onBypass ∧ s.seq.state ≠ .forced ∧ s.seq.state ≠ .latched then
      replies .badState 0
    else if s.pins.invOk = false then replies .refused 10
    else if s.phase.lock = 4 then starts .sync 1
    else if arg8 r 0 = 1 ∧ s.seq.bypOk = false then starts .brk 2
    else replies .refused 11

/-- A rise of SS_FB: `found` in the start window, the completion of TRANSFER_OUT, a forced transfer
in ONLINE, SYNC_WAIT and CLAIMING, nothing more elsewhere. The choices of the model that it rests on
are logs 14 and 20. -/
def Obligations.SwitchToBypass : Prop :=
  ∀ s : State, s.running = true → s.pins.ssFb = false →
    let line : State := { s with statusDue := false, pins := { s.pins with ssFb := true } }
    (s.startup.state = .loading ∨ s.startup.state = .configFault →
      exec .ssFbRise s = .next line)
    ∧ (s.startup.state = .startWindow → exec .ssFbRise s = .next (line.withSeq { s.seq with
        found := if s.pins.mbsClosed then .maintBypass else .bypass }))
    ∧ (s.startup.state = .joined → s.marginOk = true →
        s.seq.state ∈ [SeqState.onBypass, .forced, .latched, .maint, .transferIn] →
        exec .ssFbRise s = .next line)
    ∧ (∀ x, s.startup.state = .joined → s.seq.state = .transferOut → s.seq.xfer = some x →
        s.pins.mbsClosed = false → exec .ssFbRise s = .next (s.ends { line with
          seq := { s.seq with state := .onBypass, prior := none, xfer := none, retransferAt := none }
          outs := { s.outs with
            xferByp := false, xferInv := false, mbsPermit := s.cabinetVisitOpen }
          host := s.host.join (s.noticeOf .transferDone s.cabinetId 1 (s.now - x.since : Nat) 5) }))
    ∧ (s.startup.state = .joined → s.seq.state ∈ [SeqState.online, .syncWait, .claiming] →
        s.pins.mbsClosed = false → s.ownOfClass WKind.isCabinet = none →
        let recent := s.seq.history.filter (fun t => decide (s.now - t ≤ 3600000))
        let h := (if recent.length < 4 then recent else recent.tail) ++ [s.now]
        let latches := h.length = 4
        let id := s.newClaimId
        ∃ t, exec .ssFbRise s = .next t
          ∧ t.pins = line.pins ∧ t.seq.history = h ∧ t.seq.planned = none ∧ t.seq.prior = none
          ∧ t.seq.state = (if latches then .latched else .forced)
          ∧ t.seq.retransferAt = (if ¬ latches ∧ s.pins.invOk = true ∧ s.phase.lock = 4
              then some (s.now + s.cfg.retransferDelay * 1000) else none)
          ∧ (s.seq.state = .syncWait → t.seq.syncAt = none)
          ∧ (∀ q j tag d, s.seq.state = .claiming → s.claims.slot = .inFlight q j tag d →
              q.requester = .sequencer → t.seq.superseded = true
              ∧ t.claims.slot = .inFlight { q with givenUp := true } j tag d)
          ∧ (∀ q d, s.seq.state = .claiming → s.claims.slot = .retryWait q d →
              q.requester = .sequencer →
              t.seq.superseded = false ∧ t.seq.pending = false ∧ t.claims.slot = .free)
          ∧ t.outs.xferByp = false ∧ t.outs.xferInv = false
          ∧ ⟨s.own, id, .bypass, .cabinet, true, true, false, none, s.now, false⟩ ∈ t.claims.list
          ∧ (s.loop.queue.length < 8 → t.sends .forced id (le8 id ++ le8 17 ++ [0#8]))
          ∧ (s.job.state = .running → t.job.state = .idle)
          ∧ (∀ x l, s.job.state = .running → s.strings[s.job.k]? = some x → x.lastTest = some l →
              ∃ y l', t.strings[s.job.k]? = some y ∧ y.lastTest = some l'
                ∧ l'.verdict = some .abortedBypass ∧ y.state = .inService)
          ∧ (s.job.state = .idle → s.seq.state ≠ .claiming →
              s.raised ((if s.seq.state = .syncWait
                  then [s.noticeOf .transferResult 0 11 0 0] else [])
                ++ [s.noticeOf (if latches then .bypassLatched else .forcedBypass) id h.length
                  s.seq.state.code 1]) t)
          ∧ s.ChangesOnly ([.pins, .requests, .lamp, .sequencer, .withdrawals, .claimIds, .slot]
              ++ s.eventEnd) t)

/-- A fall of SS_FB: `found` in the start window, the completion of TRANSFER_IN, an unexpected
return in ON_BYPASS, FORCED and LATCHED, nothing more elsewhere. The choices of the model that it
rests on are log 14. -/
def Obligations.SwitchToInverter : Prop :=
  ∀ s : State, s.running = true → s.pins.ssFb = true →
    let line : State := { s with statusDue := false, pins := { s.pins with ssFb := false } }
    let returned := fun (n : Notice) =>
      let u := line.release WKind.isCabinet
      exec .ssFbFall s = .next (s.ends { u with
        seq := { s.seq with
          state := .online, prior := none, planned := none, syncAt := none, xfer := none
          retransferAt := none }
        outs := { s.outs with xferByp := false, xferInv := false, mbsPermit := false }
        host := s.host.join n })
    (s.startup.state = .loading ∨ s.startup.state = .configFault →
      exec .ssFbFall s = .next line)
    ∧ (s.startup.state = .startWindow → exec .ssFbFall s = .next (line.withSeq { s.seq with
        found := if s.pins.mbsClosed then .maintBypass else .inverter }))
    ∧ (s.startup.state = .joined → s.marginOk = true →
        s.seq.state ∈ [SeqState.online, .syncWait, .claiming, .transferOut, .maint] →
        exec .ssFbFall s = .next line)
    ∧ (∀ x, s.startup.state = .joined → s.seq.state = .transferIn → s.seq.xfer = some x →
        returned (s.noticeOf .transferDone s.cabinetId 2 (s.now - x.since : Nat) 1))
    ∧ (s.startup.state = .joined → s.seq.state ∈ [SeqState.onBypass, .forced, .latched] →
        returned (s.noticeOf .unexpectedReturn s.cabinetId s.seq.state.code 0 0))

/-- The maintenance bypass closing and opening: the cabinet entry becomes MAINT, sanctioned by an
OPEN CABINET visit or marked, announced and noticed; closed on inverter it is a forced withdrawal;
opened, it goes back to the state before, or to ONLINE with the entry released where SS_FB reads 0.
The choices of the model that it rests on are logs 14 and 20. -/
def Obligations.MaintenanceBypass : Prop :=
  ∀ (w : Withdrawal) (s : State), s.running = true →
    let shut : State := { s with statusDue := false, pins := { s.pins with mbsClosed := true } }
    let opened : State := { s with statusDue := false, pins := { s.pins with mbsClosed := false } }
    let mine := fun (x : Withdrawal) => x.owner == s.own && x.claimId == w.claimId
    let acted := fun (k : ActionKind) => { s.visit with current := s.visit.current.map (fun v =>
      if v.actions.length < 16 then
        { v with actions := v.actions ++ [⟨k, none, s.now, w.claimId⟩] }
      else { v with actionsLost := true }) }
    (s.pins.mbsClosed = false →
      (s.startup.state = .loading ∨ s.startup.state = .configFault →
        exec .mbsClosedRise s = .next shut)
      ∧ (s.startup.state = .startWindow → exec .mbsClosedRise s
          = .next (shut.withSeq { s.seq with found := .maintBypass }))
      ∧ (s.startup.state = .joined → s.marginOk = true → s.seq.state = .maint →
          exec .mbsClosedRise s = .next shut)
      ∧ (s.startup.state = .joined → s.seq.state ∈ [SeqState.onBypass, .forced, .latched] →
          s.ownOfClass WKind.isCabinet = some w →
          (s.cabinetVisitOpen = true → exec .mbsClosedRise s = .next (s.ends { shut with
            statusDue := true
            seq := { s.seq with
              state := .maint, prior := some s.seq.state, xfer := none, retransferAt := none }
            outs := { s.outs with xferByp := false, xferInv := false, mbsPermit := false }
            claims := { s.claims with list := s.claims.list.map (fun x =>
              if mine x then { x with kind := .maint } else x) }
            visit := acted .maintEntered }))
          ∧ (s.cabinetVisitOpen = false → s.cabinetOk = true → s.pairsOk = true →
              ∃ t, exec .mbsClosedRise s = .next t
              ∧ t.seq = { s.seq with
                state := .maint, prior := some s.seq.state, xfer := none, retransferAt := none }
              ∧ (∃ x ∈ t.claims.list, x = { w with kind := .maint, unsanctioned := true })
              ∧ (s.loop.queue.length < 8 →
                  t.sends .forced w.claimId (le8 w.claimId ++ le8 33 ++ [1#8]))
              ∧ s.raised [s.noticeOf .unsanctionedMaint w.claimId s.seq.state.code 0 0] t
              ∧ s.ChangesOnly ([.pins, .requests, .lamp, .sequencer, .withdrawals] ++ s.eventEnd)
                  t))
      ∧ (s.startup.state = .joined → s.seq.state = .transferIn →
          s.ownOfClass WKind.isCabinet = some w → ∃ t, exec .mbsClosedRise s = .next t
            ∧ t.seq.state = .maint ∧ t.seq.prior = some (s.seq.prior.getD .forced)
            ∧ t.seq.xfer = none ∧ t.outs.xferInv = false
            ∧ (∃ x ∈ t.claims.list, x.owner = s.own ∧ x.claimId = w.claimId ∧ x.kind = .maint)
            ∧ s.raised [s.noticeOf .transferFault w.claimId 2 4 8] t
            ∧ s.ChangesOnly ([.pins, .requests, .lamp, .sequencer, .withdrawals, .visits]
                ++ s.eventEnd) t)
      ∧ (s.startup.state = .joined →
          s.seq.state ∈ [SeqState.online, .syncWait, .claiming, .transferOut] →
          ∃ t, exec .mbsClosedRise s = .next t
            ∧ t.seq.state = .maint ∧ t.seq.prior = some .forced ∧ t.seq.history = s.seq.history
            ∧ t.outs.xferByp = false
            ∧ (∃ x ∈ t.claims.list, x.owner = s.own ∧ x.kind = .maint ∧ x.forced = true
                ∧ (s.cabinetVisitOpen = false → x.unsanctioned = true))
            ∧ (s.job.state = .running → t.job.state = .idle)
            ∧ (s.job.state = .idle → s.seq.state = .online → s.ownOfClass WKind.isCabinet = none →
                s.raised [s.noticeOf .forcedBypass s.newClaimId s.seq.history.length 1 2] t)
            ∧ s.ChangesOnly ([.pins, .requests, .lamp, .sequencer, .withdrawals, .claimIds, .slot,
                .visits] ++ s.eventEnd) t))
    ∧ (s.pins.mbsClosed = true →
      (s.startup.state = .loading ∨ s.startup.state = .configFault →
        exec .mbsClosedFall s = .next opened)
      ∧ (s.startup.state = .startWindow → exec .mbsClosedFall s
          = .next (opened.withSeq { s.seq with
              found := if s.pins.ssFb then .bypass else .inverter }))
      ∧ (s.startup.state = .joined → s.marginOk = true → s.seq.state ≠ .maint →
          exec .mbsClosedFall s = .next opened)
      ∧ (∀ back, s.startup.state = .joined → s.seq.state = .maint → s.seq.prior = some back →
          back ∈ [SeqState.onBypass, .forced, .latched] → s.ownOfClass WKind.isCabinet = some w →
          let visit := if s.cabinetVisitOpen then acted .maintLeft else s.visit
          (s.pins.ssFb = true → exec .mbsClosedFall s = .next (s.ends { opened with
            statusDue := true
            seq := { s.seq with
              state := back, prior := none, xfer := none
              retransferAt := if back = .forced ∧ s.pins.invOk = true ∧ s.phase.lock = 4
                then some (s.now + s.cfg.retransferDelay * 1000) else none }
            outs := { s.outs with
              xferByp := false, xferInv := false, mbsPermit := s.cabinetVisitOpen }
            claims := { s.claims with list := s.claims.list.map (fun x =>
              if mine x then { x with kind := .bypass, unsanctioned := false } else x) }
            visit := visit }))
          ∧ (s.pins.ssFb = false →
              let u := opened.release WKind.isCabinet
              exec .mbsClosedFall s = .next (s.ends { u with
                seq := { s.seq with
                  state := .online, prior := none, planned := none, syncAt := none, xfer := none
                  retransferAt := none }
                outs := { s.outs with xferByp := false, xferInv := false, mbsPermit := false }
                visit := visit
                host := s.host.join (s.noticeOf .transferDone w.claimId 2 0 1) }))))

/-- INV_OK, the lock re-check and the sequencer's timers: the retransfer timer runs in FORCED while
INV_OK and the lock hold; a TRANSFER_IN fails back to `prior` and a TRANSFER_OUT to ONLINE with the
entry released, each with TRANSFER_FAULT; the retransfer timer starts a return, the sync timer ends
the wait. The choices of the model that it rests on are logs 14 and 42. -/
def Obligations.SequencerTimersAndFaults : Prop :=
  ∀ s : State, s.running = true → s.startup.state = .joined →
    let delay := s.now + s.cfg.retransferDelay * 1000
    let runs := fun (inv : Bool) => s.seq.state = .forced ∧ inv = true ∧ s.phase.lock = 4
    let timer := fun (inv : Bool) =>
      if runs inv then some (s.seq.retransferAt.getD delay) else none
    let quiet : State := s.withStatusDue false
    let failsIn := fun (back : SeqState) (inv : Bool) (cause : Nat) (u : State) => { u with
      seq := { s.seq with
        state := back, prior := none, xfer := none
        retransferAt := if back = .forced ∧ inv = true ∧ s.phase.lock = 4 then some delay else none }
      outs := { s.outs with xferByp := false, xferInv := false, mbsPermit := s.cabinetVisitOpen }
      host := s.host.join (s.noticeOf .transferFault s.cabinetId 2 cause back.code) }
    let failsOut := fun (cause : Nat) (u : State) => { u.release WKind.isCabinet with
      seq := { s.seq with
        state := .online, prior := none, planned := none, syncAt := none, xfer := none
        retransferAt := none }
      outs := { s.outs with xferByp := false, xferInv := false, mbsPermit := false }
      host := s.host.join (s.noticeOf .transferFault s.cabinetId 1 cause 1) }
    (s.pins.invOk = false → s.marginOk = true → exec .invOkRise s = .next { s with
        statusDue := false
        pins := { s.pins with invOk := true }
        seq := { s.seq with retransferAt := timer true } })
    ∧ (s.pins.invOk = true → s.marginOk = true →
        (s.seq.state ≠ .transferIn → exec .invOkFall s = .next { s with
          statusDue := false
          pins := { s.pins with invOk := false }
          seq := { s.seq with retransferAt := none } })
        ∧ (∀ back, s.seq.state = .transferIn → s.seq.prior = some back →
            back ∈ [SeqState.onBypass, .forced, .latched] → exec .invOkFall s
              = .next (failsIn back false 3
                { quiet with pins := { s.pins with invOk := false } })))
    ∧ ((∃ d, s.seq.retransferAt = some d ∧ d ≤ s.now) → s.seq.state = .forced → s.marginOk = true →
        exec .autoRetransfer s = .next { s with
          statusDue := false
          seq := { s.seq with
            state := .transferIn, prior := some .forced, retransferAt := none
            xfer := some ⟨.into, .sync, false, s.now, s.now + s.cfg.confirmTimeout⟩ }
          outs := { s.outs with xferByp := false, xferInv := true, mbsPermit := false }
          host := s.host.join
            (s.noticeOf .autoRetransfer s.cabinetId s.cfg.retransferDelay s.phase.angle 0) })
    ∧ ((∃ d, s.seq.syncAt = some d ∧ d ≤ s.now) → s.seq.state = .syncWait → s.marginOk = true →
        exec .syncFail s = .next { s with
          statusDue := false
          seq := { s.seq with
            state := .online, prior := none, planned := none, syncAt := none, xfer := none
            retransferAt := none }
          outs := { s.outs with xferByp := false, xferInv := false, mbsPermit := false }
          host := s.host.join (s.noticeOf .syncFail 0 (if s.phase.lock = 4 then 1 else 0)
            (if s.seq.bypOk then 1 else 0) s.phase.angle) })
    ∧ (∀ x, s.seq.xfer = some x → x.expiresAt ≤ s.now →
        (∀ back, s.seq.state = .transferIn → s.seq.prior = some back →
          back ∈ [SeqState.onBypass, .forced, .latched] → s.marginOk = true →
          exec .confirmTimeout s = .next (failsIn back s.pins.invOk 1 quiet))
        ∧ (s.seq.state = .transferOut →
            exec .confirmTimeout s = .next (s.ends (failsOut 1 quiet))))
    ∧ (s.seq.xfer = none → s.lockRecheck
        = s.withSeq { s.seq with retransferAt := timer s.pins.invOk })
    ∧ (∀ x, s.seq.xfer = some x →
        (x.held = true → s.lockRecheck = s)
        ∧ (x.held = false → s.phase.lock = 4 →
            s.lockRecheck = s.withSeq { s.seq with xfer := some { x with held := true } })
        ∧ (x.held = false → s.phase.lock ≠ 4 → s.seq.state = .transferOut →
            s.lockRecheck = failsOut 2 s)
        ∧ (∀ back, x.held = false → s.phase.lock ≠ 4 → s.seq.state = .transferIn →
            s.seq.prior = some back → back ∈ [SeqState.onBypass, .forced, .latched] →
            s.lockRecheck = failsIn back s.pins.invOk 2 s))

/-! ### Visits -/

/-- OPEN_VISIT, examined in the order of R126. A CABINET visit is open at once and lights the lamp
on bypass; a STRING visit is admitted by a SERVICE claim that goes out. The choices of the model
that it rests on are logs 14, 15, 20 and, for the order in which the arguments are examined, log 52. -/
def Obligations.OpenVisit : Prop :=
  ∀ (r : List Byte) (s : State), s.takes .openVisit r → s.startup.state = .joined →
    s.marginOk = true →
    let tech := arg32 r 0
    let k := arg8 r 5
    let planned := arg16 r 6
    let id := if 65535 ≤ s.visit.counter then 1 else s.visit.counter + 1
    let record := fun (scope : Scope) (admitting : Bool) =>
      (⟨id, tech, scope, planned, s.now, admitting, false, .none, [], false, false⟩ : Visit)
    let replies := fun (c : ReplyCode) (b : List Byte) =>
      exec .openVisit s = .next (s.repliedOnly r c b)
    if tech < 1 ∨ 999999 < tech then replies .badArg (le8 1)
    else if arg8 r 4 ≠ 1 ∧ arg8 r 4 ≠ 2 then replies .badArg (le8 2)
    else if arg8 r 4 = 2 ∧ s.strings.length ≤ k then replies .badArg (le8 3)
    else if planned < 15 ∨ 1440 < planned then replies .badArg (le8 4)
    else if s.dog.stage = .hostStale ∨ s.dog.stage = .unsupervised then
      replies .stale (le8 s.dog.stage.code)
    else if s.pins.keyOn = false then replies .badState (le8 9)
    else if s.visit.current ≠ none then replies .busy []
    else if arg8 r 4 = 1 then exec .openVisit s = .next (s.ends { s with
      statusDue := false
      visit := { s.visit with counter := id, current := some (record .cabinet false) }
      outs := { s.outs with mbsPermit := s.seq.state.onStatic }
      host := { s.host.join (s.noticeOf .visitOpened id 1 (tech / 1000 : Nat) planned) with
        slot := replyTo r .ok (le16 id) } })
    else if (s.strings[k]?.map (fun x => x.state)) = some .test then replies .badState (le8 10)
    else if s.claims.slot ≠ .free then replies .busy []
    else match s.localCheck ⟨s.own, .service, .string k⟩ with
      | some x => replies .refused (le8 x.code)
      | none => ∃ t, exec .openVisit s = .next t
          ∧ t.visit = { s.visit with counter := id, current := some (record (.string k) true) }
          ∧ t.claims.lastId = s.newClaimId
          ∧ t.claims.slot = .inFlight
              ⟨.visit, .service, .string k, planned, 0, false, s.newClaimId⟩ s.newClaimId
              t.loop.tagCounter (s.now + s.cfg.claimTimeout)
          ∧ t.host.slot = replyTo r .accepted (le16 id ++ le8 s.newClaimId)
          ∧ (s.loop.queue.length < 8 → t.sends .claim s.newClaimId
              (le8 s.newClaimId ++ le8 (64 + 4 + k) ++ le16 planned ++ s.ownCore.bytes
                ++ le16 0 ++ le8 0 ++ le8 0))
          ∧ s.ChangesOnly [.visits, .claimIds, .slot, .command, .ownQueue] t

/-- The four visit actions, examined in the order of R134: ISOLATE and RESTORE move the string of
the visit's scope, RESTORE with its capture baseline dropped, REPLACE renews the record of an ISOLATED
one, NOTE changes nothing else; each that passes is recorded, and the reply carries the number of actions
held. The choices of the model that it rests on are logs 6, 14, 15 and 52. -/
def Obligations.VisitActions : Prop :=
  ∀ (row : Instr) (r : List Byte) (s : State), s.takes row r →
    row ∈ [Instr.isolate, .replace, .restore, .note] → s.startup.state = .joined →
    s.marginOk = true →
    let tech := arg32 r 0
    let k := arg8 r 5
    let p := s.params k
    let need : StringState := if row = .isolate then .inService else .isolated
    let replies := fun (c : ReplyCode) (b : List Byte) => exec row s = .next (s.repliedOnly r c b)
    if tech < 1 ∨ 999999 < tech then replies .badArg (le8 1)
    else if row = .note ∧ arg8 r 4 ≠ 4 then replies .badArg (le8 2)
    else if row ≠ .note ∧ s.strings.length ≤ k then replies .badArg (le8 3)
    else match s.visit.current with
      | none => replies .badState (le8 7)
      | some v =>
        let recorded := fun (kind : ActionKind) (string : Option Nat) (new : List StringRec)
            (due : Bool) => exec row s = .next (s.ends { s with
              statusDue := due
              strings := new
              visit := { s.visit with current := some { v with
                actions := v.actions ++ [⟨kind, string, s.now, arg16 r 6⟩] } }
              host := { s.host.joinAll (s.classNotices new) with
                slot := replyTo r .ok (le8 (v.actions.length + 1)) } })
        if v.admitting = true then replies .badState (le8 7)
        else if s.pins.keyOn = false then replies .badState (le8 9)
        else if tech ≠ v.tech then replies .mismatch []
        else if 16 ≤ v.actions.length then replies .full []
        else if row = .note then recorded .note none s.strings false
        else if v.scope ≠ .string k then replies .badState (le8 11)
        else ∀ x, s.strings[k]? = some x →
          if x.state ≠ need then replies .badState (le8 3)
          else
            (row = .isolate → recorded .isolated (some k)
              (s.strings.set k { x with state := .isolated, eAvail := 0 }) true)
            ∧ (row = .restore → recorded .restored (some k)
              (s.strings.set k { x with
                state := .inService
                eAvail := availOf s.hostSilent { x with state := .inService }
                baseline := none }) true)
            ∧ (row = .replace → recorded .replaced (some k)
              (s.strings.set k ({ x with
                aCal := 0, tDah := 0, tRem := 0, deepCount := 0, dischEvents := 0
                dischSeconds := 0, dischMs := 0, captureRejects := 0, resList := [], rRef := none
                testCap := none, lastTest := none, ageUnknown := false, q := 0, rem := 0
                fDay := 256 }.recompute p s.hostSilent)) false)

/-- CLOSE_VISIT, examined in the order of R141: a visit that is ADMITTING is given up; one that is
OPEN closes unless its string is ISOLATED or the cabinet in MAINT, and goes to the history of eight.
The choices of the model that it rests on are logs 15, 20, 26, 42 and 45. -/
def Obligations.CloseVisit : Prop :=
  ∀ (r : List Byte) (s : State), s.takes .closeVisit r → s.startup.state = .joined →
    s.marginOk = true →
    let tech := arg32 r 0
    let replies := fun (c : ReplyCode) (b : List Byte) =>
      exec .closeVisit s = .next (s.repliedOnly r c b)
    if tech < 1 ∨ 999999 < tech then replies .badArg (le8 1)
    else match s.visit.current with
      | none => replies .badState (le8 7)
      | some v =>
        let minutes := (s.now - v.openedMs) / 60000
        let history := fun (c : ClosedVisit) =>
          (if s.visit.history.length < 8 then s.visit.history else s.visit.history.tail) ++ [c]
        let closed := fun (u : State) => exec .closeVisit s = .next (s.ends { u with
          visit := { s.visit with current := none, history := history ⟨v, s.now, none⟩ }
          outs := { s.outs with mbsPermit := false }
          host := { s.host.join (s.noticeOf .visitClosed v.visitId v.actions.length
              (if v.actionsLost then 1 else 0) minutes) with
            slot := replyTo r .ok (le16 v.visitId) } })
        if s.pins.keyOn = false then replies .badState (le8 9)
        else if tech ≠ v.tech then replies .mismatch []
        else if v.admitting = true then
          (v.givenUp = true → replies .badState (le8 0))
          ∧ (∀ q id tag d, v.givenUp = false → s.claims.slot = .inFlight q id tag d →
              q.requester = .visit → q.givenUp = false → exec .closeVisit s = .next { s with
                statusDue := false
                visit := { s.visit with current := some { v with givenUp := true } }
                claims := { s.claims with slot := .inFlight { q with givenUp := true } id tag d }
                host := { s.host with slot := replyTo r .ok [] } })
          ∧ (∀ q d, v.givenUp = false → s.claims.slot = .retryWait q d → q.requester = .visit →
              s.admissionOk = true → exec .closeVisit s = .next { s with
                statusDue := false
                visit := { s.visit with
                  current := none
                  history := history ⟨{ v with givenUp := true }, s.now, some (.abandoned, true)⟩ }
                outs := { s.outs with mbsPermit := false }
                claims := { s.claims with slot := .free }
                host := { s.host.join (s.noticeOf .visitNotAdmitted v.visitId 7 0 12) with
                  slot := replyTo r .ok [] } })
        else match v.scope with
          | .cabinet => if s.seq.state = .maint then replies .badState (le8 13)
              else closed (s.withStatusDue false)
          | .string k =>
            if (s.strings[k]?.map (fun x => x.state)) = some .isolated then
              replies .badState (le8 12)
            else closed ((s.withStatusDue false).release WKind.isService)

/-- The service key leaving and coming back, and the two overdue levels of an OPEN visit, each with
its notice. The choices of the model that it rests on are logs 14 and 16. -/
def Obligations.KeyAndOverdueLevels : Prop :=
  ∀ s : State, s.running = true → s.startup.state = .joined → s.marginOk = true →
    let key := fun (b : Bool) => ({ s with
      statusDue := false, pins := { s.pins with keyOn := b } } : State)
    (s.visit.current = none → (s.pins.keyOn = true → exec .keyOnFall s = .next (key false))
      ∧ (s.pins.keyOn = false → exec .keyOnRise s = .next (key true)))
    ∧ (∀ v, s.visit.current = some v →
      let phase : Int := if v.admitting then 1 else 2
      let minutes := (s.now - v.openedMs) / 60000
      (s.pins.keyOn = true → exec .keyOnFall s = .next { key false with
        visit := { s.visit with current := some { v with keyOut := true } }
        host := s.host.join
          (s.noticeOf .keyRemoved v.visitId phase minutes v.actions.length) })
      ∧ (s.pins.keyOn = false → v.keyOut = true → exec .keyOnRise s = .next { key true with
          visit := { s.visit with current := some { v with keyOut := false } }
          host := s.host.join
            (s.noticeOf .keyReturned v.visitId phase minutes v.actions.length) })
      ∧ (s.pins.keyOn = false → v.keyOut = false → exec .keyOnRise s = .next (key true))
      ∧ (v.admitting = false → v.overdue = .none → v.openedMs + v.planned * 60000 ≤ s.now →
          exec .visitOverdue s = .next (s.ends { s with
            statusDue := false
            visit := { s.visit with current := some { v with overdue := .overdue } }
            host := s.host.join
              (s.noticeOf .visitOverdue v.visitId v.scope.code v.planned 1) }))
      ∧ (v.admitting = false → v.overdue = .overdue → v.openedMs + 2 * v.planned * 60000 ≤ s.now →
          exec .visitLong s = .next (s.ends { s with
            statusDue := false
            visit := { s.visit with current := some { v with overdue := .long } }
            host := s.host.join
              (s.noticeOf .visitLong v.visitId v.scope.code v.planned 2) })))

/-! ### Phase capture -/

/-- An edge of a zero-crossing line: the period is the difference of the captures modulo 65536
unless the last edge lies a full count back, and the frequency is valid within both its ranges. From
START_WINDOW on an edge of the bypass is a cycle: the angle of the inverter's last edge, and the
lock count of good cycles. A second wrap without an edge ends a line and the lock. A change of the
bypass frequency's validity re-forms BYP_OK and tests readiness; in JOINED each cycle, and each wrap that
ends a line, is a re-check of the lock in the sequencer, and a lock gained tests readiness, in every state
of the sequencer. The choices of the model that it rests on are log 2. -/
def Obligations.PhaseCapture : Prop :=
  (∀ (c : Nat) (z : ZcLine),
    (z.tLast = none → z.edge c = { z with tLast := some c, wraps := 0 })
    ∧ (∀ t, z.tLast = some t → z.wraps = 1 → t ≤ c → z.edge c = ⟨some c, none, 0, none⟩)
    ∧ (∀ t, z.tLast = some t → z.wraps ≠ 1 ∨ c < t → t < 65536 →
        let d := (c + 65536 - t) % 65536
        z.edge c = ⟨some c, some d, 0,
          if 15385 ≤ d ∧ d ≤ 22222 ∧ 4500 ≤ 100000000 / d ∧ 100000000 / d ≤ 6500
          then some (100000000 / d) else none⟩))
  ∧ (∀ s : State, s.running = true →
    let c := s.us % 65536
    let formed := fun (u : State) => (u.withSeq { u.seq with
      bypOk := u.phase.byp.freq.isSome && decide ((max u.intake.vBypass u.cfg.bypNominal
        - min u.intake.vBypass u.cfg.bypNominal) * 100 ≤ u.cfg.bypNominal * u.cfg.band)
        && u.image.isSome }).testReady
    (s.marginOk = true → exec .zcInvEdge s = .next { s with
      statusDue := false, phase := { s.phase with inv := s.phase.inv.edge c } })
    ∧ (let z := s.phase.byp.edge c
      let i := s.phase.inv
      let usable := fun (t p : Nat) =>
        (i.wraps ≠ 1 ∨ c < t) ∧ (c + 65536 - t) % 65536 < p
      let degrees := fun (t p : Nat) =>
        let a := (c + 65536 - t) % 65536 * 3600 / p
        if 1800 ≤ a then (a : Int) - 3600 else (a : Int)
      let edge : State := { s with statusDue := false, phase := { s.phase with byp := z } }
      let seen := if s.phase.byp.freq.isSome = z.freq.isSome then edge else formed edge
      (s.startup.state = .loading ∨ s.startup.state = .configFault → exec .zcBypEdge s = .next seen)
      ∧ (s.startup.state = .startWindow ∨ s.startup.state = .joined →
          ∃ (angle : Int) (good : Bool),
            let u := seen.withPhase { edge.phase with
              angle := angle, lock := if good then min 4 (s.phase.lock + 1) else 0 }
            (s.startup.state = .startWindow → exec .zcBypEdge s = .next u)
            ∧ (s.startup.state = .joined → exec .zcBypEdge s = .next (s.ends
                (if u.phase.lock = 4 ∧ s.phase.lock ≠ 4 then u.lockRecheck.testReady
                  else u.lockRecheck)))
            ∧ (s.seq.state = .online → s.seq.xfer = none → s.seq.retransferAt = none →
                s.marginOk = true → exec .zcBypEdge s = .next { s with
                  statusDue := false, phase := u.phase
                  seq := { s.seq with bypOk := if s.phase.byp.freq.isSome = z.freq.isSome
                    then s.seq.bypOk
                    else z.freq.isSome && decide ((max s.intake.vBypass s.cfg.bypNominal
                      - min s.intake.vBypass s.cfg.bypNominal) * 100
                        ≤ s.cfg.bypNominal * s.cfg.band) && s.image.isSome } })
            ∧ (∀ t p, i.tLast = some t → z.period = some p → usable t p → angle = degrees t p
                ∧ (good = true ↔ ∃ fi fb, i.freq = some fi ∧ z.freq = some fb
                    ∧ max fi fb - min fi fb ≤ s.cfg.slipMax
                    ∧ (degrees t p).natAbs ≤ s.cfg.syncWindow))
            ∧ ((i.tLast = none ∨ z.period = none
                ∨ ∃ t p, i.tLast = some t ∧ z.period = some p ∧ ¬ usable t p) →
              angle = s.phase.angle ∧ good = false)))
    ∧ (c = 65535 →
      let wrapped := fun (z : ZcLine) =>
        if z.wraps = 0 then { z with wraps := 1 }
        else if z.wraps = 1 then ⟨none, none, 2, none⟩ else z
      let ends := s.phase.inv.wraps = 1 ∨ s.phase.byp.wraps = 1
      let after : State := { s.advance with
        statusDue := false
        phase := { s.phase with
          inv := wrapped s.phase.inv, byp := wrapped s.phase.byp
          lock := if ends then 0 else s.phase.lock } }
      let seen := if s.phase.byp.wraps = 1 ∧ s.phase.byp.freq.isSome = true then formed after
        else after
      exec .phaseCounterWrap s
        = .next (s.ends (if ends ∧ s.startup.state = .joined then seen.lockRecheck else seen))
      ∧ (s.seq.state = .online → s.seq.xfer = none → s.seq.retransferAt = none →
          s.marginOk = true → (s.phase.byp.wraps = 1 → s.phase.byp.freq = none) →
          exec .phaseCounterWrap s = .next after)))

/-! ### What every step keeps -/

/-- The notice queue holds at most 32 notices, its overflow count at most 255, and NOTICE_IRQ is asserted exactly
while it holds one; each line to the power stage, DISCH_REQ and the UNSUPERVISED line are asserted exactly in
their own states. Every step keeps each of the two. -/
def Obligations.QueueAndLinesKept : Prop :=
  (∀ s t : State, s.noticesOk = true → step s = .next t → t.noticesOk = true)
  ∧ (∀ s t : State, s.linesOk = true → s.beforeJoinOk = true → step s = .next t →
      t.linesOk = true)

/-- Q lies within 0 to Q_full, SoC within 0 to 10000, and e_avail is 0 unless the string is IN_SERVICE,
measured, not END and the host not stale, and never above E_rated; every step keeps that of a machine
whose configuration is in its ranges. -/
def Obligations.StringsKept : Prop :=
  ∀ s t : State, s.configOk = true → s.stringsOk = true → step s = .next t → t.stringsOk = true

/-- From JOIN onward the figures and the margin state are those of the view as it stands; every step keeps
that. -/
def Obligations.MarginKept : Prop :=
  ∀ s t : State, s.marginOk = true → s.beforeJoinOk = true → step s = .next t → t.marginOk = true

/-- The peer view table holds sixteen entries with ABSENT ones at their reset values, the buffers of the
loop ports and the withdrawal list keep within their places; every step keeps that. Of the three
measurement buffers at most one is WRITING, at most one READY and at most one IN_USE, and one is WRITING
exactly while a MEAS_WRITE is open, the one it writes into; every step keeps that, and it holds at
reset. -/
def Obligations.TablesKept : Prop :=
  (∀ s t : State, s.tableOk = true → s.loopOk = true → s.listOk = true → s.beforeJoinOk = true →
    step s = .next t → t.tableOk = true ∧ t.loopOk = true ∧ t.listOk = true)
  ∧ (∀ s t : State, s.buffersOk = true → step s = .next t → t.buffersOk = true)
  ∧ State.reset.buffersOk = true
  ∧ (∀ s : State, s.buffersOk = true →
      let inRole := fun (r : BufferRole) => (s.intake.buffers.filter (fun b => b.role == r)).length
      s.intake.buffers.length = 3
      ∧ inRole .writing ≤ 1 ∧ inRole .ready ≤ 1 ∧ inRole .inUse ≤ 1
      ∧ (inRole .writing = 1 ↔ ∃ b, s.host.txn = some (.measWrite b))
      ∧ (∀ b, s.host.txn = some (.measWrite b) → ∃ i c, b = some i
          ∧ s.intake.buffers[i]? = some c ∧ c.role = .writing))

/-- From JOIN onward a cabinet whose SS_FB reads bypass has its own ACTIVE cabinet withdrawal, and MAINT is
sanctioned by an OPEN CABINET visit or its withdrawal is marked unsanctioned; every step keeps that. -/
def Obligations.CabinetKept : Prop :=
  ∀ s t : State, s.cabinetOk = true → s.ownersOk = true → s.pairsOk = true →
    s.beforeJoinOk = true → step s = .next t → t.cabinetOk = true

/-- A station owns at most one withdrawal of each class and at most 32 entries stand in its list, and a
string is in TEST exactly while an own ACTIVE TEST withdrawal has it as its scope; every step keeps
that. The list never holds two entries with one owner and claim id, nor an own entry with the id of the
claim in flight; every step keeps that while the claim ids have not come round within one claim's flight
(log 48), and it holds at reset. A visit that is ADMITTING is at level NONE; every step keeps that, and it
holds at reset. -/
def Obligations.OwnersKept : Prop :=
  (∀ s t : State, s.ownersOk = true → s.cabinetOk = true → s.configOk = true →
    s.beforeJoinOk = true → s.pairsOk = true → step s = .next t → t.ownersOk = true)
  ∧ (∀ s t : State, s.pairsOk = true → s.idAhead = true → s.ownersOk = true → s.cabinetOk = true →
      s.beforeJoinOk = true → step s = .next t → t.pairsOk = true)
  ∧ (∀ s t : State, s.admissionOk = true → step s = .next t → t.admissionOk = true)
  ∧ State.reset.pairsOk = true ∧ State.reset.admissionOk = true

/-- A configuration is held from START_WINDOW on, in range and with a record for each of its strings, and
before JOIN the blocks that act from JOIN on are in their reset state; every step keeps that. -/
def Obligations.BeforeJoinKept : Prop :=
  ∀ s t : State, s.configOk = true → s.beforeJoinOk = true → step s = .next t →
    t.configOk = true ∧ t.beforeJoinOk = true

end
end

