-- ==== Sys2Proof/Laws/State.lean ====
section
/-! SUPPORT. One lemma per field per update of State, each true by rfl. -/

namespace Sys2Proof.Machine

@[simp] theorem withPending_pending (s : State) (x : List Instr) : (s.withPending x).pending = x := rfl
@[simp] theorem withPending_freeCount (s : State) (x : List Instr) : (s.withPending x).freeCount = s.freeCount := rfl
@[simp] theorem withPending_statusDue (s : State) (x : List Instr) : (s.withPending x).statusDue = s.statusDue := rfl
@[simp] theorem withPending_us (s : State) (x : List Instr) : (s.withPending x).us = s.us := rfl
@[simp] theorem withPending_power (s : State) (x : List Instr) : (s.withPending x).power = s.power := rfl
@[simp] theorem withPending_pins (s : State) (x : List Instr) : (s.withPending x).pins = s.pins := rfl
@[simp] theorem withPending_outs (s : State) (x : List Instr) : (s.withPending x).outs = s.outs := rfl
@[simp] theorem withPending_startup (s : State) (x : List Instr) : (s.withPending x).startup = s.startup := rfl
@[simp] theorem withPending_image (s : State) (x : List Instr) : (s.withPending x).image = s.image := rfl
@[simp] theorem withPending_strings (s : State) (x : List Instr) : (s.withPending x).strings = s.strings := rfl
@[simp] theorem withPending_job (s : State) (x : List Instr) : (s.withPending x).job = s.job := rfl
@[simp] theorem withPending_ticks (s : State) (x : List Instr) : (s.withPending x).ticks = s.ticks := rfl
@[simp] theorem withPending_view (s : State) (x : List Instr) : (s.withPending x).view = s.view := rfl
@[simp] theorem withPending_claims (s : State) (x : List Instr) : (s.withPending x).claims = s.claims := rfl
@[simp] theorem withPending_seq (s : State) (x : List Instr) : (s.withPending x).seq = s.seq := rfl
@[simp] theorem withPending_phase (s : State) (x : List Instr) : (s.withPending x).phase = s.phase := rfl
@[simp] theorem withPending_visit (s : State) (x : List Instr) : (s.withPending x).visit = s.visit := rfl
@[simp] theorem withPending_intake (s : State) (x : List Instr) : (s.withPending x).intake = s.intake := rfl
@[simp] theorem withPending_dog (s : State) (x : List Instr) : (s.withPending x).dog = s.dog := rfl
@[simp] theorem withPending_host (s : State) (x : List Instr) : (s.withPending x).host = s.host := rfl
@[simp] theorem withPending_loop (s : State) (x : List Instr) : (s.withPending x).loop = s.loop := rfl

@[simp] theorem withFreeCount_pending (s : State) (x : Nat) : (s.withFreeCount x).pending = s.pending := rfl
@[simp] theorem withFreeCount_freeCount (s : State) (x : Nat) : (s.withFreeCount x).freeCount = x := rfl
@[simp] theorem withFreeCount_statusDue (s : State) (x : Nat) : (s.withFreeCount x).statusDue = s.statusDue := rfl
@[simp] theorem withFreeCount_us (s : State) (x : Nat) : (s.withFreeCount x).us = s.us := rfl
@[simp] theorem withFreeCount_power (s : State) (x : Nat) : (s.withFreeCount x).power = s.power := rfl
@[simp] theorem withFreeCount_pins (s : State) (x : Nat) : (s.withFreeCount x).pins = s.pins := rfl
@[simp] theorem withFreeCount_outs (s : State) (x : Nat) : (s.withFreeCount x).outs = s.outs := rfl
@[simp] theorem withFreeCount_startup (s : State) (x : Nat) : (s.withFreeCount x).startup = s.startup := rfl
@[simp] theorem withFreeCount_image (s : State) (x : Nat) : (s.withFreeCount x).image = s.image := rfl
@[simp] theorem withFreeCount_strings (s : State) (x : Nat) : (s.withFreeCount x).strings = s.strings := rfl
@[simp] theorem withFreeCount_job (s : State) (x : Nat) : (s.withFreeCount x).job = s.job := rfl
@[simp] theorem withFreeCount_ticks (s : State) (x : Nat) : (s.withFreeCount x).ticks = s.ticks := rfl
@[simp] theorem withFreeCount_view (s : State) (x : Nat) : (s.withFreeCount x).view = s.view := rfl
@[simp] theorem withFreeCount_claims (s : State) (x : Nat) : (s.withFreeCount x).claims = s.claims := rfl
@[simp] theorem withFreeCount_seq (s : State) (x : Nat) : (s.withFreeCount x).seq = s.seq := rfl
@[simp] theorem withFreeCount_phase (s : State) (x : Nat) : (s.withFreeCount x).phase = s.phase := rfl
@[simp] theorem withFreeCount_visit (s : State) (x : Nat) : (s.withFreeCount x).visit = s.visit := rfl
@[simp] theorem withFreeCount_intake (s : State) (x : Nat) : (s.withFreeCount x).intake = s.intake := rfl
@[simp] theorem withFreeCount_dog (s : State) (x : Nat) : (s.withFreeCount x).dog = s.dog := rfl
@[simp] theorem withFreeCount_host (s : State) (x : Nat) : (s.withFreeCount x).host = s.host := rfl
@[simp] theorem withFreeCount_loop (s : State) (x : Nat) : (s.withFreeCount x).loop = s.loop := rfl

@[simp] theorem withStatusDue_pending (s : State) (x : Bool) : (s.withStatusDue x).pending = s.pending := rfl
@[simp] theorem withStatusDue_freeCount (s : State) (x : Bool) : (s.withStatusDue x).freeCount = s.freeCount := rfl
@[simp] theorem withStatusDue_statusDue (s : State) (x : Bool) : (s.withStatusDue x).statusDue = x := rfl
@[simp] theorem withStatusDue_us (s : State) (x : Bool) : (s.withStatusDue x).us = s.us := rfl
@[simp] theorem withStatusDue_power (s : State) (x : Bool) : (s.withStatusDue x).power = s.power := rfl
@[simp] theorem withStatusDue_pins (s : State) (x : Bool) : (s.withStatusDue x).pins = s.pins := rfl
@[simp] theorem withStatusDue_outs (s : State) (x : Bool) : (s.withStatusDue x).outs = s.outs := rfl
@[simp] theorem withStatusDue_startup (s : State) (x : Bool) : (s.withStatusDue x).startup = s.startup := rfl
@[simp] theorem withStatusDue_image (s : State) (x : Bool) : (s.withStatusDue x).image = s.image := rfl
@[simp] theorem withStatusDue_strings (s : State) (x : Bool) : (s.withStatusDue x).strings = s.strings := rfl
@[simp] theorem withStatusDue_job (s : State) (x : Bool) : (s.withStatusDue x).job = s.job := rfl
@[simp] theorem withStatusDue_ticks (s : State) (x : Bool) : (s.withStatusDue x).ticks = s.ticks := rfl
@[simp] theorem withStatusDue_view (s : State) (x : Bool) : (s.withStatusDue x).view = s.view := rfl
@[simp] theorem withStatusDue_claims (s : State) (x : Bool) : (s.withStatusDue x).claims = s.claims := rfl
@[simp] theorem withStatusDue_seq (s : State) (x : Bool) : (s.withStatusDue x).seq = s.seq := rfl
@[simp] theorem withStatusDue_phase (s : State) (x : Bool) : (s.withStatusDue x).phase = s.phase := rfl
@[simp] theorem withStatusDue_visit (s : State) (x : Bool) : (s.withStatusDue x).visit = s.visit := rfl
@[simp] theorem withStatusDue_intake (s : State) (x : Bool) : (s.withStatusDue x).intake = s.intake := rfl
@[simp] theorem withStatusDue_dog (s : State) (x : Bool) : (s.withStatusDue x).dog = s.dog := rfl
@[simp] theorem withStatusDue_host (s : State) (x : Bool) : (s.withStatusDue x).host = s.host := rfl
@[simp] theorem withStatusDue_loop (s : State) (x : Bool) : (s.withStatusDue x).loop = s.loop := rfl

@[simp] theorem withUs_pending (s : State) (x : Nat) : (s.withUs x).pending = s.pending := rfl
@[simp] theorem withUs_freeCount (s : State) (x : Nat) : (s.withUs x).freeCount = s.freeCount := rfl
@[simp] theorem withUs_statusDue (s : State) (x : Nat) : (s.withUs x).statusDue = s.statusDue := rfl
@[simp] theorem withUs_us (s : State) (x : Nat) : (s.withUs x).us = x := rfl
@[simp] theorem withUs_power (s : State) (x : Nat) : (s.withUs x).power = s.power := rfl
@[simp] theorem withUs_pins (s : State) (x : Nat) : (s.withUs x).pins = s.pins := rfl
@[simp] theorem withUs_outs (s : State) (x : Nat) : (s.withUs x).outs = s.outs := rfl
@[simp] theorem withUs_startup (s : State) (x : Nat) : (s.withUs x).startup = s.startup := rfl
@[simp] theorem withUs_image (s : State) (x : Nat) : (s.withUs x).image = s.image := rfl
@[simp] theorem withUs_strings (s : State) (x : Nat) : (s.withUs x).strings = s.strings := rfl
@[simp] theorem withUs_job (s : State) (x : Nat) : (s.withUs x).job = s.job := rfl
@[simp] theorem withUs_ticks (s : State) (x : Nat) : (s.withUs x).ticks = s.ticks := rfl
@[simp] theorem withUs_view (s : State) (x : Nat) : (s.withUs x).view = s.view := rfl
@[simp] theorem withUs_claims (s : State) (x : Nat) : (s.withUs x).claims = s.claims := rfl
@[simp] theorem withUs_seq (s : State) (x : Nat) : (s.withUs x).seq = s.seq := rfl
@[simp] theorem withUs_phase (s : State) (x : Nat) : (s.withUs x).phase = s.phase := rfl
@[simp] theorem withUs_visit (s : State) (x : Nat) : (s.withUs x).visit = s.visit := rfl
@[simp] theorem withUs_intake (s : State) (x : Nat) : (s.withUs x).intake = s.intake := rfl
@[simp] theorem withUs_dog (s : State) (x : Nat) : (s.withUs x).dog = s.dog := rfl
@[simp] theorem withUs_host (s : State) (x : Nat) : (s.withUs x).host = s.host := rfl
@[simp] theorem withUs_loop (s : State) (x : Nat) : (s.withUs x).loop = s.loop := rfl

@[simp] theorem withPower_pending (s : State) (x : Bool) : (s.withPower x).pending = s.pending := rfl
@[simp] theorem withPower_freeCount (s : State) (x : Bool) : (s.withPower x).freeCount = s.freeCount := rfl
@[simp] theorem withPower_statusDue (s : State) (x : Bool) : (s.withPower x).statusDue = s.statusDue := rfl
@[simp] theorem withPower_us (s : State) (x : Bool) : (s.withPower x).us = s.us := rfl
@[simp] theorem withPower_power (s : State) (x : Bool) : (s.withPower x).power = x := rfl
@[simp] theorem withPower_pins (s : State) (x : Bool) : (s.withPower x).pins = s.pins := rfl
@[simp] theorem withPower_outs (s : State) (x : Bool) : (s.withPower x).outs = s.outs := rfl
@[simp] theorem withPower_startup (s : State) (x : Bool) : (s.withPower x).startup = s.startup := rfl
@[simp] theorem withPower_image (s : State) (x : Bool) : (s.withPower x).image = s.image := rfl
@[simp] theorem withPower_strings (s : State) (x : Bool) : (s.withPower x).strings = s.strings := rfl
@[simp] theorem withPower_job (s : State) (x : Bool) : (s.withPower x).job = s.job := rfl
@[simp] theorem withPower_ticks (s : State) (x : Bool) : (s.withPower x).ticks = s.ticks := rfl
@[simp] theorem withPower_view (s : State) (x : Bool) : (s.withPower x).view = s.view := rfl
@[simp] theorem withPower_claims (s : State) (x : Bool) : (s.withPower x).claims = s.claims := rfl
@[simp] theorem withPower_seq (s : State) (x : Bool) : (s.withPower x).seq = s.seq := rfl
@[simp] theorem withPower_phase (s : State) (x : Bool) : (s.withPower x).phase = s.phase := rfl
@[simp] theorem withPower_visit (s : State) (x : Bool) : (s.withPower x).visit = s.visit := rfl
@[simp] theorem withPower_intake (s : State) (x : Bool) : (s.withPower x).intake = s.intake := rfl
@[simp] theorem withPower_dog (s : State) (x : Bool) : (s.withPower x).dog = s.dog := rfl
@[simp] theorem withPower_host (s : State) (x : Bool) : (s.withPower x).host = s.host := rfl
@[simp] theorem withPower_loop (s : State) (x : Bool) : (s.withPower x).loop = s.loop := rfl

@[simp] theorem withPins_pending (s : State) (x : Pins) : (s.withPins x).pending = s.pending := rfl
@[simp] theorem withPins_freeCount (s : State) (x : Pins) : (s.withPins x).freeCount = s.freeCount := rfl
@[simp] theorem withPins_statusDue (s : State) (x : Pins) : (s.withPins x).statusDue = s.statusDue := rfl
@[simp] theorem withPins_us (s : State) (x : Pins) : (s.withPins x).us = s.us := rfl
@[simp] theorem withPins_power (s : State) (x : Pins) : (s.withPins x).power = s.power := rfl
@[simp] theorem withPins_pins (s : State) (x : Pins) : (s.withPins x).pins = x := rfl
@[simp] theorem withPins_outs (s : State) (x : Pins) : (s.withPins x).outs = s.outs := rfl
@[simp] theorem withPins_startup (s : State) (x : Pins) : (s.withPins x).startup = s.startup := rfl
@[simp] theorem withPins_image (s : State) (x : Pins) : (s.withPins x).image = s.image := rfl
@[simp] theorem withPins_strings (s : State) (x : Pins) : (s.withPins x).strings = s.strings := rfl
@[simp] theorem withPins_job (s : State) (x : Pins) : (s.withPins x).job = s.job := rfl
@[simp] theorem withPins_ticks (s : State) (x : Pins) : (s.withPins x).ticks = s.ticks := rfl
@[simp] theorem withPins_view (s : State) (x : Pins) : (s.withPins x).view = s.view := rfl
@[simp] theorem withPins_claims (s : State) (x : Pins) : (s.withPins x).claims = s.claims := rfl
@[simp] theorem withPins_seq (s : State) (x : Pins) : (s.withPins x).seq = s.seq := rfl
@[simp] theorem withPins_phase (s : State) (x : Pins) : (s.withPins x).phase = s.phase := rfl
@[simp] theorem withPins_visit (s : State) (x : Pins) : (s.withPins x).visit = s.visit := rfl
@[simp] theorem withPins_intake (s : State) (x : Pins) : (s.withPins x).intake = s.intake := rfl
@[simp] theorem withPins_dog (s : State) (x : Pins) : (s.withPins x).dog = s.dog := rfl
@[simp] theorem withPins_host (s : State) (x : Pins) : (s.withPins x).host = s.host := rfl
@[simp] theorem withPins_loop (s : State) (x : Pins) : (s.withPins x).loop = s.loop := rfl

@[simp] theorem withOuts_pending (s : State) (x : Lines) : (s.withOuts x).pending = s.pending := rfl
@[simp] theorem withOuts_freeCount (s : State) (x : Lines) : (s.withOuts x).freeCount = s.freeCount := rfl
@[simp] theorem withOuts_statusDue (s : State) (x : Lines) : (s.withOuts x).statusDue = s.statusDue := rfl
@[simp] theorem withOuts_us (s : State) (x : Lines) : (s.withOuts x).us = s.us := rfl
@[simp] theorem withOuts_power (s : State) (x : Lines) : (s.withOuts x).power = s.power := rfl
@[simp] theorem withOuts_pins (s : State) (x : Lines) : (s.withOuts x).pins = s.pins := rfl
@[simp] theorem withOuts_outs (s : State) (x : Lines) : (s.withOuts x).outs = x := rfl
@[simp] theorem withOuts_startup (s : State) (x : Lines) : (s.withOuts x).startup = s.startup := rfl
@[simp] theorem withOuts_image (s : State) (x : Lines) : (s.withOuts x).image = s.image := rfl
@[simp] theorem withOuts_strings (s : State) (x : Lines) : (s.withOuts x).strings = s.strings := rfl
@[simp] theorem withOuts_job (s : State) (x : Lines) : (s.withOuts x).job = s.job := rfl
@[simp] theorem withOuts_ticks (s : State) (x : Lines) : (s.withOuts x).ticks = s.ticks := rfl
@[simp] theorem withOuts_view (s : State) (x : Lines) : (s.withOuts x).view = s.view := rfl
@[simp] theorem withOuts_claims (s : State) (x : Lines) : (s.withOuts x).claims = s.claims := rfl
@[simp] theorem withOuts_seq (s : State) (x : Lines) : (s.withOuts x).seq = s.seq := rfl
@[simp] theorem withOuts_phase (s : State) (x : Lines) : (s.withOuts x).phase = s.phase := rfl
@[simp] theorem withOuts_visit (s : State) (x : Lines) : (s.withOuts x).visit = s.visit := rfl
@[simp] theorem withOuts_intake (s : State) (x : Lines) : (s.withOuts x).intake = s.intake := rfl
@[simp] theorem withOuts_dog (s : State) (x : Lines) : (s.withOuts x).dog = s.dog := rfl
@[simp] theorem withOuts_host (s : State) (x : Lines) : (s.withOuts x).host = s.host := rfl
@[simp] theorem withOuts_loop (s : State) (x : Lines) : (s.withOuts x).loop = s.loop := rfl

@[simp] theorem withStartup_pending (s : State) (x : StartUp) : (s.withStartup x).pending = s.pending := rfl
@[simp] theorem withStartup_freeCount (s : State) (x : StartUp) : (s.withStartup x).freeCount = s.freeCount := rfl
@[simp] theorem withStartup_statusDue (s : State) (x : StartUp) : (s.withStartup x).statusDue = s.statusDue := rfl
@[simp] theorem withStartup_us (s : State) (x : StartUp) : (s.withStartup x).us = s.us := rfl
@[simp] theorem withStartup_power (s : State) (x : StartUp) : (s.withStartup x).power = s.power := rfl
@[simp] theorem withStartup_pins (s : State) (x : StartUp) : (s.withStartup x).pins = s.pins := rfl
@[simp] theorem withStartup_outs (s : State) (x : StartUp) : (s.withStartup x).outs = s.outs := rfl
@[simp] theorem withStartup_startup (s : State) (x : StartUp) : (s.withStartup x).startup = x := rfl
@[simp] theorem withStartup_image (s : State) (x : StartUp) : (s.withStartup x).image = s.image := rfl
@[simp] theorem withStartup_strings (s : State) (x : StartUp) : (s.withStartup x).strings = s.strings := rfl
@[simp] theorem withStartup_job (s : State) (x : StartUp) : (s.withStartup x).job = s.job := rfl
@[simp] theorem withStartup_ticks (s : State) (x : StartUp) : (s.withStartup x).ticks = s.ticks := rfl
@[simp] theorem withStartup_view (s : State) (x : StartUp) : (s.withStartup x).view = s.view := rfl
@[simp] theorem withStartup_claims (s : State) (x : StartUp) : (s.withStartup x).claims = s.claims := rfl
@[simp] theorem withStartup_seq (s : State) (x : StartUp) : (s.withStartup x).seq = s.seq := rfl
@[simp] theorem withStartup_phase (s : State) (x : StartUp) : (s.withStartup x).phase = s.phase := rfl
@[simp] theorem withStartup_visit (s : State) (x : StartUp) : (s.withStartup x).visit = s.visit := rfl
@[simp] theorem withStartup_intake (s : State) (x : StartUp) : (s.withStartup x).intake = s.intake := rfl
@[simp] theorem withStartup_dog (s : State) (x : StartUp) : (s.withStartup x).dog = s.dog := rfl
@[simp] theorem withStartup_host (s : State) (x : StartUp) : (s.withStartup x).host = s.host := rfl
@[simp] theorem withStartup_loop (s : State) (x : StartUp) : (s.withStartup x).loop = s.loop := rfl

@[simp] theorem withImage_pending (s : State) (x : Option Image) : (s.withImage x).pending = s.pending := rfl
@[simp] theorem withImage_freeCount (s : State) (x : Option Image) : (s.withImage x).freeCount = s.freeCount := rfl
@[simp] theorem withImage_statusDue (s : State) (x : Option Image) : (s.withImage x).statusDue = s.statusDue := rfl
@[simp] theorem withImage_us (s : State) (x : Option Image) : (s.withImage x).us = s.us := rfl
@[simp] theorem withImage_power (s : State) (x : Option Image) : (s.withImage x).power = s.power := rfl
@[simp] theorem withImage_pins (s : State) (x : Option Image) : (s.withImage x).pins = s.pins := rfl
@[simp] theorem withImage_outs (s : State) (x : Option Image) : (s.withImage x).outs = s.outs := rfl
@[simp] theorem withImage_startup (s : State) (x : Option Image) : (s.withImage x).startup = s.startup := rfl
@[simp] theorem withImage_image (s : State) (x : Option Image) : (s.withImage x).image = x := rfl
@[simp] theorem withImage_strings (s : State) (x : Option Image) : (s.withImage x).strings = s.strings := rfl
@[simp] theorem withImage_job (s : State) (x : Option Image) : (s.withImage x).job = s.job := rfl
@[simp] theorem withImage_ticks (s : State) (x : Option Image) : (s.withImage x).ticks = s.ticks := rfl
@[simp] theorem withImage_view (s : State) (x : Option Image) : (s.withImage x).view = s.view := rfl
@[simp] theorem withImage_claims (s : State) (x : Option Image) : (s.withImage x).claims = s.claims := rfl
@[simp] theorem withImage_seq (s : State) (x : Option Image) : (s.withImage x).seq = s.seq := rfl
@[simp] theorem withImage_phase (s : State) (x : Option Image) : (s.withImage x).phase = s.phase := rfl
@[simp] theorem withImage_visit (s : State) (x : Option Image) : (s.withImage x).visit = s.visit := rfl
@[simp] theorem withImage_intake (s : State) (x : Option Image) : (s.withImage x).intake = s.intake := rfl
@[simp] theorem withImage_dog (s : State) (x : Option Image) : (s.withImage x).dog = s.dog := rfl
@[simp] theorem withImage_host (s : State) (x : Option Image) : (s.withImage x).host = s.host := rfl
@[simp] theorem withImage_loop (s : State) (x : Option Image) : (s.withImage x).loop = s.loop := rfl

@[simp] theorem withStrings_pending (s : State) (x : List StringRec) : (s.withStrings x).pending = s.pending := rfl
@[simp] theorem withStrings_freeCount (s : State) (x : List StringRec) : (s.withStrings x).freeCount = s.freeCount := rfl
@[simp] theorem withStrings_statusDue (s : State) (x : List StringRec) : (s.withStrings x).statusDue = s.statusDue := rfl
@[simp] theorem withStrings_us (s : State) (x : List StringRec) : (s.withStrings x).us = s.us := rfl
@[simp] theorem withStrings_power (s : State) (x : List StringRec) : (s.withStrings x).power = s.power := rfl
@[simp] theorem withStrings_pins (s : State) (x : List StringRec) : (s.withStrings x).pins = s.pins := rfl
@[simp] theorem withStrings_outs (s : State) (x : List StringRec) : (s.withStrings x).outs = s.outs := rfl
@[simp] theorem withStrings_startup (s : State) (x : List StringRec) : (s.withStrings x).startup = s.startup := rfl
@[simp] theorem withStrings_image (s : State) (x : List StringRec) : (s.withStrings x).image = s.image := rfl
@[simp] theorem withStrings_strings (s : State) (x : List StringRec) : (s.withStrings x).strings = x := rfl
@[simp] theorem withStrings_job (s : State) (x : List StringRec) : (s.withStrings x).job = s.job := rfl
@[simp] theorem withStrings_ticks (s : State) (x : List StringRec) : (s.withStrings x).ticks = s.ticks := rfl
@[simp] theorem withStrings_view (s : State) (x : List StringRec) : (s.withStrings x).view = s.view := rfl
@[simp] theorem withStrings_claims (s : State) (x : List StringRec) : (s.withStrings x).claims = s.claims := rfl
@[simp] theorem withStrings_seq (s : State) (x : List StringRec) : (s.withStrings x).seq = s.seq := rfl
@[simp] theorem withStrings_phase (s : State) (x : List StringRec) : (s.withStrings x).phase = s.phase := rfl
@[simp] theorem withStrings_visit (s : State) (x : List StringRec) : (s.withStrings x).visit = s.visit := rfl
@[simp] theorem withStrings_intake (s : State) (x : List StringRec) : (s.withStrings x).intake = s.intake := rfl
@[simp] theorem withStrings_dog (s : State) (x : List StringRec) : (s.withStrings x).dog = s.dog := rfl
@[simp] theorem withStrings_host (s : State) (x : List StringRec) : (s.withStrings x).host = s.host := rfl
@[simp] theorem withStrings_loop (s : State) (x : List StringRec) : (s.withStrings x).loop = s.loop := rfl

@[simp] theorem withJob_pending (s : State) (x : TestJob) : (s.withJob x).pending = s.pending := rfl
@[simp] theorem withJob_freeCount (s : State) (x : TestJob) : (s.withJob x).freeCount = s.freeCount := rfl
@[simp] theorem withJob_statusDue (s : State) (x : TestJob) : (s.withJob x).statusDue = s.statusDue := rfl
@[simp] theorem withJob_us (s : State) (x : TestJob) : (s.withJob x).us = s.us := rfl
@[simp] theorem withJob_power (s : State) (x : TestJob) : (s.withJob x).power = s.power := rfl
@[simp] theorem withJob_pins (s : State) (x : TestJob) : (s.withJob x).pins = s.pins := rfl
@[simp] theorem withJob_outs (s : State) (x : TestJob) : (s.withJob x).outs = s.outs := rfl
@[simp] theorem withJob_startup (s : State) (x : TestJob) : (s.withJob x).startup = s.startup := rfl
@[simp] theorem withJob_image (s : State) (x : TestJob) : (s.withJob x).image = s.image := rfl
@[simp] theorem withJob_strings (s : State) (x : TestJob) : (s.withJob x).strings = s.strings := rfl
@[simp] theorem withJob_job (s : State) (x : TestJob) : (s.withJob x).job = x := rfl
@[simp] theorem withJob_ticks (s : State) (x : TestJob) : (s.withJob x).ticks = s.ticks := rfl
@[simp] theorem withJob_view (s : State) (x : TestJob) : (s.withJob x).view = s.view := rfl
@[simp] theorem withJob_claims (s : State) (x : TestJob) : (s.withJob x).claims = s.claims := rfl
@[simp] theorem withJob_seq (s : State) (x : TestJob) : (s.withJob x).seq = s.seq := rfl
@[simp] theorem withJob_phase (s : State) (x : TestJob) : (s.withJob x).phase = s.phase := rfl
@[simp] theorem withJob_visit (s : State) (x : TestJob) : (s.withJob x).visit = s.visit := rfl
@[simp] theorem withJob_intake (s : State) (x : TestJob) : (s.withJob x).intake = s.intake := rfl
@[simp] theorem withJob_dog (s : State) (x : TestJob) : (s.withJob x).dog = s.dog := rfl
@[simp] theorem withJob_host (s : State) (x : TestJob) : (s.withJob x).host = s.host := rfl
@[simp] theorem withJob_loop (s : State) (x : TestJob) : (s.withJob x).loop = s.loop := rfl

@[simp] theorem withTicks_pending (s : State) (x : Ticks) : (s.withTicks x).pending = s.pending := rfl
@[simp] theorem withTicks_freeCount (s : State) (x : Ticks) : (s.withTicks x).freeCount = s.freeCount := rfl
@[simp] theorem withTicks_statusDue (s : State) (x : Ticks) : (s.withTicks x).statusDue = s.statusDue := rfl
@[simp] theorem withTicks_us (s : State) (x : Ticks) : (s.withTicks x).us = s.us := rfl
@[simp] theorem withTicks_power (s : State) (x : Ticks) : (s.withTicks x).power = s.power := rfl
@[simp] theorem withTicks_pins (s : State) (x : Ticks) : (s.withTicks x).pins = s.pins := rfl
@[simp] theorem withTicks_outs (s : State) (x : Ticks) : (s.withTicks x).outs = s.outs := rfl
@[simp] theorem withTicks_startup (s : State) (x : Ticks) : (s.withTicks x).startup = s.startup := rfl
@[simp] theorem withTicks_image (s : State) (x : Ticks) : (s.withTicks x).image = s.image := rfl
@[simp] theorem withTicks_strings (s : State) (x : Ticks) : (s.withTicks x).strings = s.strings := rfl
@[simp] theorem withTicks_job (s : State) (x : Ticks) : (s.withTicks x).job = s.job := rfl
@[simp] theorem withTicks_ticks (s : State) (x : Ticks) : (s.withTicks x).ticks = x := rfl
@[simp] theorem withTicks_view (s : State) (x : Ticks) : (s.withTicks x).view = s.view := rfl
@[simp] theorem withTicks_claims (s : State) (x : Ticks) : (s.withTicks x).claims = s.claims := rfl
@[simp] theorem withTicks_seq (s : State) (x : Ticks) : (s.withTicks x).seq = s.seq := rfl
@[simp] theorem withTicks_phase (s : State) (x : Ticks) : (s.withTicks x).phase = s.phase := rfl
@[simp] theorem withTicks_visit (s : State) (x : Ticks) : (s.withTicks x).visit = s.visit := rfl
@[simp] theorem withTicks_intake (s : State) (x : Ticks) : (s.withTicks x).intake = s.intake := rfl
@[simp] theorem withTicks_dog (s : State) (x : Ticks) : (s.withTicks x).dog = s.dog := rfl
@[simp] theorem withTicks_host (s : State) (x : Ticks) : (s.withTicks x).host = s.host := rfl
@[simp] theorem withTicks_loop (s : State) (x : Ticks) : (s.withTicks x).loop = s.loop := rfl

@[simp] theorem withView_pending (s : State) (x : View) : (s.withView x).pending = s.pending := rfl
@[simp] theorem withView_freeCount (s : State) (x : View) : (s.withView x).freeCount = s.freeCount := rfl
@[simp] theorem withView_statusDue (s : State) (x : View) : (s.withView x).statusDue = s.statusDue := rfl
@[simp] theorem withView_us (s : State) (x : View) : (s.withView x).us = s.us := rfl
@[simp] theorem withView_power (s : State) (x : View) : (s.withView x).power = s.power := rfl
@[simp] theorem withView_pins (s : State) (x : View) : (s.withView x).pins = s.pins := rfl
@[simp] theorem withView_outs (s : State) (x : View) : (s.withView x).outs = s.outs := rfl
@[simp] theorem withView_startup (s : State) (x : View) : (s.withView x).startup = s.startup := rfl
@[simp] theorem withView_image (s : State) (x : View) : (s.withView x).image = s.image := rfl
@[simp] theorem withView_strings (s : State) (x : View) : (s.withView x).strings = s.strings := rfl
@[simp] theorem withView_job (s : State) (x : View) : (s.withView x).job = s.job := rfl
@[simp] theorem withView_ticks (s : State) (x : View) : (s.withView x).ticks = s.ticks := rfl
@[simp] theorem withView_view (s : State) (x : View) : (s.withView x).view = x := rfl
@[simp] theorem withView_claims (s : State) (x : View) : (s.withView x).claims = s.claims := rfl
@[simp] theorem withView_seq (s : State) (x : View) : (s.withView x).seq = s.seq := rfl
@[simp] theorem withView_phase (s : State) (x : View) : (s.withView x).phase = s.phase := rfl
@[simp] theorem withView_visit (s : State) (x : View) : (s.withView x).visit = s.visit := rfl
@[simp] theorem withView_intake (s : State) (x : View) : (s.withView x).intake = s.intake := rfl
@[simp] theorem withView_dog (s : State) (x : View) : (s.withView x).dog = s.dog := rfl
@[simp] theorem withView_host (s : State) (x : View) : (s.withView x).host = s.host := rfl
@[simp] theorem withView_loop (s : State) (x : View) : (s.withView x).loop = s.loop := rfl

@[simp] theorem withClaims_pending (s : State) (x : Claims) : (s.withClaims x).pending = s.pending := rfl
@[simp] theorem withClaims_freeCount (s : State) (x : Claims) : (s.withClaims x).freeCount = s.freeCount := rfl
@[simp] theorem withClaims_statusDue (s : State) (x : Claims) : (s.withClaims x).statusDue = s.statusDue := rfl
@[simp] theorem withClaims_us (s : State) (x : Claims) : (s.withClaims x).us = s.us := rfl
@[simp] theorem withClaims_power (s : State) (x : Claims) : (s.withClaims x).power = s.power := rfl
@[simp] theorem withClaims_pins (s : State) (x : Claims) : (s.withClaims x).pins = s.pins := rfl
@[simp] theorem withClaims_outs (s : State) (x : Claims) : (s.withClaims x).outs = s.outs := rfl
@[simp] theorem withClaims_startup (s : State) (x : Claims) : (s.withClaims x).startup = s.startup := rfl
@[simp] theorem withClaims_image (s : State) (x : Claims) : (s.withClaims x).image = s.image := rfl
@[simp] theorem withClaims_strings (s : State) (x : Claims) : (s.withClaims x).strings = s.strings := rfl
@[simp] theorem withClaims_job (s : State) (x : Claims) : (s.withClaims x).job = s.job := rfl
@[simp] theorem withClaims_ticks (s : State) (x : Claims) : (s.withClaims x).ticks = s.ticks := rfl
@[simp] theorem withClaims_view (s : State) (x : Claims) : (s.withClaims x).view = s.view := rfl
@[simp] theorem withClaims_claims (s : State) (x : Claims) : (s.withClaims x).claims = x := rfl
@[simp] theorem withClaims_seq (s : State) (x : Claims) : (s.withClaims x).seq = s.seq := rfl
@[simp] theorem withClaims_phase (s : State) (x : Claims) : (s.withClaims x).phase = s.phase := rfl
@[simp] theorem withClaims_visit (s : State) (x : Claims) : (s.withClaims x).visit = s.visit := rfl
@[simp] theorem withClaims_intake (s : State) (x : Claims) : (s.withClaims x).intake = s.intake := rfl
@[simp] theorem withClaims_dog (s : State) (x : Claims) : (s.withClaims x).dog = s.dog := rfl
@[simp] theorem withClaims_host (s : State) (x : Claims) : (s.withClaims x).host = s.host := rfl
@[simp] theorem withClaims_loop (s : State) (x : Claims) : (s.withClaims x).loop = s.loop := rfl

@[simp] theorem withSeq_pending (s : State) (x : Sequencer) : (s.withSeq x).pending = s.pending := rfl
@[simp] theorem withSeq_freeCount (s : State) (x : Sequencer) : (s.withSeq x).freeCount = s.freeCount := rfl
@[simp] theorem withSeq_statusDue (s : State) (x : Sequencer) : (s.withSeq x).statusDue = s.statusDue := rfl
@[simp] theorem withSeq_us (s : State) (x : Sequencer) : (s.withSeq x).us = s.us := rfl
@[simp] theorem withSeq_power (s : State) (x : Sequencer) : (s.withSeq x).power = s.power := rfl
@[simp] theorem withSeq_pins (s : State) (x : Sequencer) : (s.withSeq x).pins = s.pins := rfl
@[simp] theorem withSeq_outs (s : State) (x : Sequencer) : (s.withSeq x).outs = s.outs := rfl
@[simp] theorem withSeq_startup (s : State) (x : Sequencer) : (s.withSeq x).startup = s.startup := rfl
@[simp] theorem withSeq_image (s : State) (x : Sequencer) : (s.withSeq x).image = s.image := rfl
@[simp] theorem withSeq_strings (s : State) (x : Sequencer) : (s.withSeq x).strings = s.strings := rfl
@[simp] theorem withSeq_job (s : State) (x : Sequencer) : (s.withSeq x).job = s.job := rfl
@[simp] theorem withSeq_ticks (s : State) (x : Sequencer) : (s.withSeq x).ticks = s.ticks := rfl
@[simp] theorem withSeq_view (s : State) (x : Sequencer) : (s.withSeq x).view = s.view := rfl
@[simp] theorem withSeq_claims (s : State) (x : Sequencer) : (s.withSeq x).claims = s.claims := rfl
@[simp] theorem withSeq_seq (s : State) (x : Sequencer) : (s.withSeq x).seq = x := rfl
@[simp] theorem withSeq_phase (s : State) (x : Sequencer) : (s.withSeq x).phase = s.phase := rfl
@[simp] theorem withSeq_visit (s : State) (x : Sequencer) : (s.withSeq x).visit = s.visit := rfl
@[simp] theorem withSeq_intake (s : State) (x : Sequencer) : (s.withSeq x).intake = s.intake := rfl
@[simp] theorem withSeq_dog (s : State) (x : Sequencer) : (s.withSeq x).dog = s.dog := rfl
@[simp] theorem withSeq_host (s : State) (x : Sequencer) : (s.withSeq x).host = s.host := rfl
@[simp] theorem withSeq_loop (s : State) (x : Sequencer) : (s.withSeq x).loop = s.loop := rfl

@[simp] theorem withPhase_pending (s : State) (x : Phase) : (s.withPhase x).pending = s.pending := rfl
@[simp] theorem withPhase_freeCount (s : State) (x : Phase) : (s.withPhase x).freeCount = s.freeCount := rfl
@[simp] theorem withPhase_statusDue (s : State) (x : Phase) : (s.withPhase x).statusDue = s.statusDue := rfl
@[simp] theorem withPhase_us (s : State) (x : Phase) : (s.withPhase x).us = s.us := rfl
@[simp] theorem withPhase_power (s : State) (x : Phase) : (s.withPhase x).power = s.power := rfl
@[simp] theorem withPhase_pins (s : State) (x : Phase) : (s.withPhase x).pins = s.pins := rfl
@[simp] theorem withPhase_outs (s : State) (x : Phase) : (s.withPhase x).outs = s.outs := rfl
@[simp] theorem withPhase_startup (s : State) (x : Phase) : (s.withPhase x).startup = s.startup := rfl
@[simp] theorem withPhase_image (s : State) (x : Phase) : (s.withPhase x).image = s.image := rfl
@[simp] theorem withPhase_strings (s : State) (x : Phase) : (s.withPhase x).strings = s.strings := rfl
@[simp] theorem withPhase_job (s : State) (x : Phase) : (s.withPhase x).job = s.job := rfl
@[simp] theorem withPhase_ticks (s : State) (x : Phase) : (s.withPhase x).ticks = s.ticks := rfl
@[simp] theorem withPhase_view (s : State) (x : Phase) : (s.withPhase x).view = s.view := rfl
@[simp] theorem withPhase_claims (s : State) (x : Phase) : (s.withPhase x).claims = s.claims := rfl
@[simp] theorem withPhase_seq (s : State) (x : Phase) : (s.withPhase x).seq = s.seq := rfl
@[simp] theorem withPhase_phase (s : State) (x : Phase) : (s.withPhase x).phase = x := rfl
@[simp] theorem withPhase_visit (s : State) (x : Phase) : (s.withPhase x).visit = s.visit := rfl
@[simp] theorem withPhase_intake (s : State) (x : Phase) : (s.withPhase x).intake = s.intake := rfl
@[simp] theorem withPhase_dog (s : State) (x : Phase) : (s.withPhase x).dog = s.dog := rfl
@[simp] theorem withPhase_host (s : State) (x : Phase) : (s.withPhase x).host = s.host := rfl
@[simp] theorem withPhase_loop (s : State) (x : Phase) : (s.withPhase x).loop = s.loop := rfl

@[simp] theorem withVisit_pending (s : State) (x : Visits) : (s.withVisit x).pending = s.pending := rfl
@[simp] theorem withVisit_freeCount (s : State) (x : Visits) : (s.withVisit x).freeCount = s.freeCount := rfl
@[simp] theorem withVisit_statusDue (s : State) (x : Visits) : (s.withVisit x).statusDue = s.statusDue := rfl
@[simp] theorem withVisit_us (s : State) (x : Visits) : (s.withVisit x).us = s.us := rfl
@[simp] theorem withVisit_power (s : State) (x : Visits) : (s.withVisit x).power = s.power := rfl
@[simp] theorem withVisit_pins (s : State) (x : Visits) : (s.withVisit x).pins = s.pins := rfl
@[simp] theorem withVisit_outs (s : State) (x : Visits) : (s.withVisit x).outs = s.outs := rfl
@[simp] theorem withVisit_startup (s : State) (x : Visits) : (s.withVisit x).startup = s.startup := rfl
@[simp] theorem withVisit_image (s : State) (x : Visits) : (s.withVisit x).image = s.image := rfl
@[simp] theorem withVisit_strings (s : State) (x : Visits) : (s.withVisit x).strings = s.strings := rfl
@[simp] theorem withVisit_job (s : State) (x : Visits) : (s.withVisit x).job = s.job := rfl
@[simp] theorem withVisit_ticks (s : State) (x : Visits) : (s.withVisit x).ticks = s.ticks := rfl
@[simp] theorem withVisit_view (s : State) (x : Visits) : (s.withVisit x).view = s.view := rfl
@[simp] theorem withVisit_claims (s : State) (x : Visits) : (s.withVisit x).claims = s.claims := rfl
@[simp] theorem withVisit_seq (s : State) (x : Visits) : (s.withVisit x).seq = s.seq := rfl
@[simp] theorem withVisit_phase (s : State) (x : Visits) : (s.withVisit x).phase = s.phase := rfl
@[simp] theorem withVisit_visit (s : State) (x : Visits) : (s.withVisit x).visit = x := rfl
@[simp] theorem withVisit_intake (s : State) (x : Visits) : (s.withVisit x).intake = s.intake := rfl
@[simp] theorem withVisit_dog (s : State) (x : Visits) : (s.withVisit x).dog = s.dog := rfl
@[simp] theorem withVisit_host (s : State) (x : Visits) : (s.withVisit x).host = s.host := rfl
@[simp] theorem withVisit_loop (s : State) (x : Visits) : (s.withVisit x).loop = s.loop := rfl

@[simp] theorem withIntake_pending (s : State) (x : Intake) : (s.withIntake x).pending = s.pending := rfl
@[simp] theorem withIntake_freeCount (s : State) (x : Intake) : (s.withIntake x).freeCount = s.freeCount := rfl
@[simp] theorem withIntake_statusDue (s : State) (x : Intake) : (s.withIntake x).statusDue = s.statusDue := rfl
@[simp] theorem withIntake_us (s : State) (x : Intake) : (s.withIntake x).us = s.us := rfl
@[simp] theorem withIntake_power (s : State) (x : Intake) : (s.withIntake x).power = s.power := rfl
@[simp] theorem withIntake_pins (s : State) (x : Intake) : (s.withIntake x).pins = s.pins := rfl
@[simp] theorem withIntake_outs (s : State) (x : Intake) : (s.withIntake x).outs = s.outs := rfl
@[simp] theorem withIntake_startup (s : State) (x : Intake) : (s.withIntake x).startup = s.startup := rfl
@[simp] theorem withIntake_image (s : State) (x : Intake) : (s.withIntake x).image = s.image := rfl
@[simp] theorem withIntake_strings (s : State) (x : Intake) : (s.withIntake x).strings = s.strings := rfl
@[simp] theorem withIntake_job (s : State) (x : Intake) : (s.withIntake x).job = s.job := rfl
@[simp] theorem withIntake_ticks (s : State) (x : Intake) : (s.withIntake x).ticks = s.ticks := rfl
@[simp] theorem withIntake_view (s : State) (x : Intake) : (s.withIntake x).view = s.view := rfl
@[simp] theorem withIntake_claims (s : State) (x : Intake) : (s.withIntake x).claims = s.claims := rfl
@[simp] theorem withIntake_seq (s : State) (x : Intake) : (s.withIntake x).seq = s.seq := rfl
@[simp] theorem withIntake_phase (s : State) (x : Intake) : (s.withIntake x).phase = s.phase := rfl
@[simp] theorem withIntake_visit (s : State) (x : Intake) : (s.withIntake x).visit = s.visit := rfl
@[simp] theorem withIntake_intake (s : State) (x : Intake) : (s.withIntake x).intake = x := rfl
@[simp] theorem withIntake_dog (s : State) (x : Intake) : (s.withIntake x).dog = s.dog := rfl
@[simp] theorem withIntake_host (s : State) (x : Intake) : (s.withIntake x).host = s.host := rfl
@[simp] theorem withIntake_loop (s : State) (x : Intake) : (s.withIntake x).loop = s.loop := rfl

@[simp] theorem withDog_pending (s : State) (x : Watchdog) : (s.withDog x).pending = s.pending := rfl
@[simp] theorem withDog_freeCount (s : State) (x : Watchdog) : (s.withDog x).freeCount = s.freeCount := rfl
@[simp] theorem withDog_statusDue (s : State) (x : Watchdog) : (s.withDog x).statusDue = s.statusDue := rfl
@[simp] theorem withDog_us (s : State) (x : Watchdog) : (s.withDog x).us = s.us := rfl
@[simp] theorem withDog_power (s : State) (x : Watchdog) : (s.withDog x).power = s.power := rfl
@[simp] theorem withDog_pins (s : State) (x : Watchdog) : (s.withDog x).pins = s.pins := rfl
@[simp] theorem withDog_outs (s : State) (x : Watchdog) : (s.withDog x).outs = s.outs := rfl
@[simp] theorem withDog_startup (s : State) (x : Watchdog) : (s.withDog x).startup = s.startup := rfl
@[simp] theorem withDog_image (s : State) (x : Watchdog) : (s.withDog x).image = s.image := rfl
@[simp] theorem withDog_strings (s : State) (x : Watchdog) : (s.withDog x).strings = s.strings := rfl
@[simp] theorem withDog_job (s : State) (x : Watchdog) : (s.withDog x).job = s.job := rfl
@[simp] theorem withDog_ticks (s : State) (x : Watchdog) : (s.withDog x).ticks = s.ticks := rfl
@[simp] theorem withDog_view (s : State) (x : Watchdog) : (s.withDog x).view = s.view := rfl
@[simp] theorem withDog_claims (s : State) (x : Watchdog) : (s.withDog x).claims = s.claims := rfl
@[simp] theorem withDog_seq (s : State) (x : Watchdog) : (s.withDog x).seq = s.seq := rfl
@[simp] theorem withDog_phase (s : State) (x : Watchdog) : (s.withDog x).phase = s.phase := rfl
@[simp] theorem withDog_visit (s : State) (x : Watchdog) : (s.withDog x).visit = s.visit := rfl
@[simp] theorem withDog_intake (s : State) (x : Watchdog) : (s.withDog x).intake = s.intake := rfl
@[simp] theorem withDog_dog (s : State) (x : Watchdog) : (s.withDog x).dog = x := rfl
@[simp] theorem withDog_host (s : State) (x : Watchdog) : (s.withDog x).host = s.host := rfl
@[simp] theorem withDog_loop (s : State) (x : Watchdog) : (s.withDog x).loop = s.loop := rfl

@[simp] theorem withHost_pending (s : State) (x : HostPort) : (s.withHost x).pending = s.pending := rfl
@[simp] theorem withHost_freeCount (s : State) (x : HostPort) : (s.withHost x).freeCount = s.freeCount := rfl
@[simp] theorem withHost_statusDue (s : State) (x : HostPort) : (s.withHost x).statusDue = s.statusDue := rfl
@[simp] theorem withHost_us (s : State) (x : HostPort) : (s.withHost x).us = s.us := rfl
@[simp] theorem withHost_power (s : State) (x : HostPort) : (s.withHost x).power = s.power := rfl
@[simp] theorem withHost_pins (s : State) (x : HostPort) : (s.withHost x).pins = s.pins := rfl
@[simp] theorem withHost_outs (s : State) (x : HostPort) : (s.withHost x).outs = s.outs := rfl
@[simp] theorem withHost_startup (s : State) (x : HostPort) : (s.withHost x).startup = s.startup := rfl
@[simp] theorem withHost_image (s : State) (x : HostPort) : (s.withHost x).image = s.image := rfl
@[simp] theorem withHost_strings (s : State) (x : HostPort) : (s.withHost x).strings = s.strings := rfl
@[simp] theorem withHost_job (s : State) (x : HostPort) : (s.withHost x).job = s.job := rfl
@[simp] theorem withHost_ticks (s : State) (x : HostPort) : (s.withHost x).ticks = s.ticks := rfl
@[simp] theorem withHost_view (s : State) (x : HostPort) : (s.withHost x).view = s.view := rfl
@[simp] theorem withHost_claims (s : State) (x : HostPort) : (s.withHost x).claims = s.claims := rfl
@[simp] theorem withHost_seq (s : State) (x : HostPort) : (s.withHost x).seq = s.seq := rfl
@[simp] theorem withHost_phase (s : State) (x : HostPort) : (s.withHost x).phase = s.phase := rfl
@[simp] theorem withHost_visit (s : State) (x : HostPort) : (s.withHost x).visit = s.visit := rfl
@[simp] theorem withHost_intake (s : State) (x : HostPort) : (s.withHost x).intake = s.intake := rfl
@[simp] theorem withHost_dog (s : State) (x : HostPort) : (s.withHost x).dog = s.dog := rfl
@[simp] theorem withHost_host (s : State) (x : HostPort) : (s.withHost x).host = x := rfl
@[simp] theorem withHost_loop (s : State) (x : HostPort) : (s.withHost x).loop = s.loop := rfl

@[simp] theorem withLoop_pending (s : State) (x : LoopPorts) : (s.withLoop x).pending = s.pending := rfl
@[simp] theorem withLoop_freeCount (s : State) (x : LoopPorts) : (s.withLoop x).freeCount = s.freeCount := rfl
@[simp] theorem withLoop_statusDue (s : State) (x : LoopPorts) : (s.withLoop x).statusDue = s.statusDue := rfl
@[simp] theorem withLoop_us (s : State) (x : LoopPorts) : (s.withLoop x).us = s.us := rfl
@[simp] theorem withLoop_power (s : State) (x : LoopPorts) : (s.withLoop x).power = s.power := rfl
@[simp] theorem withLoop_pins (s : State) (x : LoopPorts) : (s.withLoop x).pins = s.pins := rfl
@[simp] theorem withLoop_outs (s : State) (x : LoopPorts) : (s.withLoop x).outs = s.outs := rfl
@[simp] theorem withLoop_startup (s : State) (x : LoopPorts) : (s.withLoop x).startup = s.startup := rfl
@[simp] theorem withLoop_image (s : State) (x : LoopPorts) : (s.withLoop x).image = s.image := rfl
@[simp] theorem withLoop_strings (s : State) (x : LoopPorts) : (s.withLoop x).strings = s.strings := rfl
@[simp] theorem withLoop_job (s : State) (x : LoopPorts) : (s.withLoop x).job = s.job := rfl
@[simp] theorem withLoop_ticks (s : State) (x : LoopPorts) : (s.withLoop x).ticks = s.ticks := rfl
@[simp] theorem withLoop_view (s : State) (x : LoopPorts) : (s.withLoop x).view = s.view := rfl
@[simp] theorem withLoop_claims (s : State) (x : LoopPorts) : (s.withLoop x).claims = s.claims := rfl
@[simp] theorem withLoop_seq (s : State) (x : LoopPorts) : (s.withLoop x).seq = s.seq := rfl
@[simp] theorem withLoop_phase (s : State) (x : LoopPorts) : (s.withLoop x).phase = s.phase := rfl
@[simp] theorem withLoop_visit (s : State) (x : LoopPorts) : (s.withLoop x).visit = s.visit := rfl
@[simp] theorem withLoop_intake (s : State) (x : LoopPorts) : (s.withLoop x).intake = s.intake := rfl
@[simp] theorem withLoop_dog (s : State) (x : LoopPorts) : (s.withLoop x).dog = s.dog := rfl
@[simp] theorem withLoop_host (s : State) (x : LoopPorts) : (s.withLoop x).host = s.host := rfl
@[simp] theorem withLoop_loop (s : State) (x : LoopPorts) : (s.withLoop x).loop = x := rfl

end Sys2Proof.Machine
end

