-- ==== Sys2Proof/Laws/Frame.lean ====
section
/-! SUPPORT. Frames: how `State.ChangesOnly` composes, and the frame of each shared operation. -/

namespace Sys2Proof.Machine

theorem changesOnly_refl (f : List Piece) (s : State) : s.ChangesOnly f s := by
  constructor; intro p _; cases p <;> simp [Piece.kept]

theorem kept_trans {s t u : State} {p : Piece} (h : p.kept s t) (k : p.kept t u) : p.kept s u := by
  cases p <;> simp_all [Piece.kept]

theorem changesOnly_mono {s t : State} {f g : List Piece} (h : s.ChangesOnly f t)
    (hfg : f.all g.contains = true) : s.ChangesOnly g t := by
  refine ⟨fun p hp => h.kept p (fun hf => hp ?_)⟩
  simpa using List.all_eq_true.mp hfg p hf

theorem changesOnly_trans {s t u : State} {f : List Piece} (h : s.ChangesOnly f t)
    (k : t.ChangesOnly f u) : s.ChangesOnly f u :=
  ⟨fun p hp => kept_trans (h.kept p hp) (k.kept p hp)⟩

/-- One frame after another, inside a larger one. -/
theorem changesOnly_then {s t u : State} {f g e : List Piece} (h : s.ChangesOnly f t)
    (k : t.ChangesOnly g u) (hf : f.all e.contains = true) (hg : g.all e.contains = true) :
    s.ChangesOnly e u :=
  changesOnly_trans (changesOnly_mono h hf) (changesOnly_mono k hg)

theorem changesOnly_ite {s t u : State} {f : List Piece} {c : Prop} [Decidable c]
    (h : s.ChangesOnly f t) (k : s.ChangesOnly f u) : s.ChangesOnly f (if c then t else u) := by
  split <;> assumption

/-! ### Notices, replies, own frames -/

theorem markStatus_frame (s : State) : s.ChangesOnly [] s.markStatus := by
  constructor; intro p _; cases p <;> simp [Piece.kept, State.markStatus]

theorem withStatusDue_frame (s : State) (b : Bool) : s.ChangesOnly [] (s.withStatusDue b) := by
  constructor; intro p _; cases p <;> simp [Piece.kept]

theorem raise_frame (s : State) (k : NoticeKind) (a b c d : Half) :
    s.ChangesOnly [.notices] (s.raise k a b c d) := by
  constructor
  intro p hp
  unfold State.raise State.onHost HostPort.join
  cases p <;> simp at hp <;> split <;> simp [Piece.kept] <;> split <;> simp

theorem notify_frame (s : State) (k : NoticeKind) (a b c d : Int) :
    s.ChangesOnly [.notices] (s.notify k a b c d) := raise_frame ..

theorem answer_frame (s : State) (c : ReplyCode) (r : List Byte) :
    s.ChangesOnly [.command] (s.answer c r) := by
  constructor
  intro p hp
  unfold State.answer State.onHost
  cases p <;> simp at hp <;> split <;> simp [Piece.kept]

theorem queueOwn_frame (s : State) (k : FrameKind) (i : Nat) (b : List Byte) :
    s.ChangesOnly [.ownQueue] (s.queueOwn k i b).1 := by
  constructor; intro p hp; cases p <;> simp_all [Piece.kept, State.queueOwn, State.onLoop]

theorem sendGrant_frame (s : State) (i : Nat) (k : WKind) (c : Scope) :
    s.ChangesOnly [.ownQueue] (s.sendGrant i k c) := queueOwn_frame ..

theorem sendDrop_frame (s : State) (i : Nat) (r : DropReason) :
    s.ChangesOnly [.ownQueue] (s.sendDrop i r) := queueOwn_frame ..

theorem sendForced_frame (s : State) (w : Withdrawal) :
    s.ChangesOnly [.ownQueue] (s.sendForced w) := queueOwn_frame ..

theorem queueStatus_frame (s : State) : s.ChangesOnly [.statusTimer, .ownQueue] s.queueStatus := by
  constructor; intro p hp; cases p <;> simp_all [Piece.kept, State.queueStatus, State.queueOwn, State.onLoop, State.onView]

/-! ### The withdrawal list -/

theorem setList_frame (s : State) (l : List Withdrawal) : s.ChangesOnly [.withdrawals] (s.setList l) := by
  constructor; intro p hp; cases p <;> simp_all [Piece.kept, State.setList, State.onClaims]

theorem updateEntries_frame (s : State) (q : Withdrawal → Bool) (f : Withdrawal → Withdrawal) :
    s.ChangesOnly [.withdrawals] (s.updateEntries q f) := setList_frame ..

theorem removeEntries_frame (s : State) (q : Withdrawal → Bool) :
    s.ChangesOnly [.withdrawals] (s.removeEntries q) := by
  unfold State.removeEntries
  refine changesOnly_ite ?_ (changesOnly_refl _ _)
  constructor; intro p hp; cases p <;> simp_all [Piece.kept, State.onClaims]

theorem loseEntry_frame (s : State) (w : Withdrawal) :
    s.ChangesOnly [.withdrawals, .notices] (s.loseEntry w) := by
  have h : s.ChangesOnly [.withdrawals]
      (s.onClaims (fun c => { c with lost := satAdd 16 c.lost 1, incomplete := true })) := by
    constructor; intro p hp; cases p <;> simp_all [Piece.kept, State.onClaims]
  unfold State.loseEntry
  exact changesOnly_ite (changesOnly_mono h rfl) (changesOnly_then h (notify_frame ..) rfl rfl)

theorem addPeerEntry_frame (s : State) (w : Withdrawal) :
    s.ChangesOnly [.withdrawals, .notices] (s.addPeerEntry w) :=
  changesOnly_ite (loseEntry_frame s w) (changesOnly_mono (setList_frame ..) rfl)

theorem addOwnEntry_frame (s : State) (w : Withdrawal) :
    s.ChangesOnly [.withdrawals] (s.addOwnEntry w) :=
  changesOnly_then (setList_frame ..) (markStatus_frame _) rfl rfl

theorem release_frame (s : State) (c : WKind → Bool) :
    s.ChangesOnly [.withdrawals, .ownQueue] (s.release c) := by
  unfold State.release
  split
  · exact changesOnly_then (changesOnly_then (removeEntries_frame ..) (sendDrop_frame ..)
      (e := [.withdrawals, .ownQueue]) rfl rfl) (markStatus_frame _) rfl rfl
  · exact changesOnly_refl ..

theorem enterForced_frame (s : State) : s.ChangesOnly [.withdrawals, .claimIds] s.enterForced := by
  unfold State.enterForced
  split
  · exact changesOnly_then (updateEntries_frame ..) (markStatus_frame _) rfl rfl
  · refine changesOnly_then (f := [.claimIds]) ?_ (addOwnEntry_frame ..) rfl rfl
    constructor; intro p hp; cases p <;> simp_all [Piece.kept, State.onClaims]

theorem announceForced_frame (s : State) : s.ChangesOnly [.ownQueue] s.announceForced := by
  unfold State.announceForced
  split
  · exact sendForced_frame ..
  · exact changesOnly_refl ..

theorem recordForced_frame (s : State) :
    s.ChangesOnly [.withdrawals, .claimIds, .ownQueue] s.recordForced :=
  changesOnly_then (enterForced_frame s) (announceForced_frame _) rfl rfl

theorem enterMaintKind_frame (s : State) (b : Bool) :
    s.ChangesOnly [.withdrawals] (s.enterMaintKind b) := by
  unfold State.enterMaintKind
  split
  · exact changesOnly_then (updateEntries_frame ..) (markStatus_frame _) rfl rfl
  · exact changesOnly_refl ..

theorem leaveMaintKind_frame (s : State) : s.ChangesOnly [.withdrawals] s.leaveMaintKind := by
  unfold State.leaveMaintKind
  split
  · exact changesOnly_then (updateEntries_frame ..) (markStatus_frame _) rfl rfl
  · exact changesOnly_refl ..

/-! ### Strings and the test job -/

theorem withStrings_frame (s : State) (l : List StringRec) :
    s.ChangesOnly [.strings] (s.withStrings l) := by
  constructor; intro p hp; cases p <;> simp_all [Piece.kept]

theorem onString_frame (s : State) (k : Nat) (f : StringRec → StringRec) :
    s.ChangesOnly [.strings] (s.onString k f) := withStrings_frame ..

theorem withJob_frame (s : State) (j : TestJob) : s.ChangesOnly [.job] (s.withJob j) := by
  constructor; intro p hp; cases p <;> simp_all [Piece.kept]

theorem dischReq_frame (s : State) (b : Bool) :
    s.ChangesOnly [.dischReq] (s.onOuts (fun o => { o with dischReq := b })) := by
  constructor; intro p hp; cases p <;> simp_all [Piece.kept, State.onOuts]

theorem formPermit_frame (s : State) : s.ChangesOnly [.lamp] s.formPermit := by
  constructor; intro p hp; cases p <;> simp_all [Piece.kept, State.formPermit, State.onOuts]

theorem recompute_frame (s : State) (k : Nat) : s.ChangesOnly [.strings, .notices] (s.recompute k) := by
  unfold State.recompute
  split
  · exact changesOnly_ite (changesOnly_mono (withStrings_frame ..) rfl)
      (changesOnly_then (withStrings_frame ..) (notify_frame ..) rfl rfl)
  · exact changesOnly_refl ..

theorem setStringState_frame (s : State) (k : Nat) (x : StringState) :
    s.ChangesOnly [.strings] (s.setStringState k x) :=
  changesOnly_then (onString_frame ..) (markStatus_frame _) rfl rfl

theorem restoreString_frame (s : State) (k : Nat) : s.ChangesOnly [.strings] (s.restoreString k) :=
  changesOnly_then (setStringState_frame ..) (onString_frame ..) rfl rfl

theorem tryCapture_frame (s : State) (k : Nat) (h : Handed) :
    s.ChangesOnly [.strings, .notices] (s.tryCapture k h) := by
  unfold State.tryCapture
  split
  · split
    · refine changesOnly_ite (changesOnly_ite ?_ ?_) (changesOnly_refl ..)
      · exact changesOnly_then (onString_frame ..) (recompute_frame ..) rfl rfl
      · exact changesOnly_mono (onString_frame ..) rfl
    · exact changesOnly_refl ..
  · exact changesOnly_refl ..

theorem testDenied_frame (s : State) (o : ClaimOutcome) (a b : Nat) :
    s.ChangesOnly [.job, .notices] (s.testDenied o a b) :=
  changesOnly_then (withJob_frame ..) (notify_frame ..) rfl rfl

theorem startTest_frame (s : State) (i : Nat) :
    s.ChangesOnly [.strings, .dischReq, .job, .notices] (s.startTest i) := by
  unfold State.startTest
  simp only
  split
  · exact changesOnly_then (changesOnly_then (changesOnly_then (changesOnly_then (onString_frame ..)
      (setStringState_frame ..) (e := [.strings]) rfl rfl) (dischReq_frame ..)
      (e := [.strings, .dischReq]) rfl rfl)
      (withJob_frame ..) (e := [.strings, .dischReq, .job]) rfl rfl) (notify_frame ..) rfl rfl
  · exact changesOnly_refl ..

theorem verdictEffects_frame (s : State) (k : Nat) (v : Verdict) :
    s.ChangesOnly [.strings, .notices] (s.verdictEffects k v) := by
  unfold State.verdictEffects
  split
  · exact changesOnly_ite (changesOnly_then (onString_frame ..) (recompute_frame ..) rfl rfl)
      (changesOnly_refl ..)
  · exact changesOnly_then (changesOnly_then (onString_frame ..) (recompute_frame ..)
      (e := [.strings, .notices]) rfl rfl) (onString_frame ..) rfl rfl
  all_goals exact changesOnly_refl ..

theorem testEndNotice_frame (s : State) (k : Nat) (v : Verdict) :
    s.ChangesOnly [.notices] (s.testEndNotice k v) := by
  unfold State.testEndNotice
  split
  · exact notify_frame ..
  · exact changesOnly_refl ..

/-- What the end of a test may change (R46 to R49). -/
def testEndPieces : List Piece := [.strings, .dischReq, .withdrawals, .ownQueue, .job, .notices]

theorem endTest_frame (s : State) (v : Verdict) : s.ChangesOnly testEndPieces (s.endTest v) := by
  unfold State.endTest
  refine changesOnly_then (f := testEndPieces) ?_ (testEndNotice_frame ..) rfl rfl
  refine changesOnly_then (f := testEndPieces) ?_ (onString_frame ..) rfl rfl
  refine changesOnly_then (f := testEndPieces) ?_ (verdictEffects_frame ..) rfl rfl
  refine changesOnly_then (f := testEndPieces) ?_ (withJob_frame ..) rfl rfl
  refine changesOnly_then (f := testEndPieces) ?_ (onString_frame ..) rfl rfl
  refine changesOnly_then (f := testEndPieces) ?_ (release_frame ..) rfl rfl
  exact changesOnly_then (dischReq_frame ..) (setStringState_frame ..) rfl rfl

theorem testEndCheck_frame (s : State) (k : Nat) (h : Handed) :
    s.ChangesOnly testEndPieces (s.testEndCheck k h) := by
  unfold State.testEndCheck
  split
  · split
    · exact changesOnly_ite (endTest_frame ..) (changesOnly_ite (endTest_frame ..) (changesOnly_refl ..))
    · exact changesOnly_refl ..
  · exact changesOnly_refl ..

/-! ### Visits -/

theorem onVisit_frame (s : State) (f : Visits → Visits) : s.ChangesOnly [.visits] (s.onVisit f) := by
  constructor; intro p hp; cases p <;> simp_all [Piece.kept, State.onVisit]

theorem visitOpenedNotice_frame (s : State) : s.ChangesOnly [.notices] s.visitOpenedNotice := by
  unfold State.visitOpenedNotice
  split
  · exact notify_frame ..
  · exact changesOnly_refl ..

theorem retireVisit_frame (s : State) (a : Option (ClaimOutcome × Bool)) :
    s.ChangesOnly [.visits, .lamp] (s.retireVisit a) := by
  unfold State.retireVisit
  split
  · exact changesOnly_then (onVisit_frame ..) (formPermit_frame _) rfl rfl
  · exact changesOnly_refl ..

theorem autoAction_frame (s : State) (k : ActionKind) : s.ChangesOnly [.visits] (s.autoAction k) :=
  changesOnly_ite (onVisit_frame ..) (changesOnly_refl ..)

theorem admitVisit_frame (s : State) : s.ChangesOnly [.visits, .lamp, .notices] s.admitVisit :=
  changesOnly_then (changesOnly_then (onVisit_frame ..) (formPermit_frame _) (e := [.visits, .lamp])
    rfl rfl) (visitOpenedNotice_frame _) rfl rfl

theorem refuseVisit_frame (s : State) (o : ClaimOutcome) (a b : Nat) :
    s.ChangesOnly [.visits, .lamp, .notices] (s.refuseVisit o a b) := by
  unfold State.refuseVisit
  split
  · exact changesOnly_then (retireVisit_frame ..) (notify_frame ..) rfl rfl
  · exact changesOnly_refl ..

/-! ### The sequencer -/

theorem onSeq_frame (s : State) (f : Sequencer → Sequencer) : s.ChangesOnly [.sequencer] (s.onSeq f) := by
  constructor; intro p hp; cases p <;> simp_all [Piece.kept, State.onSeq]

theorem goto_frame (s : State) (x : SeqState) :
    s.ChangesOnly [.sequencer, .requests, .lamp] (s.goto x) := by
  refine changesOnly_then (f := [.sequencer, .requests]) ?_ (formPermit_frame _) rfl rfl
  constructor; intro p hp; cases p <;> simp_all [Piece.kept, State.onOuts, State.onSeq]

theorem startXfer_frame (s : State) (d : Direction) (m : XferMode) :
    s.ChangesOnly [.sequencer] (s.startXfer d m) := onSeq_frame ..

theorem followRetransfer_frame (s : State) : s.ChangesOnly [.sequencer] s.followRetransfer :=
  changesOnly_ite (changesOnly_ite (changesOnly_refl ..) (onSeq_frame ..)) (onSeq_frame ..)

theorem goOnline_frame (s : State) : s.ChangesOnly [.sequencer, .requests, .lamp] s.goOnline :=
  changesOnly_then (goto_frame ..) (onSeq_frame ..) rfl rfl

/-- What a movement of the sequencer may change (R98 to R118). -/
def movePieces : List Piece :=
  [.sequencer, .requests, .lamp, .withdrawals, .visits, .ownQueue, .notices]

theorem enterMaint_frame (s : State) (x : SeqState) (b : Bool) :
    s.ChangesOnly movePieces (s.enterMaint x b) := by
  have h : s.ChangesOnly movePieces
      (((s.goto .maint).onSeq (fun q => { q with prior := some x })).enterMaintKind s.cabinetVisitOpen) :=
    changesOnly_then (changesOnly_then (goto_frame ..) (onSeq_frame ..) (e := movePieces) rfl rfl)
      (enterMaintKind_frame ..) rfl rfl
  unfold State.enterMaint
  refine changesOnly_ite (changesOnly_then h (autoAction_frame ..) rfl rfl) ?_
  refine changesOnly_then (f := movePieces) ?_ (notify_frame ..) rfl rfl
  exact changesOnly_ite (changesOnly_then h (announceForced_frame _) rfl rfl) h

theorem enterStatic_frame (s : State) (x : SeqState) : s.ChangesOnly movePieces (s.enterStatic x) := by
  have h : s.ChangesOnly movePieces ((s.goto x).onSeq (fun q => { q with prior := none })) :=
    changesOnly_then (goto_frame ..) (onSeq_frame ..) rfl rfl
  unfold State.enterStatic
  exact changesOnly_ite (changesOnly_then h (enterMaint_frame ..) rfl rfl)
    (changesOnly_then h (followRetransfer_frame _) rfl rfl)

theorem failTransfer_frame (s : State) (c : FaultCause) :
    s.ChangesOnly [.sequencer, .requests, .lamp, .withdrawals, .ownQueue, .notices]
      (s.failTransfer c) := by
  unfold State.failTransfer
  simp only
  split
  · refine changesOnly_then (f := [.sequencer, .requests, .lamp, .withdrawals, .ownQueue]) ?_
      (notify_frame ..) rfl rfl
    exact changesOnly_then (goOnline_frame _) (release_frame ..) rfl rfl
  · refine changesOnly_then (f := [.sequencer, .requests, .lamp]) ?_ (notify_frame ..) rfl rfl
    refine changesOnly_then (f := [.sequencer, .requests, .lamp]) ?_ (followRetransfer_frame _) rfl rfl
    exact changesOnly_then (goto_frame ..) (onSeq_frame ..) rfl rfl
  all_goals exact changesOnly_refl ..

theorem lockRecheck_frame (s : State) :
    s.ChangesOnly [.sequencer, .requests, .lamp, .withdrawals, .ownQueue, .notices] s.lockRecheck := by
  unfold State.lockRecheck
  split
  · refine changesOnly_ite (changesOnly_refl ..) (changesOnly_ite ?_ (failTransfer_frame ..))
    exact changesOnly_mono (onSeq_frame ..) rfl
  · exact changesOnly_mono (followRetransfer_frame _) rfl

/-! ### The claim slot -/

theorem setSlot_frame (s : State) (x : Slot) : s.ChangesOnly [.slot] (s.setSlot x) := by
  constructor; intro p hp; cases p <;> simp_all [Piece.kept, State.setSlot, State.onClaims]

theorem sendClaim_frame (s : State) (q : Request) :
    s.ChangesOnly [.claimIds, .slot, .ownQueue] (s.sendClaim q) := by
  unfold State.sendClaim
  refine changesOnly_then (f := [.claimIds, .ownQueue]) ?_ (setSlot_frame ..) rfl rfl
  refine changesOnly_then (f := [.claimIds]) ?_ (queueOwn_frame ..) rfl rfl
  constructor; intro p hp; cases p <;> simp_all [Piece.kept, State.onClaims]

theorem requestClaim_frame (s : State) (who : Requester) (k : WKind) (c : Scope) (m : Nat) :
    s.ChangesOnly [.claimIds, .slot, .ownQueue] (s.requestClaim who k c m).2 := by
  unfold State.requestClaim
  split
  · split
    · exact changesOnly_refl ..
    · exact sendClaim_frame ..
  · exact changesOnly_refl ..

theorem reportTest_frame (s : State) (f : Final) : s.ChangesOnly testEndPieces (s.reportTest f) := by
  unfold State.reportTest
  split
  · split
    · exact changesOnly_mono (testDenied_frame ..) rfl
    · refine changesOnly_ite (changesOnly_ite ?_ ?_) (changesOnly_mono (testDenied_frame ..) rfl)
      · exact changesOnly_mono (startTest_frame ..) rfl
      · exact changesOnly_then (release_frame ..) (testDenied_frame ..) rfl rfl
  · exact changesOnly_refl ..

theorem reportSeq_frame (s : State) (i : Nat) (f : Final) :
    s.ChangesOnly [.sequencer, .requests, .lamp, .withdrawals, .ownQueue, .notices]
      (s.reportSeq i f) := by
  unfold State.reportSeq
  refine changesOnly_ite (changesOnly_then (onSeq_frame ..) (notify_frame ..) rfl rfl) ?_
  refine changesOnly_ite (changesOnly_ite ?_ ?_) ?_
  · exact changesOnly_then (changesOnly_then (onSeq_frame ..) (goto_frame ..)
      (e := [.sequencer, .requests, .lamp]) rfl rfl) (startXfer_frame ..) rfl rfl
  · refine changesOnly_then (f := [.sequencer, .requests, .lamp, .withdrawals, .ownQueue]) ?_
      (notify_frame ..) rfl rfl
    exact changesOnly_then (changesOnly_then (onSeq_frame ..) (release_frame ..)
      (e := [.sequencer, .withdrawals, .ownQueue]) rfl rfl) (goOnline_frame _) rfl rfl
  · exact changesOnly_then (changesOnly_then (onSeq_frame ..) (goOnline_frame _)
      (e := [.sequencer, .requests, .lamp]) rfl rfl) (notify_frame ..) rfl rfl

theorem reportVisit_frame (s : State) (f : Final) :
    s.ChangesOnly [.visits, .lamp, .notices] (s.reportVisit f) := by
  unfold State.reportVisit
  split
  · exact changesOnly_ite (changesOnly_ite (admitVisit_frame _) (refuseVisit_frame ..))
      (changesOnly_refl ..)
  · exact changesOnly_refl ..

/-- What a final outcome may change at its requester (R87). -/
def reportPieces : List Piece := testEndPieces ++ [.sequencer, .requests, .lamp, .visits]

theorem report_frame (s : State) (q : Request) (f : Final) :
    s.ChangesOnly reportPieces (s.report q f) := by
  unfold State.report
  split
  · exact changesOnly_mono (reportSeq_frame ..) rfl
  · exact changesOnly_mono (reportTest_frame ..) rfl
  · exact changesOnly_mono (reportVisit_frame ..) rfl

/-- What the settlement of a claim may change (R82 to R87). -/
def settlePieces : List Piece := .slot :: reportPieces

theorem finalOutcome_frame (s : State) (q : Request) (f : Final) :
    s.ChangesOnly settlePieces (s.finalOutcome q f) :=
  changesOnly_then (setSlot_frame ..) (report_frame ..) rfl rfl

theorem settleGranted_frame (s : State) (q : Request) (i : Nat) :
    s.ChangesOnly settlePieces (s.settleGranted q i) := by
  unfold State.settleGranted
  refine changesOnly_ite ?_ ?_
  · refine changesOnly_then (f := settlePieces) ?_ (report_frame ..) rfl rfl
    exact changesOnly_then (changesOnly_then (setSlot_frame ..) (sendGrant_frame ..) (e := settlePieces)
      rfl rfl) (sendDrop_frame ..) rfl rfl
  · refine changesOnly_then (f := settlePieces) ?_ (report_frame ..) rfl rfl
    exact changesOnly_then (changesOnly_then (setSlot_frame ..) (addOwnEntry_frame ..) (e := settlePieces)
      rfl rfl) (sendGrant_frame ..) rfl rfl

theorem retryOrEnd_frame (s : State) (q : Request) (f : Final) :
    s.ChangesOnly settlePieces (s.retryOrEnd q f) :=
  changesOnly_ite (finalOutcome_frame ..)
    (changesOnly_ite (finalOutcome_frame ..) (changesOnly_mono (setSlot_frame ..) rfl))

theorem settleFailed_frame (s : State) (q : Request) (i : Nat) (f : Final) :
    s.ChangesOnly settlePieces (s.settleFailed q i f) := by
  have h : s.ChangesOnly settlePieces ((s.setSlot .free).sendDrop i .failed) :=
    changesOnly_then (setSlot_frame ..) (sendDrop_frame ..) rfl rfl
  unfold State.settleFailed
  split
  all_goals first
    | exact changesOnly_trans h (retryOrEnd_frame ..)
    | exact changesOnly_trans h (finalOutcome_frame ..)

theorem claimReturned_frame (s : State) (b : List Byte) :
    s.ChangesOnly settlePieces (s.claimReturned b) := by
  unfold State.claimReturned
  split
  · refine changesOnly_ite ?_ (changesOnly_refl ..)
    split
    · exact settleGranted_frame ..
    · exact settleFailed_frame ..
  all_goals exact changesOnly_refl ..

theorem giveUp_frame (s : State) (w : Requester) : s.ChangesOnly settlePieces (s.giveUp w) := by
  unfold State.giveUp
  split
  · exact changesOnly_ite (changesOnly_mono (setSlot_frame ..) rfl) (changesOnly_refl ..)
  · exact changesOnly_ite (finalOutcome_frame ..) (changesOnly_refl ..)
  · exact changesOnly_refl ..

/-- What an event of R41 and R45 may change. -/
def abortPieces : List Piece := .slot :: testEndPieces

theorem giveUp_ageing_frame (s : State) : s.ChangesOnly abortPieces (s.giveUp .ageing) := by
  unfold State.giveUp
  split
  · exact changesOnly_ite (changesOnly_mono (setSlot_frame ..) rfl) (changesOnly_refl ..)
  · rename_i q _ _
    split
    · rename_i h
      unfold State.finalOutcome State.report
      simp only [h]
      exact changesOnly_then (setSlot_frame ..) (reportTest_frame ..) rfl rfl
    · exact changesOnly_refl ..
  · exact changesOnly_refl ..

theorem abortTest_frame (s : State) (c : AbortCause) : s.ChangesOnly abortPieces (s.abortTest c) := by
  unfold State.abortTest
  split
  · exact changesOnly_mono (endTest_frame ..) rfl
  · split
    · exact changesOnly_then (withJob_frame ..) (giveUp_ageing_frame _) rfl rfl
    · exact changesOnly_refl ..
  · exact changesOnly_refl ..

theorem abortTest_idle (s : State) (c : AbortCause) (h : s.job.state = .idle) : s.abortTest c = s := by
  simp [State.abortTest, h]

/-! ### The end of an event -/

theorem figures_frame (s : State) (f : Figures) (m : Margin) :
    s.ChangesOnly [.margin] (s.onView (fun v => { v with figures := f, margin := m })) := by
  constructor; intro p hp; cases p <;> simp_all [Piece.kept, State.onView]

/-- The margin state set, with the notice of a change and its mark (R68). -/
theorem marginNotice_frame (s : State) (g : Figures) (m : Margin) (k : NoticeKind) (x y z w : Int) :
    s.ChangesOnly [.margin, .notices]
      ((s.onView (fun v => { v with figures := g, margin := m })).notify k x y z w).markStatus :=
  changesOnly_then (changesOnly_then (figures_frame ..) (notify_frame ..) (e := [.margin, .notices])
    rfl rfl) (markStatus_frame _) rfl rfl

theorem marginStep_idle (s : State) (h : s.job.state = .idle) :
    s.ChangesOnly [.margin, .notices] s.marginStep := by
  unfold State.marginStep
  simp only
  refine changesOnly_ite (changesOnly_mono (figures_frame ..) rfl) ?_
  split
  · rw [abortTest_idle _ _ ((congrArg _ ((marginNotice_frame ..).kept .job (by decide))).trans h)]
    exact marginNotice_frame ..
  · exact marginNotice_frame ..

/-- What an evaluation of the margin state may change where a test is in progress. -/
def evalPieces : List Piece := .margin :: abortPieces

theorem marginStep_frame (s : State) : s.ChangesOnly evalPieces s.marginStep := by
  unfold State.marginStep
  simp only
  refine changesOnly_ite (changesOnly_mono (figures_frame ..) rfl) ?_
  split
  · refine changesOnly_then (f := evalPieces) ?_ (abortTest_frame ..) rfl rfl
    exact changesOnly_mono (marginNotice_frame ..) rfl
  · exact changesOnly_mono (marginNotice_frame ..) rfl

theorem evalMargin_frame (s : State) : s.ChangesOnly evalPieces s.evalMargin := by
  unfold State.evalMargin
  exact changesOnly_ite (changesOnly_ite (marginStep_frame s)
    (changesOnly_trans (marginStep_frame s) (marginStep_frame _))) (changesOnly_refl ..)

theorem evalMargin_idle (s : State) (h : s.job.state = .idle) :
    s.ChangesOnly [.margin, .notices] s.evalMargin := by
  have a := marginStep_idle s h
  have b := marginStep_idle s.marginStep ((congrArg _ (a.kept .job (by decide))).trans h)
  unfold State.evalMargin
  exact changesOnly_ite (changesOnly_ite a (changesOnly_trans a b)) (changesOnly_refl ..)

/-- The end of an event changes no more than R55, R67 and R68 give. -/
theorem finish_frame (s0 s : State) : s.ChangesOnly s.eventEnd (State.finish s0 s) := by
  unfold State.eventEnd
  split
  · rename_i h
    unfold State.finish
    exact changesOnly_ite (changesOnly_then (evalMargin_idle s h) (queueStatus_frame _) rfl rfl)
      (changesOnly_mono (evalMargin_idle s h) rfl)
  · unfold State.finish
    exact changesOnly_ite (changesOnly_then (evalMargin_frame s) (queueStatus_frame _) rfl rfl)
      (changesOnly_mono (evalMargin_frame s) rfl)

end Sys2Proof.Machine
end

