-- ==== Sys2Proof/Laws/View.lean ====
section
/-! SUPPORT. What the floor sums and the margin state depend on. -/

namespace Sys2Proof.Machine

/-- Two states that the floor sums do not tell apart. -/
structure State.SameView (s t : State) : Prop where
  joined : t.joined = s.joined
  cfg : t.cfg = s.cfg
  peers : t.view.peers = s.view.peers
  list : t.claims.list = s.claims.list
  core : t.ownCore = s.ownCore

theorem sameView_entry {s t : State} (h : s.SameView t) (n : Nat) :
    (t.entry n).state = (s.entry n).state ∧ (t.entry n).core = (s.entry n).core := by
  unfold State.entry
  rw [h.joined, show t.own = s.own by simp only [State.own, h.cfg],
    show t.peer n = s.peer n by simp only [State.peer, h.peers]]
  split
  · exact ⟨rfl, h.core⟩
  · exact ⟨rfl, rfl⟩

theorem sameView_covered {s t : State} (h : s.SameView t) (hs : List Hyp) (n : Nat) :
    t.covered hs n = s.covered hs n := by
  simp only [State.covered, h.list, (sameView_entry h n).2]

theorem sameView_stringCovered {s t : State} (h : s.SameView t) (hs : List Hyp) (n k : Nat) :
    t.stringCovered hs n k = s.stringCovered hs n k := by
  simp only [State.stringCovered, h.list]

theorem sameView_stringEnergy {s t : State} (h : s.SameView t) (hs : List Hyp) (n : Nat)
    (l : List StringReport) : ∀ k, t.stringEnergy hs n k l = s.stringEnergy hs n k l := by
  induction l with
  | nil => intro k; rfl
  | cons r l ih => intro k; rw [State.stringEnergy, State.stringEnergy, sameView_stringCovered h, ih]

theorem sameView_contribution {s t : State} (h : s.SameView t) (hs : List Hyp) (n : Nat) :
    t.contribution hs n = s.contribution hs n := by
  simp only [State.contribution, sameView_covered h, sameView_entry h, sameView_stringEnergy h]

theorem sameView_totals {s t : State} (h : s.SameView t) (hs : List Hyp) :
    t.totals hs = s.totals hs := by
  have : (fun (x : Totals) n => x.add (t.contribution hs n))
      = fun x n => x.add (s.contribution hs n) := by funext x n; rw [sameView_contribution h]
  unfold State.totals; rw [this]

theorem sameView_policy {s t : State} (h : s.SameView t) : t.policy = s.policy := by
  simp only [State.policy, h.cfg]

theorem sameView_figures {s t : State} (h : s.SameView t) : t.figuresNow = s.figuresNow := by
  simp only [State.figuresNow, sameView_policy h, sameView_totals h]

theorem sameView_margin {s t : State} (h : s.SameView t) (hm : t.view.margin = s.view.margin) :
    t.marginNow = s.marginNow := by
  simp only [State.marginNow, sameView_policy h, sameView_totals h, hm]

/-- `marginOk` holds of a state the sums do not tell apart from one it holds of. -/
theorem sameView_marginOk {s t : State} (h : s.SameView t) (hm : t.view.margin = s.view.margin)
    (hf : t.view.figures = s.view.figures) : t.marginOk = s.marginOk := by
  simp only [State.marginOk, h.joined, sameView_figures h, sameView_margin h hm, hm, hf]

end Sys2Proof.Machine
end

