-- ==== Sys2Proof/Laws/Events.lean ====
section
/-! SUPPORT. What an event answers, what its end does, and when its end does nothing. -/

namespace Sys2Proof.Machine

/-- A row that can occur in a running part answers with its event. -/
theorem event_next {s : State} {g : Bool} {body : State → State} (hr : s.running = true)
    (hg : g = true) : s.event g body = .next (s.runEvent body) := by simp [State.event, hr, hg]

/-- A row that cannot occur changes nothing. -/
theorem event_idle {s : State} {g : Bool} {body : State → State} (h : (s.running && g) = false) :
    s.event g body = .next s := by simp [State.event, h]

/-- A command is taken by its row. -/
theorem command_next {s : State} {row : Instr} {r : List Byte} {body : List Byte → State → State}
    (h : s.takes row r) : s.command row body = .next (s.runEvent (body r)) := by
  obtain ⟨hr, ⟨d, hs⟩, ht⟩ := h
  simp [State.command, hs, event_next hr, ht]

/-- An evaluation that finds the figures and the margin state as they are held changes nothing. -/
theorem evalMargin_quiet {s : State}
    (h : s.joined = true → s.view.figures = s.figuresNow ∧ s.view.margin = s.marginNow) :
    s.evalMargin = s := by
  unfold State.evalMargin
  by_cases hj : s.joined = true
  · obtain ⟨hf, hm⟩ := h hj
    have : s.marginStep = s := by
      unfold State.marginStep
      simp only [← hf, ← hm, State.onView, if_true]
      cases s; rfl
    simp [this]
  · simp [hj]

/-- The end of an event that left the view and what R55 watches as they were changes nothing. -/
theorem finish_quiet {s0 s : State}
    (h : s.joined = true → s.view.figures = s.figuresNow ∧ s.view.margin = s.marginNow)
    (hd : s.statusDue = false) (hr : s.reported = s0.reported) : State.finish s0 s = s := by
  unfold State.finish
  rw [evalMargin_quiet h]
  simp [hd, hr]

/-- Before JOIN an event has no end of its own. -/
theorem finish_beforeJoin {s0 s : State} (h : s.joined = false) : State.finish s0 s = s := by
  simp [State.finish, State.evalMargin, h]

/-- What `marginOk` says of a joined part. -/
theorem marginOk_iff {s : State} :
    s.marginOk = true ↔ (s.joined = true → s.view.figures = s.figuresNow ∧ s.view.margin = s.marginNow) := by
  unfold State.marginOk
  cases s.joined <;> simp

/-- The host port is no part of the view. -/
theorem sameView_host (s : State) (x : HostPort) : s.SameView (s.withHost x) :=
  ⟨rfl, rfl, rfl, rfl, rfl⟩

/-- The mark of an event is no part of the view. -/
theorem sameView_statusDue (s : State) (x : Bool) : s.SameView (s.withStatusDue x) :=
  ⟨rfl, rfl, rfl, rfl, rfl⟩

theorem sameView_trans {s t u : State} (h : s.SameView t) (k : t.SameView u) : s.SameView u :=
  ⟨k.joined.trans h.joined, k.cfg.trans h.cfg, k.peers.trans h.peers, k.list.trans h.list,
    k.core.trans h.core⟩

/-- Where a state meets `marginOk` and the event left the view and what R55 watches, its end does
nothing. -/
theorem finish_sameView {s s0 t : State} (hs : s.marginOk = true) (h : s.SameView t)
    (hm : t.view.margin = s.view.margin) (hf : t.view.figures = s.view.figures)
    (hd : t.statusDue = false) (hr : t.reported = s0.reported) : State.finish s0 t = t :=
  finish_quiet (marginOk_iff.mp (by rw [sameView_marginOk h hm hf, hs])) hd hr

/-- A reply in the slot changes neither the view nor what R55 watches. -/
theorem finish_reply {s : State} (r : List Byte) (c : ReplyCode) (b : List Byte)
    (hm : s.marginOk = true) :
    State.finish (s.withStatusDue false) (s.repliedOnly r c b) = s.repliedOnly r c b :=
  finish_sameView hm (sameView_trans (sameView_host s _) (sameView_statusDue _ false)) rfl rfl rfl rfl

/-- The reply to the record in the slot. -/
theorem answer_pending {s : State} {r : List Byte} {d : Nat} (h : s.host.slot = .pending r d)
    (c : ReplyCode) (b : List Byte) :
    s.answer c b = s.withHost { s.host with slot := replyTo r c b } := by
  simp [State.answer, h, State.onHost, replyTo]

/-- A command whose whole effect is its reply. -/
theorem command_reply {s : State} {row : Instr} {r : List Byte} {body : List Byte → State → State}
    {c : ReplyCode} {b : List Byte} (h : s.takes row r) (hm : s.marginOk = true)
    (hb : body r (s.withStatusDue false) = (s.withStatusDue false).answer c b) :
    s.command row body = .next (s.repliedOnly r c b) := by
  have hd := h
  obtain ⟨_, ⟨d, hs⟩, _⟩ := hd
  have hs' : (s.withStatusDue false).host.slot = .pending r d := hs
  rw [command_next h, State.runEvent, hb, answer_pending hs', ← finish_reply r c b hm]
  rfl

end Sys2Proof.Machine
end

