-- ==== Sys2Proof/Laws/Loop.lean ====
section
/-! SUPPORT. What a port sends, as the receiver at the far end takes it. -/

namespace Sys2Proof.Machine

/-- Every symbol a port sends passes the receiver's check (R143, R144). -/
theorem symbolOk_sent (d : Byte) (m : Bool) : symbolOk (sentSymbol d m) = true := by
  have fold : ∀ (l : List Nat) (a b : Bool), l.foldl (fun a i => a ^^ d.getLsbD i) (a ^^ b)
      = ((l.foldl (fun a i => a ^^ d.getLsbD i) a) ^^ b) := by
    intro l
    induction l with
    | nil => intros; rfl
    | cons i l ih =>
      intro a b
      simp only [List.foldl_cons]
      rw [← ih]
      congr 1
      cases a <;> cases b <;> cases d.getLsbD i <;> rfl
  unfold symbolOk sentSymbol
  simp only [fold, Bool.true_and]
  cases (List.range 8).foldl (fun a i => a ^^ d.getLsbD i) m <;> rfl

/-- A frame is sent as one symbol a byte. -/
@[simp] theorem frameSymbols_length (b : List Byte) : (frameSymbols b).length = b.length := by
  cases b <;> simp [frameSymbols]

/-- Symbol `n` of a frame carries its byte `n`, marked where it is the first (R143). -/
theorem frameSymbols_getElem? (b : List Byte) (n : Nat) :
    (frameSymbols b)[n]? = b[n]?.map (fun d => sentSymbol d (n == 0)) := by
  cases b with
  | nil => rfl
  | cons d l => cases n <;> simp [frameSymbols]

end Sys2Proof.Machine
end

