-- ==== Sys2Proof/Tests/Slice0.lean ====
section
/-! SUPPORT. Tests: what WellFormed refuses, the worked cases of the manual, and for each statement of
Certificates/Slice0/Obligations.lean that has hypotheses a concrete state and operands that meet them.
Expected values come from the manual's worked cases and tables, or from its rules by hand. -/

namespace Sys2Proof.Tests

open Sys2Proof.Machine

-- One evaluation after another: all at once they ask for more thread stacks than there is memory for.
set_option Elab.async false

/-! ### What WellFormed refuses, one ill-formed command for each check -/

theorem test_wf_image : (Instr.imageReadComplete (List.replicate 97 0#8)).wf = false := by decide
theorem test_wf_meas : (Instr.measWrite (List.replicate 39 0#8)).wf = false := by decide
theorem test_wf_record : (Instr.cmdWrite (List.replicate 27 0#8)).wf = false := by decide
theorem test_wf_badTransaction : (Instr.badTransaction 0x0A#8).wf = false := by decide
theorem test_wf_peerStale : (Instr.peerStale 0).wf = false := by decide
theorem test_wf_peerLost : (Instr.peerLost 17).wf = false := by decide
theorem test_wf_holdOwner : (Instr.provisionalHoldExpiry 17 1).wf = false := by decide
theorem test_wf_holdId : (Instr.provisionalHoldExpiry 1 0).wf = false := by decide
theorem test_wf_overdueId : (Instr.withdrawalOverdue 256).wf = false := by decide
theorem test_wf_tag : (Instr.inFlightTagExpiry 0).wf = false := by decide
theorem test_wf_accepts : (Instr.imageReadComplete (List.replicate 98 0#8)).wf = true
    ∧ (Instr.badTransaction 0x0B#8).wf = true ∧ (Instr.provisionalHoldExpiry 16 255).wf = true := by
  decide

/-- The table gives no row any bits, so a word spells no command (log 34). -/
theorem test_decode : decodeTableWord 8 3 = none := by decide

/-! ### Strings: the worked cases of chapters 1 and 2 -/

/-- The parameters of the worked string: n 40, C_rated 200, L_design 3650, N_cyc 400, η 97. -/
def par : StringParams := ⟨40, 200, 3650, 400, 97, 8500, 8000, 1050, 200, 20⟩

/-- The worked string of section 1.3 before its first frame. -/
def beforeA : StringRec := { StringRec.blank with
  q := 650000, qFull := 676872, soc := 9602, tRem := 340, tDah := 12000, iRef := 5, dischEvents := 3
  soh := 9401 }

/-- What the worked sequence of section 1.3 shows of a record. -/
def counted (r : StringRec) : List Nat :=
  [r.q, r.rem, r.tRem, r.tDah, r.soc, r.dischEvents, r.dischMs, r.dischSeconds]

/-- Section 1.3, worked sequence: the record after frames A to D. -/
theorem test_worked_frames :
    counted ((((beforeA.count par false (-1500) 100).count par false (-1498) 103).count par false
      (-1502) 99).count par false 205 97) = [649956, 6296, 26, 12001, 9602, 4, 302, 0] := by decide

/-- R11, second example: charging at +205 for 97 ms from an empty remainder. -/
theorem test_count_charging : (beforeA.count par false 205 97).rem = 9288 := by decide

/-- R12, example: w = 5 on a string 2 As below full. -/
theorem test_count_full :
    ({ beforeA with q := 676870 }.count par false 521 99).q = 676872 := by decide

/-- The worked string of section 1.5 after two years. -/
def twoYears : StringRec := { StringRec.blank with
  aCal := 380534400, tDah := 12000, deepCount := 1, rRef := some 4000, ageUnknown := false
  resList := [4500, 4600, 4800, 4550, 4700], q := 650000, fDay := 362 }

/-- The figures of a recompute in the order of the worked case: u, ρ, SoH, Q_full, Q, SoC, days left,
E_usable, e_avail. -/
def formed (r : StringRec) : List Nat :=
  [r.u, r.rho, r.soh, r.qFull, r.q, r.soc, r.daysLeft, r.eUsable, r.eAvail]

/-- Section 1.5, worked case. -/
theorem test_two_years : (twoYears.recompute par false).cls = .good
    ∧ formed (twoYears.recompute par false)
      = [2998, 11500, 9401, 676872, 650000, 9602, 1807, 866, 866] := by decide

/-- Section 1.5: the same string with its history unknown. -/
theorem test_two_years_unknown :
    formed ({ twoYears with ageUnknown := true }.recompute par false)
      = [2998, 11500, 8499, 611928, 611928, 10000, 1807, 815, 815] := by decide

/-- Section 1.5: the same string with a failed test of 6802. -/
theorem test_two_years_failed : ({ twoYears with testCap := some 6802 }.recompute par false).soh = 6802
    ∧ ({ twoYears with testCap := some 6802 }.recompute par false).cls = .ended
    ∧ ({ twoYears with testCap := some 6802 }.recompute par false).qFull = 489744
    ∧ ({ twoYears with testCap := some 6802 }.recompute par false).eAvail = 0 := by decide

/-- A capture of a sample `dv` and `di` after the baseline. -/
def capture (dv di : Int) (r : StringRec) : StringRec :=
  StringRec.captured par false ⟨true, (50000 - dv).toNat, -di, 250⟩
    { r with baseline := some ⟨50000, 0, true, .inService⟩ }

/-- Section 2.1, worked sequence, take-ins 1 to 5. -/
theorem test_captures_first :
    (capture 1 2000 (capture 12 250 (capture (-2) 300 (capture (-68) (-1410)
      (capture 70 1410 StringRec.blank))))).resList = [4964, 4822, 4800]
    ∧ (capture 1 2000 (capture (-2) 300 StringRec.blank)).captureRejects = 2 := by decide

/-- Section 2.1, worked sequence, take-ins 7 to 9: the list filled, the reference set, the ratio moved. -/
theorem test_captures_full :
    (capture 70 1480 { StringRec.blank with resList := [4964, 4822, 4800, 5000] }).rRef = some 4822
    ∧ (capture 87 1500 (capture 80 1400 { StringRec.blank with
      resList := [4964, 4822, 4800, 5000, 4729], rRef := some 4822 })).resList
        = [4800, 5000, 4729, 5714, 5800]
    ∧ (capture 87 1500 (capture 80 1400 { StringRec.blank with
      resList := [4964, 4822, 4800, 5000, 4729], rRef := some 4822 })).rho = 10369 := by decide

/-- R48, example: κ of 480,000 As delivered from SoC 9800. -/
theorem test_kappa : kappaOf par ⟨0, 9800, 2000, 90, 480000, none, none, none⟩ = 6802 := by decide

/-- R17 and R18: a mean of −3.5 gives −4, 600 frames that sum to 162,900 give 271 and factor 362, and the
bands change at 200 and 500. -/
theorem test_tick_temperature :
    ({ StringRec.blank with tSum := -7, tN := 2 }).tickTemp = -4
    ∧ bandFactor ({ StringRec.blank with tSum := 162900, tN := 600 }).tickTemp = 362
    ∧ bandFactor 199 = 192 ∧ bandFactor 200 = 256 ∧ bandFactor 499 = 1448 ∧ bandFactor 500 = 2048 := by
  decide

/-! ### A station of the four-station floor of section 3.6 -/

/-- The configuration of station 1 of that floor. -/
def cfg : Image := ⟨1, 1, 2, 100, 50, 2, 60, 500, 10, 4000, 2300, 10, 50, 50, 20, 10, 25, 5, 30, 2,
  [par, par]⟩

/-- A string that reports `e_avail` 866. -/
def string0 : StringRec := { StringRec.blank with
  cls := .good, ageUnknown := false, q := 650000, qFull := 676872, soc := 9602, soh := 9401, u := 2998
  rho := 11500, eUsable := 866, eAvail := 866, aCal := 380534400, tDah := 12000, deepCount := 1
  rRef := some 4000, resList := [4500, 4600, 4800, 4550, 4700], fDay := 362, loaded := true }

/-- A peer of that floor with the load `l`. -/
def peer (l : Nat) : PeerEntry := { PeerEntry.blank with
  state := .present, lastSeq := 1
  core := ⟨100, StationFlags.clear, 4000, l, [⟨.inService, .good, false, false, false, 866⟩,
    ⟨.inService, .good, false, false, false, 866⟩, StringReport.blank, StringReport.blank], 25, 5, 30⟩ }

/-- The margin state and the figures of the view as it stands. -/
def settled (s : State) : State :=
  { s with view := { s.view with figures := s.figuresNow, margin := s.marginNow } }

/-- Station 1, JOINED, on inverter, key in, both ports UP, one second after reset. -/
def joined : State := settled { State.reset with
  us := 1000000, pins := ⟨true, false, false, true, true⟩
  startup := ⟨.joined, 1, none, none, none, 0, none⟩
  image := some cfg, strings := [string0, string0], ticks := ⟨0, some 61000⟩
  view := { State.reset.view with
    peers := [PeerEntry.blank, peer 3000, peer 2800, peer 2600] ++ List.replicate 12 PeerEntry.blank
    seq := 1, statusAt := some 1100 }
  intake := { State.reset.intake with
    lastCounter := some 7, lastTakeMs := some 990, pAvail := 4000, load := 3200, vBypass := 2300 }
  dog := ⟨.watching, some 1490⟩
  loop := { State.reset.loop with
    a := { PortState.blank with up := true }, b := { PortState.blank with up := true } } }

/-- Section 3.6: the floor at the start. -/
theorem test_floor_figures : joined.view.figures
    = ⟨⟨16000, 11600, 11600, 0, 6928⟩, 1500, 35, 0, true, true, true⟩ := by decide

/-- Section 3.6: station 2 on bypass. -/
theorem test_floor_bypass : ({ joined with claims := { joined.claims with
    list := [⟨2, 9, .bypass, .cabinet, true, false, false, none, 900, false⟩] } }).figuresNow
    = ⟨⟨12000, 8600, 11600, 3000, 5196⟩, 1250, 36, 2586, true, true, true⟩ := by decide

theorem joined_marginOk : joined.marginOk = true := by decide

/-! ### Helpers of the witnesses -/

/-- The state after a row. -/
def after (i : Instr) (s : State) : State :=
  match exec i s with
  | .next t => t
  | .fault _ => s
  | .refused _ => s

/-- A command record: code, sequence 7, arguments, zeros up to 28 bytes (R197). -/
def record (code : Nat) (args : List Byte) : List Byte :=
  le8 code ++ le8 7 ++ args ++ List.replicate (26 - args.length) 0#8

/-- `s` with a record waiting in the slot. -/
def given (code : Nat) (args : List Byte) (s : State) : State :=
  { s with host := { s.host with slot := .pending (record code args) s.us } }

theorem given_takes {row : Instr} {code : Nat} {args : List Byte} {s : State}
    (h : (s.running && takenRow (record code args) == row) = true) :
    (given code args s).takes row (record code args) := by
  rw [Bool.and_eq_true] at h
  exact ⟨h.1, ⟨_, rfl⟩, by simpa using h.2⟩

/-- A JOINED state in which the margin state is the view's, with the arguments of a command. -/
abbrev Case := State × List Byte

/-- The case has what every statement about a command of a JOINED station supposes. -/
def fits (row : Instr) (code : Nat) (c : Case) : Bool :=
  (c.1.running && takenRow (record code c.2) == row)
  && (decide (c.1.startup.state = .joined) && c.1.marginOk)

theorem given_joined {code : Nat} {args : List Byte} {s : State} (h : s.startup.state = .joined) :
    (given code args s).startup.state = .joined := h

theorem given_marginOk {code : Nat} {args : List Byte} {s : State} (h : s.marginOk = true) :
    (given code args s).marginOk = true :=
  (sameView_marginOk (sameView_host s { s.host with slot := .pending (record code args) s.us })
    rfl rfl).trans h

theorem fits_meets {row : Instr} {code : Nat} {l : List Case} (h : l.all (fits row code) = true) :
    ∀ c ∈ l, (given code c.2 c.1).takes row (record code c.2)
      ∧ (given code c.2 c.1).startup.state = .joined ∧ (given code c.2 c.1).marginOk = true := by
  intro c hc
  have h1 := List.all_eq_true.mp h c hc
  rw [fits, Bool.and_eq_true, Bool.and_eq_true (decide _)] at h1
  exact ⟨given_takes h1.1, given_joined (of_decide_eq_true h1.2.1), given_marginOk h1.2.2⟩

/-- The reply a row gives in a case: its code and the first result byte. -/
def answered (row : Instr) (code : Nat) (c : Case) : ReplyCode × Nat :=
  match (after row (given code c.2 c.1)).host.slot with
  | .replied r => (r.code, byteAt r.result 0)
  | .empty => (.none, 0)
  | .pending _ _ => (.none, 0)

/-- A station without a supply, one in START_WINDOW with its window run out, and one in CONFIG_FAULT. -/
def dark : State := { joined with power := false }
def window : State := { joined with
  startup := ⟨.startWindow, 1, none, none, none, 0, some 1000⟩
  view := State.reset.view, ticks := State.reset.ticks, dog := State.reset.dog }
def faulty : State := { State.reset with startup := ⟨.configFault, 3, none, none, some .noAck, 0, none⟩ }

/-! ### The machine, reset and start-up -/

theorem meets_StepRunsTheFront : ({ joined with pending := [.join] }).pending = .join :: [] := by decide

theorem meets_IdleStep : (dark.pending = [] ∧ dark.running = false)
    ∧ (joined.pending = [] ∧ joined.running = true ∧ joined.dueNow = [] ∧ joined.dueMay = []
      ∧ joined.counter ≠ 65535)
    ∧ ({ State.reset with us := 20000 }.running = true
      ∧ { State.reset with us := 20000 }.options = [some .imageReadFailed])
    ∧ ((2 : Nat) ∈ stations ∧ joined.view.peers.length = 16 ∧ (joined.peer 2).state ≠ .absent) := by
  decide

theorem meets_ResetRows : dark.power = false ∧ joined.power = true ∧ joined.pins.resetN = true
    ∧ ({ joined with pins := { joined.pins with resetN := false } }).pins.resetN = false
    ∧ joined.running = true ∧ ({ joined with host := { joined.host with resetNow := true } }).host.resetNow
    ∧ (∃ d, ({ joined with host := { joined.host with resetAt := some 1000 } }).host.resetAt = some d
      ∧ d ≤ joined.now)
    ∧ joined.host.resetNow = false
    ∧ (∀ d, ({ joined with host := { joined.host with resetAt := some 1001 } }).host.resetAt = some d →
      joined.now < d) :=
  ⟨by decide, by decide, by decide, by decide, by decide, by decide, ⟨1000, by decide, by decide⟩,
    by decide, fun d h => by
      have h1 : (1001 : Nat) = d := Option.some.inj h
      subst h1
      decide⟩

theorem meets_OnlyAResetLeaves :
    (∀ i ∈ [Instr.takeInEnd, .join, .startWindowExpiry, .imageReadFailed, .imageReadRetry,
      .imageReadComplete []], i ∉ [Instr.powerOn, .powerOff, .resetNFall, .resetNRise, .resetTakesEffect])
    ∧ (∀ s ∈ [joined, faulty, window, State.reset], exec .takeInEnd s = .next (after .takeInEnd s))
    ∧ (∀ b, Instr.takeInEnd ≠ .imageReadComplete b) ∧ Instr.takeInEnd ≠ .imageReadFailed
    ∧ Instr.takeInEnd ≠ .imageReadRetry
    ∧ joined.startup.state = .joined ∧ faulty.startup.state = .configFault
    ∧ window.startup.state = .startWindow ∧ State.reset.startup.state = .loading := by
  refine ⟨by decide, fun s _ => rfl, fun b => nofun, by decide, by decide, by decide, by decide,
    by decide, by decide⟩

/-- An image of station 1 with two strings, of the version `v` and the quorum `q`, with the sum `d` off. -/
def image (v q d : Nat) : List Byte :=
  let string := le8 40 ++ le16 200 ++ le16 3650 ++ le16 400 ++ le8 97 ++ le16 8500 ++ le16 8000
    ++ le16 1050 ++ le16 200 ++ le8 20
  let b := le8 v ++ le8 1 ++ le8 q ++ le16 100 ++ le8 50 ++ le8 2 ++ le16 60 ++ le16 500 ++ le8 10
    ++ le16 4000 ++ le16 2300 ++ le8 10 ++ le8 50 ++ le8 50 ++ le8 20 ++ le8 10 ++ le8 25 ++ le8 5
    ++ le8 30 ++ le8 2 ++ string ++ string ++ string ++ string ++ [0#8, 0#8, 0#8]
  b ++ le16 ((b.map BitVec.toNat).sum % 65536 + d)

/-- The sum of an image as R191 forms it. -/
def sumOf (b : List Byte) : Nat := ((b.take 96).map BitVec.toNat).sum % 65536

/-- A machine whose third read attempt is under way, and one that waits for its second. -/
def third : State := { State.reset with startup := ⟨.loading, 3, some 0, none, none, 0, none⟩ }
def waiting : State := { State.reset with
  us := 30000, startup := ⟨.loading, 1, none, some 30, none, 0, none⟩ }

theorem meets_ImageRead : (State.reset.running = true ∧ State.reset.startup.state = .loading
      ∧ State.reset.startup.readSince ≠ none ∧ State.reset.startup.attempt < 3)
    ∧ (third.running = true ∧ third.startup.state = .loading ∧ third.startup.readSince ≠ none
      ∧ 3 ≤ third.startup.attempt)
    ∧ (List.replicate 97 0#8 : List Byte).length < 98
    ∧ (waiting.running = true ∧ waiting.startup.state = .loading ∧ waiting.startup.retryAt = some 30
      ∧ 30 ≤ waiting.now)
    ∧ (image 1 2 1).length = 98 ∧ sumOf (image 1 2 1) ≠ u16At (image 1 2 1) 96
    ∧ (image 2 2 0).length = 98 ∧ sumOf (image 2 2 0) = u16At (image 2 2 0) 96
    ∧ byteAt (image 2 2 0) 0 ≠ 1
    ∧ (image 1 17 0).length = 98 ∧ sumOf (image 1 17 0) = u16At (image 1 17 0) 96
    ∧ byteAt (image 1 17 0) 0 = 1
    ∧ (image 1 2 0).length = 98 ∧ sumOf (image 1 2 0) = u16At (image 1 2 0) 96
    ∧ (∀ c ∈ imageChecks (imageOf (image 1 2 0)), c.2 = true) := by decide

/-- The first check that fails in an image with quorum 17 is its own, with every check before it
passed. -/
theorem meets_ImageRead_field : ∃ before after i,
    imageChecks (imageOf (image 1 17 0)) = before ++ (i, false) :: after ∧ ∀ c ∈ before, c.2 = true :=
  ⟨(imageChecks (imageOf (image 1 17 0))).take 2, (imageChecks (imageOf (image 1 17 0))).drop 3, 3,
    by decide, by decide⟩

/-- Section 10.5: an image with quorum 17 is a FIELD_RANGE fault of field 3, and a good one opens the
start window. -/
theorem test_image : (after (.imageReadComplete (image 1 17 0)) State.reset).startup
      = ⟨.configFault, 1, none, none, some .fieldRange, 3, none⟩
    ∧ (after (.imageReadComplete (image 1 2 0)) State.reset).startup
      = ⟨.startWindow, 1, none, none, none, 0, some 60000⟩
    ∧ (after (.imageReadComplete (image 1 2 0)) State.reset).image = some cfg := by decide

/-! ### Commands of a JOINED station: every condition in its order, with the reply of the rule -/

/-- Some variations of the station. -/
def silent : State := settled { joined with dog := ⟨.hostStale, some 1490⟩ }
def inState (x : SeqState) : State := { joined with seq := { joined.seq with state := x } }
def slotTaken : State := { joined with
  claims := { joined.claims with slot := .retryWait ⟨.visit, .service, .string 1, 15, 0, true, 3⟩ 1200 } }
def duplicated : State := { joined with view := { joined.view with duplicate := true } }
def withString (r : StringRec) : State := settled { joined with strings := [r, string0] }
def running : State := settled { joined with
  job := ⟨.running, 0, 3000, 10, none, some 1000⟩
  outs := { joined.outs with dischReq := true }
  strings := [{ string0 with
    state := .test, eAvail := 0, lastTest := some ⟨900, 9602, 3000, 10, 0, none, none, none⟩ }, string0]
  claims := { joined.claims with
    list := [⟨1, 9, .test, .string 0, true, false, false, some 10, 900, false⟩] } }
def visitOf (scope : Scope) (admitting : Bool) : Visit :=
  ⟨3, 42, scope, 15, 900, admitting, false, .none, [], false, false⟩
def visiting (v : Visit) : State := settled { joined with
  visit := { joined.visit with current := some v, counter := 3 } }
def keyless : State := { joined with pins := { joined.pins with keyOn := false } }

def reqTestCases : List Case :=
  [(joined, le8 2 ++ le16 3000 ++ le16 10), (joined, le8 1 ++ le16 2999 ++ le16 10),
   (joined, le8 1 ++ le16 9001 ++ le16 10), (joined, le8 1 ++ le16 9000 ++ le16 9),
   (joined, le8 1 ++ le16 9000 ++ le16 601), (silent, le8 0 ++ le16 3000 ++ le16 600),
   (inState .syncWait, le8 0 ++ le16 3000 ++ le16 600), (running, le8 1 ++ le16 3000 ++ le16 600),
   (withString { string0 with state := .isolated, eAvail := 0 }, le8 0 ++ le16 3000 ++ le16 600),
   (withString { string0 with cls := .ended, eAvail := 0, aCal := 4294967295 },
     le8 0 ++ le16 3000 ++ le16 600),
   (withString { string0 with unmeasured := true, eAvail := 0 }, le8 0 ++ le16 3000 ++ le16 600),
   (withString { string0 with soc := 8999 }, le8 0 ++ le16 3000 ++ le16 600),
   (visiting (visitOf (.string 0) false), le8 0 ++ le16 3000 ++ le16 600),
   (slotTaken, le8 0 ++ le16 3000 ++ le16 600), (duplicated, le8 0 ++ le16 3000 ++ le16 600),
   (withString { string0 with soc := 9000 }, le8 0 ++ le16 3000 ++ le16 600)]

theorem meets_ReqTest : ∀ c ∈ reqTestCases,
    (given 0x12 c.2 c.1).takes .reqTest (record 0x12 c.2)
    ∧ (given 0x12 c.2 c.1).startup.state = .joined ∧ (given 0x12 c.2 c.1).marginOk = true :=
  fits_meets (by decide +kernel)

/-- R37, each condition in its order, and a request that passes; codes of R183 and R202. -/
theorem test_reqTest : reqTestCases.map (answered .reqTest 0x12)
    = [(.badArg, 1), (.badArg, 2), (.badArg, 2), (.badArg, 3), (.badArg, 3), (.stale, 3), (.badState, 1),
       (.badState, 2), (.badState, 3), (.badState, 4), (.badState, 5), (.badState, 6), (.badState, 7),
       (.busy, 0), (.refused, 6), (.accepted, 1)] := by decide +kernel

def reqBypassCases : List Case :=
  [(joined, le16 0), (joined, le16 1441), (silent, le16 1), (inState .syncWait, le16 1440),
   (running, le16 1440), (slotTaken, le16 1440), (joined, le16 1), (joined, le16 1440)]

theorem meets_ReqBypassAndReadiness : (∀ c ∈ reqBypassCases,
      (given 0x10 c.2 c.1).takes .reqBypass (record 0x10 c.2)
      ∧ (given 0x10 c.2 c.1).startup.state = .joined ∧ (given 0x10 c.2 c.1).marginOk = true)
    ∧ joined.startup.state = .joined :=
  ⟨fits_meets (by decide +kernel), by decide⟩

/-- R102. -/
theorem test_reqBypass : reqBypassCases.map (answered .reqBypass 0x10)
    = [(.badArg, 1), (.badArg, 1), (.stale, 3), (.badState, 1), (.badState, 8), (.busy, 0),
       (.accepted, 0), (.accepted, 0)] := by decide +kernel

/-- Stations in SYNC_WAIT: not ready; ready with the slot taken, with the duplicate fault, and free. -/
def waits (lock : Nat) (bypOk : Bool) (s : State) : State := { s with
  seq := { s.seq with state := .syncWait, planned := some 30, syncAt := some 9000, bypOk := bypOk }
  phase := { s.phase with lock := lock } }

/-- R103: not ready, BUSY, REFUSED, and the claim sent. -/
theorem test_readiness : (waits 3 true joined).testReady.seq.state = .syncWait
    ∧ (waits 4 false joined).testReady.seq.state = .syncWait
    ∧ (waits 4 true slotTaken).testReady.seq.state = .online
    ∧ (waits 4 true duplicated).localCheck ⟨1, .bypass, .cabinet⟩ = some .duplicate
    ∧ (waits 4 true duplicated).testReady.seq.state = .online
    ∧ (waits 4 true joined).localCheck ⟨1, .bypass, .cabinet⟩ = none
    ∧ (waits 4 true joined).testReady.seq.state = .claiming
    ∧ (waits 4 true joined).testReady.claims.lastId = 1 := by decide +kernel

/-- A station on bypass, with its inverter and lock as given. -/
def onStatic (x : SeqState) (invOk : Bool) (lock : Nat) (bypOk : Bool) : State := settled { joined with
  pins := { joined.pins with ssFb := true, invOk := invOk }
  seq := { joined.seq with state := x, bypOk := bypOk }
  phase := { joined.phase with lock := lock }
  claims := { joined.claims with
    list := [⟨1, 5, .bypass, .cabinet, true, x != .onBypass, false, none, 900, false⟩] } }

def reqReturnCases : List Case :=
  [(joined, le8 2), (silent, le8 0), (joined, le8 0), (onStatic .onBypass false 4 true, le8 0),
   (onStatic .forced true 4 true, le8 1), (onStatic .latched true 3 false, le8 1),
   (onStatic .onBypass true 3 true, le8 1), (onStatic .onBypass true 3 false, le8 0)]

theorem meets_ReqReturn : ∀ c ∈ reqReturnCases,
    (given 0x11 c.2 c.1).takes .reqReturn (record 0x11 c.2)
    ∧ (given 0x11 c.2 c.1).startup.state = .joined ∧ (given 0x11 c.2 c.1).marginOk = true :=
  fits_meets (by decide +kernel)

/-- R107, R108. -/
theorem test_reqReturn : reqReturnCases.map (answered .reqReturn 0x11)
    = [(.badArg, 1), (.stale, 3), (.badState, 0), (.refused, 10), (.accepted, 1), (.accepted, 2),
       (.refused, 11), (.refused, 11)] := by decide +kernel

/-- The arguments of OPEN_VISIT. -/
def visitArgs (tech scope k planned : Nat) : List Byte := le32 tech ++ le8 scope ++ le8 k ++ le16 planned

def openVisitCases : List Case :=
  [(joined, visitArgs 0 1 0 15), (joined, visitArgs 1000000 1 0 15), (joined, visitArgs 1 0 0 15),
   (joined, visitArgs 1 3 0 15), (joined, visitArgs 1 2 2 15), (joined, visitArgs 1 1 0 14),
   (joined, visitArgs 1 1 0 1441), (silent, visitArgs 1 1 0 15), (keyless, visitArgs 1 1 0 15),
   (visiting (visitOf .cabinet false), visitArgs 1 1 0 15), (joined, visitArgs 999999 1 0 1440),
   (running, visitArgs 1 2 0 15), (slotTaken, visitArgs 1 2 1 15), (duplicated, visitArgs 1 2 1 15),
   (joined, visitArgs 1 2 1 15)]

theorem meets_OpenVisit : ∀ c ∈ openVisitCases,
    (given 0x20 c.2 c.1).takes .openVisit (record 0x20 c.2)
    ∧ (given 0x20 c.2 c.1).startup.state = .joined ∧ (given 0x20 c.2 c.1).marginOk = true :=
  fits_meets (by decide +kernel)

/-- R126. -/
theorem test_openVisit : openVisitCases.map (answered .openVisit 0x20)
    = [(.badArg, 1), (.badArg, 1), (.badArg, 2), (.badArg, 2), (.badArg, 3), (.badArg, 4), (.badArg, 4),
       (.stale, 3), (.badState, 9), (.busy, 0), (.ok, 1), (.badState, 10), (.busy, 0), (.refused, 6),
       (.accepted, 1)] := by decide +kernel

/-- The arguments of VISIT_ACTION, and a visit to string 0 with a string in the state given. -/
def actionArgs (tech action k : Nat) : List Byte := le32 tech ++ le8 action ++ le8 k ++ le16 9
def atString (x : StringState) : State := settled { visiting (visitOf (.string 0) false) with
  strings := [{ string0 with state := x, eAvail := 0 }, string0] }
def full : Visit := { visitOf (.string 0) false with
  actions := List.replicate 16 ⟨.note, none, 900, 1⟩ }

def isolateCases : List Case :=
  [(joined, actionArgs 0 1 0), (joined, actionArgs 1000000 1 0), (joined, actionArgs 42 1 2),
   (joined, actionArgs 42 1 0), (visiting (visitOf (.string 0) true), actionArgs 42 1 0),
   ({ visiting (visitOf (.string 0) false) with pins := keyless.pins }, actionArgs 42 1 0),
   (visiting (visitOf (.string 0) false), actionArgs 43 1 0), (visiting full, actionArgs 42 1 0),
   (visiting (visitOf .cabinet false), actionArgs 42 1 0), (atString .isolated, actionArgs 42 1 0),
   (visiting (visitOf (.string 0) false), actionArgs 42 1 0)]
def replaceCases : List Case :=
  [(visiting (visitOf (.string 0) false), actionArgs 42 2 0), (atString .isolated, actionArgs 42 2 0)]
def restoreCases : List Case :=
  [(visiting (visitOf (.string 0) false), actionArgs 42 3 0), (atString .isolated, actionArgs 42 3 0)]
def noteCases : List Case :=
  [(visiting (visitOf (.string 0) false), actionArgs 42 5 0), (visiting (visitOf .cabinet false),
    actionArgs 42 4 9)]

theorem meets_VisitActions : (∀ c ∈ isolateCases,
      (given 0x21 c.2 c.1).takes .isolate (record 0x21 c.2)
      ∧ (given 0x21 c.2 c.1).startup.state = .joined ∧ (given 0x21 c.2 c.1).marginOk = true)
    ∧ (∀ c ∈ replaceCases, (given 0x21 c.2 c.1).takes .replace (record 0x21 c.2)
      ∧ (given 0x21 c.2 c.1).startup.state = .joined ∧ (given 0x21 c.2 c.1).marginOk = true)
    ∧ (∀ c ∈ restoreCases, (given 0x21 c.2 c.1).takes .restore (record 0x21 c.2)
      ∧ (given 0x21 c.2 c.1).startup.state = .joined ∧ (given 0x21 c.2 c.1).marginOk = true)
    ∧ (∀ c ∈ noteCases, (given 0x21 c.2 c.1).takes .note (record 0x21 c.2)
      ∧ (given 0x21 c.2 c.1).startup.state = .joined ∧ (given 0x21 c.2 c.1).marginOk = true)
    ∧ Instr.note ∈ [Instr.isolate, .replace, .restore, .note] :=
  ⟨fits_meets (by decide +kernel), fits_meets (by decide +kernel), fits_meets (by decide +kernel),
    fits_meets (by decide +kernel), by decide⟩

/-- R134 to R137. -/
theorem test_visitActions : isolateCases.map (answered .isolate 0x21)
      = [(.badArg, 1), (.badArg, 1), (.badArg, 3), (.badState, 7), (.badState, 7), (.badState, 9),
         (.mismatch, 0), (.full, 0), (.badState, 11), (.badState, 3), (.ok, 1)]
    ∧ replaceCases.map (answered .replace 0x21) = [(.badState, 3), (.ok, 1)]
    ∧ restoreCases.map (answered .restore 0x21) = [(.badState, 3), (.ok, 1)]
    ∧ noteCases.map (answered .note 0x21) = [(.badArg, 2), (.ok, 1)] := by decide +kernel

/-- R31, R137: a restored string has no capture baseline, whatever was taken in before its isolation. -/
theorem test_restore : (let s := atString .isolated
    let sampled := s.strings.map (fun x => { x with baseline := some ⟨50000, 0, true, .inService⟩ })
    let t := after .restore (given 0x21 (actionArgs 42 3 0) { s with strings := sampled })
    t.strings.map (fun x => (x.state, x.baseline)))
    = [(.inService, none), (.inService, some ⟨50000, 0, true, .inService⟩)] := by decide +kernel

/-- A STRING visit being admitted, its claim in flight or between two tries. -/
def admitting (givenUp flying : Bool) : State :=
  let q : Request := ⟨.visit, .service, .string 0, 15, 0, false, 6⟩
  settled { visiting { visitOf (.string 0) true with givenUp := givenUp } with
    claims := { joined.claims with
      lastId := 6, slot := if flying then .inFlight q 6 6 1050 else .retryWait q 1100 } }

def closeVisitCases : List Case :=
  [(joined, le32 0), (joined, le32 1000000), (joined, le32 42),
   ({ visiting (visitOf .cabinet false) with pins := keyless.pins }, le32 42),
   (visiting (visitOf .cabinet false), le32 43), (admitting true true, le32 42),
   (admitting false true, le32 42), (admitting false false, le32 42),
   (settled { visiting (visitOf .cabinet false) with seq := { joined.seq with state := .maint } }, le32 42),
   (visiting (visitOf .cabinet false), le32 42), (atString .isolated, le32 42),
   (atString .inService, le32 42)]

theorem meets_CloseVisit : ∀ c ∈ closeVisitCases,
    (given 0x22 c.2 c.1).takes .closeVisit (record 0x22 c.2)
    ∧ (given 0x22 c.2 c.1).startup.state = .joined ∧ (given 0x22 c.2 c.1).marginOk = true :=
  fits_meets (by decide +kernel)

/-- The cancel between two tries, at a state that keeps R139. -/
theorem meets_CloseVisit_cancel : (given 0x22 (le32 42) (admitting false false)).admissionOk = true
    ∧ ∃ v q, (given 0x22 (le32 42) (admitting false false)).visit.current = some v ∧ v.admitting = true
      ∧ v.givenUp = false ∧ (given 0x22 (le32 42) (admitting false false)).claims.slot = .retryWait q 1100
      ∧ q.requester = .visit :=
  ⟨by decide +kernel, { visitOf (.string 0) true with givenUp := false },
    ⟨.visit, .service, .string 0, 15, 0, false, 6⟩, by decide +kernel, by decide, by decide,
    by decide +kernel, by decide⟩

/-- R141. -/
theorem test_closeVisit : closeVisitCases.map (answered .closeVisit 0x22)
    = [(.badArg, 1), (.badArg, 1), (.badState, 7), (.badState, 9), (.mismatch, 0), (.badState, 0),
       (.ok, 0), (.ok, 0), (.badState, 13), (.ok, 3), (.badState, 12), (.ok, 3)] := by decide +kernel

/-- A test being claimed, given up or not, its claim in flight or between two tries. -/
def claiming (givenUp : Option AbortCause) (flying : Bool) : State :=
  let q : Request := ⟨.ageing, .test, .string 0, 10, 0, givenUp.isSome, 6⟩
  { joined with
    job := ⟨.claiming, 0, 3000, 10, givenUp, none⟩
    claims := { joined.claims with
      lastId := 6, slot := if flying then .inFlight q 6 6 1000 else .retryWait q 1000 } }

def abortCases : List Case :=
  [(joined, []), (claiming (some .host) true, []), (running, []), (claiming none true, []),
   (claiming none false, [])]

/-- The record, the entry and the job of a running test, and the limit timer at its moment. -/
theorem meets_TestEnds : (∀ c ∈ abortCases, (given 0x13 c.2 c.1).takes .abortTest (record 0x13 c.2)
      ∧ (given 0x13 c.2 c.1).startup.state = .joined ∧ (given 0x13 c.2 c.1).marginOk = true)
    ∧ (∃ x l w, running.startup.state = .joined ∧ running.strings[running.job.k]? = some x
      ∧ x.lastTest = some l ∧ running.ownOfClass WKind.isTest = some w ∧ running.job.state = .running
      ∧ ∃ d, running.job.limitAt = some d ∧ d ≤ running.now) :=
  ⟨fits_meets (by decide +kernel), ⟨{ string0 with
    state := .test, eAvail := 0, lastTest := some ⟨900, 9602, 3000, 10, 0, none, none, none⟩ },
    ⟨900, 9602, 3000, 10, 0, none, none, none⟩,
    ⟨1, 9, .test, .string 0, true, false, false, some 10, 900, false⟩,
    by decide +kernel, by decide +kernel, by decide +kernel, by decide +kernel, by decide +kernel,
    1000, by decide +kernel, by decide +kernel⟩⟩

/-- R50, and R44 at the expiry of the limit timer. -/
theorem test_abortTest : abortCases.map (answered .abortTest 0x13)
      = [(.badState, 0), (.badState, 0), (.ok, 0), (.ok, 0), (.ok, 0)]
    ∧ ((after .testLimitExpiry running).strings.map (fun r => r.lastTest.bind (fun l => l.verdict)))
      = [some .inconclusive, none]
    ∧ (after .testLimitExpiry running).outs.dischReq = false
    ∧ (after .testLimitExpiry running).claims.list = [] := by decide +kernel

/-- A floor whose station 2 is LOST, and whose station 3 has been silent beyond its limits. -/
def forgotten (x : EntryState) (age : Nat) : State := settled { joined with
  view := { joined.view with peers := joined.view.peers.set 1 { peer 3000 with state := x, age := age } } }

def forgetCases : List Case :=
  [(joined, le8 0), (joined, le8 17), (joined, le8 1), (joined, le8 2), (forgotten .lost 5000, le8 2)]

/-- The station with a PROVISIONAL entry of a peer, an ACTIVE one of the same peer, and an own SERVICE entry
at the end of its time, with the claim id of that one. -/
def overdue : State := settled { joined with us := 901000000, claims := { joined.claims with list :=
  [⟨3, 8, .bypass, .cabinet, false, false, false, some 60, 900000, false⟩,
   ⟨3, 9, .test, .string 0, true, false, false, none, 900000, false⟩,
   ⟨1, 9, .service, .string 1, true, false, false, some 15, 1000, false⟩] } }

theorem meets_FloorTimersAndForget : (∀ c ∈ forgetCases,
      (given 0x08 c.2 c.1).takes .forgetStation (record 0x08 c.2)
      ∧ (given 0x08 c.2 c.1).startup.state = .joined ∧ (given 0x08 c.2 c.1).marginOk = true)
    ∧ (joined.running = true ∧ joined.startup.state = .joined ∧ isStation 2 = true ∧ 2 ≠ joined.own)
    ∧ (((forgotten .present 301).peer 2).state = .present
      ∧ 3 * ((forgotten .present 301).peer 2).core.period < ((forgotten .present 301).peer 2).age)
    ∧ (((forgotten .stale 2001).peer 2).state = .stale
      ∧ 20 * ((forgotten .stale 2001).peer 2).core.period < ((forgotten .stale 2001).peer 2).age)
    ∧ (({ joined with us := 1100000 }).view.statusAt = some 1100
      ∧ 1100 ≤ ({ joined with us := 1100000 }).now)
    ∧ (∃ w ∈ overdue.claims.list, w.active = false
      ∧ w.enteredMs + 10 * overdue.cfg.statusPeriod ≤ overdue.now)
    ∧ (∃ w ∈ overdue.claims.list, ∃ m, w.owner = overdue.own ∧ w.kind ≠ .test ∧ w.overdue = false
      ∧ w.planned = some m ∧ w.enteredMs + m * 60000 ≤ overdue.now
      ∧ ∀ x ∈ overdue.claims.list, x.owner = overdue.own → x.claimId = w.claimId → x = w)
    ∧ (∀ w ∈ overdue.ownWithdrawals, WKind.isTest w.kind = false)
    ∧ (∃ w, overdue.ownOfClass WKind.isService = some w) :=
  ⟨fits_meets (by decide +kernel), by decide +kernel, by decide +kernel, by decide +kernel,
    by decide +kernel, ⟨⟨3, 8, .bypass, .cabinet, false, false, false, some 60, 900000, false⟩,
      by decide +kernel, by decide +kernel, by decide +kernel⟩,
    ⟨⟨1, 9, .service, .string 1, true, false, false, some 15, 1000, false⟩, by decide +kernel, 15,
      by decide +kernel, by decide +kernel, by decide +kernel, by decide +kernel, by decide +kernel,
      by decide +kernel⟩, by decide +kernel,
    ⟨⟨1, 9, .service, .string 1, true, false, false, some 15, 1000, false⟩, by decide +kernel⟩⟩

/-- FORGET_STATION by its rule, and the timers of silent peers and of the hold. -/
theorem test_floorTimers : forgetCases.map (answered .forgetStation 0x08)
      = [(.badArg, 1), (.badArg, 1), (.badState, 0), (.badState, 0), (.ok, 0)]
    ∧ ((after (.peerStale 2) (forgotten .present 301)).peer 2).state = .stale
    ∧ ((after (.peerStale 2) (forgotten .present 300)).peer 2).state = .present
    ∧ ((after (.peerLost 2) (forgotten .stale 2001)).peer 2).state = .lost
    ∧ (after (.provisionalHoldExpiry 3 8) overdue).claims.list.length = 2
    ∧ (after (.withdrawalOverdue 9) overdue).claims.list.map (fun w => w.overdue) = [false, false, true] := by
  decide +kernel

/-! ### Witnesses: records, commands and JOIN -/

/-- What most statements about a JOINED station suppose. -/
abbrev live (s : State) : Prop :=
  s.running = true ∧ s.startup.state = .joined ∧ s.marginOk = true

/-- `row` takes the record of `code` and `args` in `s`. -/
abbrev taken (row : Instr) (code : Nat) (args : List Byte) (s : State) : Prop :=
  (given code args s).takes row (record code args)

/-- A start window with the strings of the image, none loaded, and the levels of SS_FB and MBS_CLOSED. -/
def opening (ss mbs : Bool) : State := { State.reset with
  us := 1000000, pins := ⟨true, ss, mbs, true, true⟩
  startup := ⟨.startWindow, 1, none, none, none, 0, some 1000⟩
  image := some cfg, strings := [builtRecord par, { builtRecord par with loaded := true }]
  seq := { State.reset.seq with found := Pins.found ⟨true, ss, mbs, true, true⟩ } }

/-- The arguments of LOAD_AGEING for string `k` with or without `R_ref`. -/
def loadArgs (k : Nat) (ref : List Byte) : List Byte :=
  le8 k ++ le32 1 ++ le32 2 ++ le16 3 ++ le16 4 ++ le32 5 ++ ref ++ le32 600000

theorem meets_RecordsBuiltAndLoaded : (∀ c ∈ paramChecks 0 par, c.2 = true)
    ∧ taken .loadAgeing 0x03 (loadArgs 2 []) (opening false false)
    ∧ taken .loadAgeing 0x03 (loadArgs 1 []) (opening false false)
    ∧ taken .loadAgeing 0x03 (loadArgs 0 (le8 1 ++ le32 99)) (opening false false)
    ∧ taken .loadAgeing 0x03 (loadArgs 0 (le8 1 ++ le32 100001)) (opening false false)
    ∧ taken .loadAgeing 0x03 (loadArgs 0 (le8 1 ++ le32 100000)) (opening false false)
    ∧ ((opening false false).startup.state = .startWindow
      ∧ ((opening false false).strings[0]?.map (fun x => x.loaded)) = some false
      ∧ ((opening false false).strings[1]?.map (fun x => x.loaded)) = some true
      ∧ (opening false false).strings[2]? = none
      ∧ argOpt32 (record 0x03 (loadArgs 0 (le8 1 ++ le32 99))) 17 = some 99
      ∧ argOpt32 (record 0x03 (loadArgs 0 (le8 1 ++ le32 100001))) 17 = some 100001
      ∧ argOpt32 (record 0x03 (loadArgs 0 (le8 1 ++ le32 100000))) 17 = some 100000) :=
  ⟨by decide, given_takes (by decide), given_takes (by decide), given_takes (by decide),
    given_takes (by decide), given_takes (by decide), by decide +kernel⟩

/-- JOIN waits in the slot and the window timer is due, on inverter, on bypass and on the maintenance
bypass. -/
theorem meets_JoinEffects : ∀ p ∈ [(false, false), (true, false), (false, true), (true, true)],
    taken .join 0x01 [] (opening p.1 p.2) ∧ (opening p.1 p.2).startup.state = .startWindow
    ∧ (opening p.1 p.2).seq.found = (opening p.1 p.2).pins.found
    ∧ (given 0x01 [] (opening p.1 p.2)).beforeJoinOk = true
    ∧ (opening p.1 p.2).startup.windowEnds = some 1000 ∧ 1000 ≤ (opening p.1 p.2).now := by
  have h : ∀ p ∈ [(false, false), (true, false), (false, true), (true, true)],
      ((opening p.1 p.2).running && takenRow (record 0x01 []) == .join) = true
      ∧ (opening p.1 p.2).startup.state = .startWindow
      ∧ (opening p.1 p.2).seq.found = (opening p.1 p.2).pins.found
      ∧ (given 0x01 [] (opening p.1 p.2)).beforeJoinOk = true
      ∧ (opening p.1 p.2).startup.windowEnds = some 1000 ∧ 1000 ≤ (opening p.1 p.2).now := by
    decide +kernel
  exact fun p hp => ⟨given_takes (h p hp).1, (h p hp).2⟩

/-- R110, R111, R119: found on bypass, the station joins FORCED with its forced withdrawal. -/
theorem test_join_forced : (after .startWindowExpiry (opening true false)).seq.state = .forced
    ∧ (after .startWindowExpiry (opening true false)).claims.list.map (fun w => (w.kind, w.forced))
      = [(.bypass, true)] := by decide +kernel

theorem meets_RefusedByThePort : taken .reqBypass 0x10 [] window ∧ taken .readVisit 0x23 [] window
    ∧ window.startup.state ≠ .joined
    ∧ taken .join 0x01 [] faulty ∧ taken .readString 0x04 [] State.reset
    ∧ faulty.startup.state = .configFault ∧ State.reset.startup.state = .loading
    ∧ taken .unknownCommand 0xFF [] joined ∧ taken .unknownCommand 0xFF [] State.reset
    ∧ (given 0xFF [] joined).marginOk = true ∧ (given 0xFF [] State.reset).marginOk = true
    ∧ taken .join 0x01 [] joined ∧ taken .loadAgeing 0x03 [] joined
    ∧ joined.startup.state = .joined :=
  ⟨given_takes (by decide), given_takes (by decide), by decide, given_takes (by decide),
    given_takes (by decide), by decide, by decide, given_takes (by decide), given_takes (by decide),
    given_marginOk joined_marginOk, by decide, given_takes (by decide), given_takes (by decide), by decide⟩

/-- The reading commands of a JOINED station, each argument at both ends of its ranges. -/
def readingCases : List (Instr × Nat × List Byte) :=
  [(.readString, 0x04, le8 1), (.readString, 0x04, le8 2), (.readFloor, 0x05, []),
   (.readView, 0x06, le8 1), (.readView, 0x06, le8 16), (.readView, 0x06, le8 0),
   (.readView, 0x06, le8 17), (.readWithdrawals, 0x07, le8 31), (.readWithdrawals, 0x07, le8 32),
   (.readVisit, 0x23, le8 1), (.readVisit, 0x23, le8 2 ++ le8 7), (.readVisit, 0x23, le8 2 ++ le8 8),
   (.readVisit, 0x23, le8 3), (.readCounters, 0x09, le8 0), (.readCounters, 0x09, le8 1),
   (.readCounters, 0x09, le8 2), (.reset, 0x02, [])]

theorem meets_ReadingCommandsAndReset : (∀ c ∈ readingCases, taken c.1 c.2.1 c.2.2 joined
      ∧ (given c.2.1 c.2.2 joined).marginOk = true)
    ∧ joined.startup.state = .joined ∧ joined.strings.length = 2
    ∧ joined.strings[1]? = some string0 ∧ taken .readString 0x04 (le8 0) (opening false false)
    ∧ (opening false false).startup.state = .startWindow := by
  have h : ∀ c ∈ readingCases,
      (joined.running && takenRow (record c.2.1 c.2.2) == c.1) = true := by decide
  exact ⟨fun c hc => ⟨given_takes (h c hc), given_marginOk joined_marginOk⟩, by decide, by decide,
    by decide, given_takes (by decide), by decide⟩

/-- The replies of the reading commands by R183. -/
theorem test_reading : readingCases.map (fun c => (answered c.1 c.2.1 (joined, c.2.2)).1)
    = [.ok, .badArg, .ok, .ok, .ok, .badArg, .badArg, .ok, .badArg, .ok, .ok, .badArg, .badArg, .ok, .ok,
       .badArg, .ok] := by decide +kernel

/-! ### Witnesses: strings and the test -/

theorem meets_LifeUsedAndRatio : twoYears.rRef = some 4000 ∧ twoYears.resList ≠ []
    ∧ [4500, 4550, 4600, 4700, 4800].Perm twoYears.resList
    ∧ [4500, 4550, 4600, 4700, 4800].Pairwise (· ≤ ·)
    ∧ StringRec.blank.rRef = none ∧ StringRec.blank.resList = [] := by decide

theorem meets_HealthFigures : 7000 ≤ par.warn := by decide

/-- An event that ends in `s`: the margin state stays, or changes, and a watched value changes. -/
theorem meets_EventEnd : window.startup.state ≠ .joined
    ∧ joined.startup.state = .joined ∧ joined.job.state = .idle
    ∧ joined.marginNow = joined.view.margin ∧ joined.statusDue = false
    ∧ silent.ownFlags ≠ joined.ownFlags ∧ (running.strings.map (fun x => x.state))
      ≠ joined.strings.map (fun x => x.state)
    ∧ ({ joined with view := { joined.view with margin := .deficit } }).marginNow
      ≠ ({ joined with view := { joined.view with margin := .deficit } }).view.margin
    ∧ ({ joined with statusDue := true }).statusDue = true
    ∧ (joined.loop.queue.filter (fun f => f.kind != .status)).length < 7 := by decide +kernel

/-- R198: a STATUS of station 1 with a MAINT withdrawal, forced and unsanctioned, laid out by hand. -/
theorem test_statusBody : ({ joined with claims := { joined.claims with
      list := [⟨1, 9, .maint, .cabinet, true, true, true, none, 900, false⟩] } }).statusBody 2
    = [2, 100, 0, 0, 0, 0xA0, 0x0F, 0x80, 0x0C, 0, 0, 0x62, 3, 0, 0, 0x62, 3, 3, 0, 0, 0, 3, 0, 0, 0,
       25, 5, 30, 0, 0, 0, 1, 9, 0x21, 6] := by decide +kernel

/-- `s` with a policy that its floor fails, the margin state still NORMAL. -/
def failing (s : State) : State := { s with
  image := some { cfg with reservePct := 100 }, view := { s.view with margin := .normal } }

/-- An entry to DEFICIT with a test running, one whose claim is in flight, and one between two tries. -/
theorem meets_EventEnd_deficit : (∀ s ∈ [failing running, failing (claiming none true),
      failing (claiming none false)], s.startup.state = .joined ∧ s.view.margin = .normal
      ∧ s.marginNow = .deficit ∧ (s.loop.queue.filter (fun f => f.kind != .status)).length < 7)
    ∧ (failing running).job.state = .running
    ∧ ((failing running).strings[(failing running).job.k]?.bind (fun x => x.lastTest)) ≠ none
    ∧ (failing running).ownOfClass WKind.isTest
      = some ⟨1, 9, .test, .string 0, true, false, false, some 10, 900, false⟩
    ∧ (∀ b ∈ [true, false], (failing (claiming none b)).job.state = .claiming
      ∧ (failing (claiming none b)).job.givenUp = none)
    ∧ (failing (claiming none true)).claims.slot
      = .inFlight ⟨.ageing, .test, .string 0, 10, 0, false, 6⟩ 6 6 1000
    ∧ (failing (claiming none false)).claims.slot
      = .retryWait ⟨.ageing, .test, .string 0, 10, 0, false, 6⟩ 1000 := by decide +kernel

/-- R41, R68: the entry to DEFICIT ends the test, and gives up the claim in flight. -/
theorem test_deficit : ((failing running).evalMargin.strings.map
      (fun r => r.lastTest.bind (fun l => l.verdict))) = [some .abortedDeficit, none]
    ∧ (failing (claiming none true)).evalMargin.job.givenUp = some .deficit := by decide +kernel

/-- A station at its 1440th tick of the day. -/
def midnight : State := { joined with us := 61000000, ticks := ⟨1439, some 61000⟩ }

theorem meets_AgeingTick : midnight.running = true ∧ midnight.startup.state = .joined
    ∧ midnight.ticks.nextAt = some 61000 ∧ 61000 ≤ midnight.now ∧ midnight.ticks.count = 1439
    ∧ ({ midnight with ticks := ⟨0, some 61000⟩ }).ticks.count ≠ 1439 := by decide

/-- R18 and R19: 1440 ticks at band 22.5 °C give a day factor of 256. -/
theorem test_day : ((after .dayBoundary { midnight with strings :=
      [{ string0 with tLast := 225, daySum := 256 * 1439, fDay := 0 }] }).strings.map
        (fun r => (r.fDay, r.daySum))) = [(256, 0)] := by decide +kernel

/-- `x` is the record before and `y` after a row, with the counts of the statement. -/
theorem meets_AccumulatorsNeverDecrease :
    Instr.ageingTick ∉ [Instr.powerOn, .powerOff, .resetNFall, .resetNRise, .resetTakesEffect]
    ∧ midnight.configOk = true ∧ exec .ageingTick midnight = .next (after .ageingTick midnight)
    ∧ (∃ x, midnight.strings[1]? = some x ∧ x.aCal ≤ 4294967295 ∧ x.tDah ≤ 4294967295
      ∧ x.deepCount ≤ 65535) :=
  ⟨by decide, by decide, rfl, string0, by decide, by decide, by decide, by decide⟩

/-- The claim unit free, in use, and at each condition of the local check (R76). -/
theorem meets_LocalCheckAndClaim : slotTaken.claims.slot ≠ .free ∧ joined.claims.slot = .free
    ∧ joined.ownWithdrawals.length ≤ 3 ∧ joined.claims.lastId ≤ 255
    ∧ (∀ w ∈ joined.ownWithdrawals, w.claimId ≠ joined.claims.lastId % 255 + 1) := by decide

/-- R76 in its order, on the floor of section 3.6: a BYPASS of the cabinet passes there. -/
theorem test_localCheck : [duplicated, { joined with claims := { joined.claims with incomplete := true } },
      { joined with view := { joined.view with margin := .deficit } },
      { joined with loop := State.reset.loop },
      { joined with image := some { cfg with quorum := 5 } },
      { joined with image := some { cfg with reservePct := 60 } },
      { joined with image := some { cfg with autonomyMin := 60 } },
      { joined with image := some { cfg with exposurePct := 5 } }, joined].map
        (fun s => s.localCheck ⟨1, .bypass, .cabinet⟩)
    = [some .duplicate, some .viewFull, some .deficit, some .isolated, some .quorum, some .capacity,
       some .energy, some .exposure, none] := by decide +kernel

/-! ### Witnesses: measurement and watchdog -/

/-- A measurement frame of counter `c`, the cabinet figures of section 3.6, and the same sample `v`, `volt`,
−100.0 A, 25 °C for every string. -/
def meas (c v volt : Nat) : List Byte :=
  let sample := le8 v ++ le8 0 ++ le16 volt ++ le16 64536 ++ le16 250
  le16 c ++ le16 4500 ++ le16 3200 ++ le16 2300 ++ sample ++ sample ++ sample ++ sample

/-- `s` with that frame READY in buffer 1. -/
def fed (c v volt : Nat) (s : State) : State := { s with intake := { s.intake with
  buffers := [⟨.free, []⟩, ⟨.ready, meas c v volt⟩, ⟨.free, []⟩] } }

/-- A sample of a valid frame, one at each side of the clamp, and holds at their boundaries; a capture with
a step at the threshold, one below it, and one with the signs apart. -/
theorem meets_SamplesAndCaptures : (⟨50000, 0, 200, 11⟩ : Hold).count ≤ 11
    ∧ (⟨true, 50000, 0, 850⟩ : Sample).valid = true ∧ (⟨false, 0, 0, 0⟩ : Sample).valid = false
    ∧ (⟨50000, 0, 200, 9⟩ : Hold).count ≤ 9 ∧ 10 ≤ (⟨50000, 0, 200, 10⟩ : Hold).count
    ∧ (let r := { StringRec.blank with baseline := some ⟨50000, 0, true, .inService⟩ }
      r.baseline = some ⟨50000, 0, true, .inService⟩ ∧ r.resList.length ≤ 5 ∧ r.state ≠ .isolated
      ∧ par.stepThreshold ≤ ((0 : Int) - (-200)).natAbs ∧ ((0 : Int) - (-199)).natAbs < par.stepThreshold
      ∧ ((0 : Int) < 50000 - 49990 ∧ (0 : Int) < 0 - (-200))
      ∧ 100 ≤ Int.tdiv ((50000 - 49990) * 100000) (0 - (-200))
      ∧ Int.tdiv ((50000 - 49990) * 100000) (0 - (-200)) ≤ 100000
      ∧ ¬ ((0 : Int) < 50000 - 50010 ∧ (0 : Int) < 0 - (-200))) := by decide

/-- R168 at the clamp and the holds at ten and eleven (R169). -/
theorem test_holds : (Hold.after ⟨5, 6, 200, 3⟩ ⟨true, 50000, -1, 851⟩) = ⟨50000, -1, 850, 0⟩
    ∧ handedOf (Hold.after ⟨5, 6, 200, 9⟩ ⟨false, 0, 0, 0⟩) ⟨false, 0, 0, 0⟩ = ⟨false, 5, 6, 200⟩
    ∧ (StringRec.blank.takeFlags (Hold.after ⟨5, 6, 200, 10⟩ ⟨false, 0, 0, 0⟩)
      ⟨false, 0, 0, 0⟩).unmeasured = true := by decide

/-- Joined states in and outside SYNC_WAIT, one of them ready, the host heard or silent. -/
theorem meets_FrameTakenIn : ∀ s ∈ [fed 8 1 50000 joined, fed 8 1 50000 silent,
      fed 8 1 50000 (waits 4 false joined), fed 8 1 50000 (waits 4 false silent)],
    s.running = true ∧ s.startup.state = .joined ∧ s.image ≠ none ∧ s.bufferIn .ready = some 1
    ∧ s.bufferIn .inUse = none
    ∧ s.intake.lastCounter ≠ some (measOf ((s.intake.buffers.getD 1 ⟨.free, []⟩).bytes)).counter
    ∧ s.strings.length = 2 ∧ ¬ (s.job.state = .running ∧ s.job.k = 0) ∧ s.job.state = .idle
    ∧ s.intake.lastTakeMs = some 990 ∧ s.host.notices.length ≤ 16 := by decide +kernel

/-- R166, R171: the frame is kept, P_avail is lowered to P_rated, the watchdog restarts; R174: HOST_BACK, where the
station's capacity also ends the deficit of the floor (log 20). -/
theorem test_takeIn : (after .measTakeIn (fed 8 1 50000 joined)).dog = ⟨.watching, some 1500⟩
    ∧ (after .measTakeIn (fed 8 1 50000 joined)).intake.pAvail = 4000
    ∧ (after .measTakeIn (fed 8 1 50000 silent)).host.notices.map (fun n => n.kind) = [.deficitLeave, .hostBack]
    ∧ (after .measTakeIn (fed 7 1 50000 joined)).intake.repeated = 1 := by decide +kernel

/-- R99, R103: the take-in forms BYP_OK from the bypass at 230.0 V and 50.00 Hz, and the station that waited
for it with the lock sends its claim. -/
theorem test_takeIn_ready : (let s := waits 4 false joined
    let t := after .measTakeIn (fed 8 1 50000 { s with
      phase := { s.phase with byp := ⟨some 0, some 20000, 0, some 5000⟩ } })
    (t.seq.state, t.seq.bypOk)) = (.claiming, true) := by decide +kernel

/-- `s` whose next take-in is a baseline. -/
def baseNext (s : State) : State := { s with intake := { s.intake with baselineNext := true } }

theorem meets_TestAtTakeIn : ∀ s ∈ [fed 8 1 42000 running, fed 8 1 42001 running,
      fed 8 1 42000 (baseNext running), fed 8 1 42001 (baseNext running)],
    s.running = true ∧ s.startup.state = .joined ∧ s.bufferIn .ready = some 1
    ∧ s.bufferIn .inUse = none ∧ s.job.state = .running
    ∧ (∃ x ∈ s.strings[s.job.k]?, ∃ l ∈ x.lastTest, l.verdict = none) ∧ s.hostSilent = false
    ∧ s.seq.state ≠ .syncWait
    ∧ s.intake.lastCounter ≠ some (measOf ((s.intake.buffers.getD 1 ⟨.free, []⟩).bytes)).counter
    ∧ s.job.k < 4 ∧ s.intake.holds.length = 4 := by decide +kernel

/-- R43: at the end voltage, 40 × 10.50 V, the test fails; a centivolt above it goes on. -/
theorem test_endVoltage : ((after .measTakeIn (fed 8 1 42000 running)).strings.map
      (fun r => r.lastTest.bind (fun l => l.verdict))) = [some .failVoltage, none]
    ∧ (after .measTakeIn (fed 8 1 42001 running)).job.state = .running := by decide +kernel

/-- R9, R35, R43: a baseline take-in counts nothing and is checked for the end voltage all the same. -/
theorem test_baselineUnderTest : [42000, 42001].map (fun v =>
      (after .measTakeIn (fed 8 1 v (baseNext running))).strings.map
        (fun r => (r.q, r.lastTest.map (fun l => (l.delivered, l.verdict)))))
    = [[(0, some (0, some .failVoltage)), (650000, none)],
       [(650000, some (0, none)), (650000, none)]] := by decide +kernel

theorem meets_TakeInOutcomes : (∀ s ∈ [fed 8 1 0 State.reset, fed 8 1 0 faulty, fed 7 1 0 joined,
      fed 8 1 0 (opening false false)],
      s.running = true ∧ s.bufferIn .ready = some 1 ∧ s.bufferIn .inUse = none)
    ∧ (fed 8 1 0 State.reset).startup.state = .loading ∧ (fed 8 1 0 faulty).startup.state = .configFault
    ∧ (live (fed 7 1 0 joined) ∧ (fed 7 1 0 joined).intake.lastCounter
      = some (measOf (((fed 7 1 0 joined).intake.buffers.getD 1 ⟨.free, []⟩).bytes)).counter)
    ∧ (let s := fed 8 1 0 (opening false false)
      s.startup.state = .startWindow ∧ s.seq.state = .online ∧ s.dog.stage = .off
      ∧ s.intake.baselineNext = false ∧ s.image ≠ none ∧ s.intake.lastCounter
        ≠ some (measOf ((s.intake.buffers.getD 1 ⟨.free, []⟩).bytes)).counter)
    ∧ (let s := { joined with intake := { joined.intake with
        buffers := [⟨.inUse, []⟩, ⟨.free, []⟩, ⟨.free, []⟩] } }
      s.running = true ∧ s.bufferIn .inUse = some 0 ∧ s.marginOk = true) := by decide +kernel

/-- `s` before any take-in. -/
def unfed (s : State) : State := { s with intake := { s.intake with lastCounter := none, lastTakeMs := none } }

theorem meets_WatchdogStages : (∀ s ∈ [joined, silent, running, claiming none true, unfed joined, unfed silent],
      { s with us := 1490000 }.running = true ∧ s.startup.state = .joined
      ∧ s.dog.expiresAt = some 1490 ∧ 1490 ≤ { s with us := 1490000 }.now ∧ s.host.notices.length ≤ 16)
    ∧ joined.intake.lastCounter = some 7 ∧ joined.intake.lastTakeMs = some 990
    ∧ joined.dog.stage = .watching ∧ joined.job.state = .idle ∧ silent.dog.stage = .hostStale
    ∧ running.job.state = .running ∧ (running.strings[running.job.k]?.bind (fun x => x.lastTest)) ≠ none
    ∧ (claiming none true).job.state = .claiming ∧ (claiming none true).job.givenUp = none := by
  decide +kernel

/-- R172, R173 before any take-in: the stage moves on and each notice draws its two open values (log 17). -/
theorem test_unfed : [(Instr.hostStale, joined), (.unsupervised, silent)].map (fun c =>
      let t := after c.1 { unfed c.2 with us := 1490000 }
      (t.dog.stage, t.freeCount - c.2.freeCount))
    = [(.hostStale, 2), (.unsupervised, 2)] := by decide +kernel

/-! ### Witnesses: the host port -/

/-- A JOINED station with a transaction open, and one with `slot` in the command slot. -/
def open' (t : Txn) : State := { joined with host := { joined.host with txn := some t } }
def withSlot (x : CmdSlot) (s : State) : State := { s with host := { s.host with slot := x } }
def aReply : Reply := ⟨4#8, 7#8, .ok, []⟩
def aNotice : Notice := ⟨.linkUp, 1, 2, 0, 0, 900⟩

theorem meets_TransactionsOpenAndEnd : (∀ s ∈ [joined, open' .cmdWrite, open' (.measWrite (some 0)),
      open' (.measWrite none), open' (.replyRead (some aReply)), open' (.replyRead none),
      open' (.noticeRead (some aNotice)), open' (.noticeRead none),
      open' (.statusRead joined.statusWord), faulty], s.running = true ∧ s.marginOk = true)
    ∧ (open' .cmdWrite).host.txn ≠ none ∧ namesTxnKind 0x0A#8 = true ∧ namesTxnKind 0x00#8 = false
    ∧ faulty.startup.state = .configFault ∧ (faulty.loop.a.up = false ∧ faulty.loop.b.up = false)
    ∧ (joined.startup.state ≠ .configFault ∧ joined.view.duplicate = false
      ∧ joined.dog.stage = .watching ∧ joined.loop.a.up = true ∧ joined.loop.b.up = true
      ∧ joined.view.margin = .normal ∧ joined.visit.current = none
      ∧ ∀ x ∈ joined.strings, x.cls ≠ .ended) := by
  decide +kernel

/-- R189, section 11.2: the status word in CONFIG_FAULT with both ports DOWN, and of a station on inverter
whose port A is DOWN, with a reply waiting. -/
theorem test_statusWord : faulty.statusWord.bytes = [2, 1, 9, 0, 1, 0, 0]
    ∧ (withSlot (.replied aReply) { joined with
        loop := { joined.loop with a := PortState.blank } }).statusWord.bytes
      = [4, 3, 0x40, 0, 7, 0, 0] := by decide +kernel

/-- R180: a read that ends early has shifted out the record it captured, and removes nothing. -/
theorem test_readEndsEarly : (let s := open' (.noticeRead (some aNotice))
    let t := after .transactionEndsEarly { s with host := { s.host with notices := [aNotice], irq := true } }
    ((List.range 15).map t.host.dataOut, t.host.notices))
    = ([29, 0, 1, 0, 2, 0, 0, 0, 0, 0, 0x84, 3, 0, 0, 0xFF], [aNotice]) := by decide +kernel

theorem meets_TransactionsComplete : (∀ s ∈ [open' (.measWrite (some 0)), open' (.measWrite none),
      open' .cmdWrite, withSlot (.replied aReply) (open' .cmdWrite), open' (.replyRead (some aReply)),
      open' (.replyRead none), open' (.noticeRead (some aNotice)), open' (.noticeRead none),
      open' (.statusRead joined.statusWord), joined], s.running = true ∧ s.marginOk = true)
    ∧ (open' (.measWrite (some 0))).host.txn = some (.measWrite (some 0))
    ∧ (open' .cmdWrite).host.txn = some .cmdWrite ∧ (open' .cmdWrite).host.slot = .empty
    ∧ (withSlot (.replied aReply) (open' .cmdWrite)).host.slot ≠ .empty
    ∧ (open' (.replyRead (some aReply))).host.txn = some (.replyRead (some aReply))
    ∧ (open' (.replyRead none)).host.txn = some (.replyRead none)
    ∧ (open' (.noticeRead (some aNotice))).host.txn = some (.noticeRead (some aNotice))
    ∧ (open' (.noticeRead none)).host.txn = some (.noticeRead none)
    ∧ (open' (.statusRead joined.statusWord)).host.txn = some (.statusRead joined.statusWord)
    ∧ joined.host.txn = none ∧ joined.host.slot = .empty
    ∧ 40 ≤ (meas 8 1 0).length ∧ (List.replicate 39 0#8 : List Byte).length < 40
    ∧ 28 ≤ (record 1 []).length ∧ (List.replicate 27 0#8 : List Byte).length < 28
    ∧ ({ joined.host with shifted := [5#8] }).shifted[0]? = some 5#8
    ∧ ({ joined.host with shifted := [5#8] }).shifted.length ≤ 1 := by decide +kernel

/-- R179: a byte of the record and the one beyond it; a transaction that names no kind reads FFh. -/
theorem test_dataOut : [0, 1].map ({ joined.host with shifted := [5#8] }).dataOut = [5#8, 0xFF#8]
    ∧ (after (.badTransaction 0#8) (open' .cmdWrite)).host.dataOut 0 = 0xFF#8 := by decide +kernel

/-- R180, R181: a record enters the empty slot, and is rejected while a reply waits. -/
theorem test_cmdWrite : (after (.cmdWrite (record 1 [])) (open' .cmdWrite)).host.slot
      = .pending (record 1 []) 1000000
    ∧ (after (.cmdWrite (record 1 [])) (withSlot (.replied aReply) (open' .cmdWrite))).host.rejected = 1 := by
  decide +kernel

/-! ### Witnesses: the loop ports -/

/-- A good symbol with the data `d`: odd parity over data, mark and parity bit (R143). -/
def sym (d : Byte) (mark : Bool) : Symbol :=
  ⟨d, mark, (((List.range 8).filter (fun i => d.getLsbD i)).length + (if mark then 1 else 0)) % 2 == 0, true⟩

/-- Station 1 with port A as given. -/
def withA (p : PortState) : State := { joined with loop := { joined.loop with a := p } }

theorem meets_SymbolsAndLinks : (∀ s ∈ [joined, withA PortState.blank,
      withA { PortState.blank with run := 7 }, withA { PortState.blank with up := true, rx := some [0x41#8] },
      withA { PortState.blank with up := true, tx := some ⟨[0#8], some 3, 1000100⟩ }],
      s.running = true ∧ s.marginOk = true)
    ∧ ¬ ((⟨0#8, false, false, true⟩ : Symbol).stop = true
      ∧ (((List.range 8).filter (fun i => (0#8).getLsbD i)).length + 0 + 0) % 2 = 1)
    ∧ (∀ y ∈ [sym 0xFF#8 true, sym 0xFE#8 true, sym 0x41#8 true, sym 0x41#8 false],
      y.stop = true ∧ (((List.range 8).filter (fun i => y.data.getLsbD i)).length
        + (if y.mark then 1 else 0) + (if y.parity then 1 else 0)) % 2 = 1)
    ∧ ((withA PortState.blank).port .a).up = false ∧ ((joined).port .a).up = true
    ∧ min 8 (((withA { PortState.blank with run := 7 }).port .a).run + 1) = 8
    ∧ min 8 (((withA PortState.blank).port .a).run + 1) ≠ 8
    ∧ ((withA { PortState.blank with up := true, rx := some [0x41#8] }).port .a).rx = some [0x41#8]
    ∧ ((withA PortState.blank).port .a).tx = none := by
  decide +kernel

/-- An own frame of 13 bytes on port A, started 14 and 15 microseconds before its last symbol begins. -/
def cutting (us : Nat) : State := { withA { PortState.blank with
  up := true, tx := some ⟨List.replicate 13 0#8, some 3, 1000017⟩ } with us := us }

/-- The frame starts at 1000000 µs and its last symbol begins at 1000014.4 µs. -/
theorem meets_SymbolsAndLinks_cut : (∀ us ∈ [1000014, 1000015], (cutting us).running = true
      ∧ (cutting us).marginOk = true ∧ ((cutting us).port .a).tx
        = some ⟨List.replicate 13 0#8, some 3, 1000017⟩)
    ∧ 1000017 = 1000000 + (12 * ((List.replicate 13 0#8 : List Byte).length + 1) + 9) / 10
    ∧ 10 * (cutting 1000014).us < 10 * 1000000 + 12 * ((List.replicate 13 0#8 : List Byte).length - 1)
    ∧ 10 * 1000000 + 12 * ((List.replicate 13 0#8 : List Byte).length - 1) ≤ 10 * (cutting 1000015).us := by
  decide +kernel

/-- R147: a port going DOWN cuts the frame off before its last symbol begins, and not after it. -/
theorem test_cut : (cutting 1000014).sendingTag .a = some 3 ∧ (cutting 1000015).sendingTag .a = none := by
  decide

/-- The state after each of a list of rows in turn. -/
def run (l : List Instr) (s : State) : State := l.foldl (fun s i => after i s) s

/-- R145: the eighth idle symbol brings the port UP. -/
theorem test_linkUp : ((run (List.replicate 7 (.symbolReceived .a (sym 0xFF#8 true)))
      (withA PortState.blank)).port .a).up = false
    ∧ ((run (List.replicate 8 (.symbolReceived .a (sym 0xFF#8 true)))
      (withA PortState.blank)).port .a).up = true := by decide +kernel

/-- A DROP of claim 9 by station 3, with the given hop count and visited mask (R198). -/
def dropFrame (hops visited : Nat) : List Byte :=
  sealed (le8 0x44 ++ le8 3 ++ le8 5 ++ le8 hops ++ le16 visited ++ le8 2 ++ [0#8, 0#8, 0#8]
    ++ le8 9 ++ le8 2)

/-- A DROP that lacks its check byte, at port A UP and DOWN. -/
def ending (up : Bool) : State :=
  withA { PortState.blank with up := up, rx := some (dropFrame 0 0).dropLast }

theorem meets_SymbolsAndLinks_frame : (∀ up ∈ [true, false], (ending up).running = true
      ∧ (ending up).marginOk = true ∧ ((ending up).port .a).rx = some (dropFrame 0 0).dropLast)
    ∧ (let y := sym (checkByte (dropFrame 0 0).dropLast) false
      let l := (dropFrame 0 0).dropLast ++ [y.data]
      y.mark = false ∧ 11 ≤ l.length ∧ l.length = 11 + byteAt l 6) := by decide +kernel

/-- R148: the last byte completes the frame of a port that is UP; a DOWN port discards it, with no count. -/
theorem test_frameOnDownPort : [true, false].map (fun up =>
      let p := (after (.symbolReceived .a (sym (checkByte (dropFrame 0 0).dropLast) false)) (ending up)).port .a
      (p.rx, p.completed, p.frmErr))
    = [(none, [dropFrame 0 0], 0), (none, [], 0)] := by decide +kernel

/-- `s` with the frame `b` assembled at port `p`. -/
def holding (p : Port) (b : List Byte) (s : State) : State :=
  s.onPort p (fun x => { x with completed := [b] })

/-- Station 1 with a forward buffer of port B of `n` frames. -/
def crowded (n : Nat) : State := { joined with loop := { joined.loop with
  b := { joined.loop.b with fwd := List.replicate n (dropFrame 0 0) } } }

theorem meets_Forwarding : 64 ≤ frHops (dropFrame 64 0) ∧ frHops (dropFrame 63 0) < 64
    ∧ 11 ≤ (dropFrame 63 0).length
    ∧ (((crowded 18).port .b).fwd.map List.length).sum + (setHops (dropFrame 63 0) 64).length ≤ 256
    ∧ 256 < (((crowded 19).port .b).fwd.map List.length).sum + (setHops (dropFrame 63 0) 64).length
    ∧ (let s := holding .a (dropFrame 63 0) window
      s.running = true ∧ (s.port .a).completed = [dropFrame 63 0] ∧ (s.port .a).up = true
      ∧ frameOk (dropFrame 63 0) = true ∧ s.startup.state ≠ .joined)
    ∧ frameOk (dropFrame 63 0 ++ [0#8]) = false
    ∧ (let s := holding .a (dropFrame 63 1) joined
      s.startup.state = .joined ∧ s.marginOk = true ∧ frameOk (dropFrame 63 1) = true
      ∧ frOrigin (dropFrame 63 1) ≠ s.own ∧ maskHas (frVisited (dropFrame 63 1)) s.own = true) := by
  decide +kernel

/-- An own frame of the queue, and a station with one in flight, sent 100 ms ago. -/
def ownDrop : OwnFrame := ⟨.drop, 4, 9, ownBytes .drop 1 4 (le8 9 ++ le8 2)⟩
def sending (queue : List OwnFrame) (aUp bUp : Bool) : State := { joined with loop := { joined.loop with
  a := { joined.loop.a with up := aUp }, b := { joined.loop.b with up := bUp }
  queue := queue, inFlight := [⟨5, .claim, 8, 900⟩] } }

theorem meets_OwnFramesAndTransmission : (∀ s ∈ [crowded 2, sending [ownDrop] true true,
      sending [ownDrop] true false], s.running = true ∧ s.marginOk = true)
    ∧ (((crowded 2).port .b).up = true ∧ (crowded 2).busy .b = false
      ∧ ((crowded 2).port .b).fwd = dropFrame 0 0 :: [dropFrame 0 0])
    ∧ (let s := sending [ownDrop] true true
      (s.port .b).up = true ∧ s.busy .b = false ∧ (s.port .b).fwd = [] ∧ s.loop.queue = ownDrop :: []
      ∧ s.loop.inFlight.length < 32)
    ∧ (let s := sending [ownDrop] true false
      (s.port .a).up = true ∧ s.busy .a = false ∧ (s.port .a).fwd = [] ∧ s.loop.b.up = false)
    ∧ (∃ f ∈ (sending [] true true).loop.inFlight, f.sentMs + 100 ≤ (sending [] true true).now)
    ∧ (List.replicate 7 ownDrop).length < 8 ∧ 8 ≤ (List.replicate 8 ownDrop).length
    ∧ (let q : List OwnFrame := List.replicate 7 ownDrop ++ [⟨.status, 6, 0, []⟩]
      8 ≤ q.length ∧ q = List.replicate 7 ownDrop ++ ⟨.status, 6, 0, []⟩ :: []
      ∧ (∀ h ∈ List.replicate 7 ownDrop, h.kind ≠ .status)) := by decide +kernel

/-- A frame of 13 bytes, started at 1000000 µs, in its twelfth symbol and in the idle symbol behind it. -/
theorem meets_OwnFramesAndTransmission_line : (∀ c ∈ [(1000014, 11), (1000016, 13)],
      (cutting c.1).running = true ∧ ((cutting c.1).port .a).up = true
      ∧ ((cutting c.1).port .a).tx = some ⟨List.replicate 13 0#8, some 3, 1000017⟩
      ∧ 10 * 1000000 + 12 * c.2 ≤ 10 * (cutting c.1).us
      ∧ 10 * (cutting c.1).us < 10 * 1000000 + 12 * (c.2 + 1))
    ∧ dark.power = false ∧ (withA PortState.blank).running = true
    ∧ ((withA PortState.blank).port .a).up = false ∧ (joined.port .a).tx = none := by decide +kernel

/-- R143: what goes out. The kind byte 41h is marked and has two ones, so its parity bit is 0 with the mark;
a zero byte behind it has parity 1; FFh, marked, has nine ones and parity 0, and FEh eight and parity 1. -/
theorem test_lineOut : [(1000000, [0x41#8, 0#8]), (1000002, [0x41#8, 0#8]), (1000003, [0x41#8, 0#8])].map
      (fun c => ({ withA { PortState.blank with up := true, tx := some ⟨c.2, none, 1000004⟩ } with
        us := c.1 }).lineOut .a)
      = [.symbol ⟨0x41#8, true, false, true⟩, .symbol ⟨0#8, false, true, true⟩,
         .symbol ⟨0xFF#8, true, false, true⟩]
    ∧ [0, 8].map (fun n => (withA { PortState.blank with hearing := n }).lineOut .a)
      = [.symbol ⟨0xFE#8, true, true, true⟩, .symbol ⟨0xFF#8, true, false, true⟩]
    ∧ dark.lineOut .a = .low := by decide +kernel

/-- R148, R149: a good DROP of station 3, and the same frame with its length, a check byte, origin, tag,
reserved byte, kind, claim id or reason wrong. -/
theorem test_frameOk : (dropFrame 63 1 :: (dropFrame 63 1 ++ [0#8]) :: (dropFrame 63 1).set 12 0x55#8
      :: [(1, 0), (1, 17), (2, 0), (6, 3), (7, 1), (9, 1), (0, 0x46), (10, 0), (11, 3)].map
        (fun c => setFrameByte (dropFrame 63 1) c.1 c.2)).map frameOk
    = true :: List.replicate 11 false := by decide +kernel

/-- R148, R143: an own frame and its check byte have the exclusive or 0; 13 bytes and an idle symbol are
168 bit-times at 10 Mbit/s, so the port is busy for 17 µs. -/
theorem test_ownFrame : checkByte ownDrop.bytes = 0#8
    ∧ ((after (.transmitNextFrame .b) (sending [ownDrop] true true)).port .b).tx.map (fun t => t.doneAt)
      = some 1000017 := by decide +kernel

/-! ### Witnesses: frames of peers and own frames -/

/-- A frame of the kind byte, origin, tag and visited mask given (R198). -/
def frame (kind origin tag visited : Nat) (body : List Byte) : List Byte :=
  sealed (le8 kind ++ le8 origin ++ le8 tag ++ le8 0 ++ le16 visited ++ le8 body.length
    ++ [0#8, 0#8, 0#8] ++ body)

/-- The body of a CLAIM 6 for the kind and scope `x` with an objection mask, first objector and reason. -/
def claimBody (x objections first reason : Nat) : List Byte :=
  le8 6 ++ le8 x ++ le16 15 ++ (peer 2800).core.bytes ++ le16 objections ++ le8 first ++ le8 reason

/-- The body of a STATUS with sequence `n` and one withdrawal, a BYPASS 9 of the cabinet. -/
def statusBody (n : Nat) : List Byte :=
  le8 n ++ (peer 2800).core.bytes ++ le8 0 ++ le8 0 ++ le8 0 ++ le8 1 ++ le8 9 ++ le8 17 ++ le8 0

theorem holding_meets {p : Port} {b : List Byte} {s : State}
    (h : (s.running && (s.port p).up && frameOk b) = true) : (holding p b s).meets p b [] := by
  rw [Bool.and_eq_true, Bool.and_eq_true] at h
  cases p <;> exact ⟨h.1.1, h.1.2, rfl, h.2⟩

/-- Station 1 with claim 6, tag 6, of a STRING visit out, and what of the loop is UP. -/
def flying (aUp : Bool) : State := { admitting false true with loop := { joined.loop with
  a := { joined.loop.a with up := aUp }, inFlight := [⟨6, .claim, 6, 950⟩] } }

theorem meets_OwnNumberFrames : (∀ c ∈ [(Port.a, frame 0x42 1 6 14 (claimBody 0x44 0 0 0), true),
      (.b, frame 0x44 1 6 14 (le8 9 ++ le8 2), false), (.b, frame 0x44 1 6 14 (le8 9 ++ le8 2), true),
      (.a, frame 0x44 1 7 14 (le8 9 ++ le8 2), true), (.a, frame 0x42 1 7 14 (claimBody 0x44 0 0 0), true)],
      (holding c.1 c.2.1 (flying c.2.2)).meets c.1 c.2.1 [] ∧ (flying c.2.2).startup.state = .joined
      ∧ frOrigin c.2.1 = (flying c.2.2).own ∧ (holding c.1 c.2.1 (flying c.2.2)).marginOk = true)
    ∧ (flying true).loop.inFlight.map (fun f => f.tag) = [6] ∧ (flying true).view.duplicate = false
    ∧ duplicated.view.duplicate = true := by
  have h : ∀ c ∈ [(Port.a, frame 0x42 1 6 14 (claimBody 0x44 0 0 0), true),
      (.b, frame 0x44 1 6 14 (le8 9 ++ le8 2), false), (.b, frame 0x44 1 6 14 (le8 9 ++ le8 2), true),
      (.a, frame 0x44 1 7 14 (le8 9 ++ le8 2), true), (.a, frame 0x42 1 7 14 (claimBody 0x44 0 0 0), true)],
      ((flying c.2.2).running && ((flying c.2.2).port c.1).up && frameOk c.2.1) = true
      ∧ (flying c.2.2).startup.state = .joined
      ∧ frOrigin c.2.1 = (flying c.2.2).own ∧ (holding c.1 c.2.1 (flying c.2.2)).marginOk = true := by
    decide +kernel
  exact ⟨fun c hc => ⟨holding_meets (h c hc).1, (h c hc).2⟩, by decide, by decide, by decide⟩

/-- Station 1 with `n` PROVISIONAL entries of station 3, claim ids from 9. -/
def listed (n : Nat) : State := settled { joined with claims := { joined.claims with
  list := (List.range n).map (fun i => ⟨3, 9 + i, .service, .string 1, false, false, false, none, 900, false⟩) } }

/-- GRANT, DROP and FORCED of station 3 with claim 9, held or not, with room and without. -/
theorem meets_SettlementFrames : (∀ b ∈ [frame 0x43 3 5 0 (le8 9 ++ le8 17),
      frame 0x44 3 5 0 (le8 9 ++ le8 2), frame 0x45 3 5 0 (le8 9 ++ le8 17 ++ le8 1)],
      ∀ s ∈ [joined, listed 28, listed 29], (holding .a b s).meets .a b []
        ∧ s.startup.state = .joined ∧ frOrigin b ≠ s.own ∧ maskHas (frVisited b) s.own = false)
    ∧ frameKindOf (byteAt (frame 0x43 3 5 0 (le8 9 ++ le8 17)) 0) = some .grant
    ∧ frameKindOf (byteAt (frame 0x44 3 5 0 (le8 9 ++ le8 2)) 0) = some .drop
    ∧ frameKindOf (byteAt (frame 0x45 3 5 0 (le8 9 ++ le8 17 ++ le8 1)) 0) = some .forced
    ∧ kindScopeOf 17 = some (.bypass, .cabinet)
    ∧ (∃ w ∈ (listed 28).claims.list, w.owner = 3 ∧ w.claimId = 9)
    ∧ ¬ (∃ w ∈ joined.claims.list, w.owner = 3 ∧ w.claimId = 9)
    ∧ ((listed 28).claims.list.filter (fun w => w.owner != (listed 28).own)).length < 29
    ∧ ¬ ((listed 29).claims.list.filter (fun w => w.owner != (listed 29).own)).length < 29 := by
  have h : ∀ b ∈ [frame 0x43 3 5 0 (le8 9 ++ le8 17),
      frame 0x44 3 5 0 (le8 9 ++ le8 2), frame 0x45 3 5 0 (le8 9 ++ le8 17 ++ le8 1)],
      ∀ s ∈ [joined, listed 28, listed 29], (s.running && (s.port .a).up && frameOk b) = true
        ∧ s.startup.state = .joined ∧ frOrigin b ≠ s.own ∧ maskHas (frVisited b) s.own = false := by
    decide +kernel
  exact ⟨fun b hb s hs => ⟨holding_meets (h b hb s hs).1, (h b hb s hs).2⟩, by decide, by decide, by decide,
    by decide, by decide +kernel, by decide +kernel, by decide +kernel, by decide +kernel⟩

/-- A STATUS of station 3, whose last sequence is 1: repeated, the oldest and the newest of the half
before it, the next, and the first of an ABSENT peer. -/
theorem meets_StatusTakenIn : (∀ n ∈ [1, 129, 2, 128, 0],
      (holding .a (frame 0x41 3 5 0 (statusBody n)) joined).meets .a (frame 0x41 3 5 0 (statusBody n)) []
      ∧ (holding .a (frame 0x41 3 5 0 (statusBody n)) joined).firstMeeting .status
        (frame 0x41 3 5 0 (statusBody n))
      ∧ (holding .a (frame 0x41 3 5 0 (statusBody n)) joined).marginOk = true)
    ∧ (∀ n ∈ [1, 129, 0], ((n + 256 - (joined.peer 3).lastSeq) % 256 = 0
      ∨ 128 ≤ (n + 256 - (joined.peer 3).lastSeq) % 256))
    ∧ (∀ n ∈ [2, 128], ¬ ((n + 256 - (joined.peer 3).lastSeq) % 256 = 0
      ∨ 128 ≤ (n + 256 - (joined.peer 3).lastSeq) % 256))
    ∧ (joined.peer 3).state = .present ∧ (joined.peer 3).seqOpen = false ∧ joined.view.peers.length = 16
    ∧ (let b := frame 0x41 3 5 0 (statusBody 2)
      joined.peerEntries.length + (carriedOf b).length ≤ 29
      ∧ (carriedOf b).Pairwise (fun x y => x.claimId ≠ y.claimId)) := by
  have h : ∀ n ∈ [1, 129, 2, 128, 0], (joined.running && (joined.port .a).up
        && frameOk (frame 0x41 3 5 0 (statusBody n))) = true
      ∧ (joined.startup.state = .joined ∧ frOrigin (frame 0x41 3 5 0 (statusBody n)) ≠ joined.own
        ∧ maskHas (frVisited (frame 0x41 3 5 0 (statusBody n))) joined.own = false
        ∧ frameKindOf (byteAt (frame 0x41 3 5 0 (statusBody n)) 0) = some .status)
      ∧ (holding .a (frame 0x41 3 5 0 (statusBody n)) joined).marginOk = true := by decide +kernel
  exact ⟨fun n hn => ⟨holding_meets (h n hn).1, (h n hn).2⟩, by decide, by decide, by decide, by decide,
    by decide, by decide +kernel⟩

/-- Station 3 as a peer that is STALE, with no VISIT_LONG and the policy of this station. -/
def staled : State := settled { joined with view := { joined.view with
  peers := joined.view.peers.set 2 { peer 2800 with state := .stale } } }

/-- CLAIM 6 of station 3 for a BYPASS of the cabinet, objected to by station 2 or not, at each condition of
R79. -/
theorem meets_ClaimJudged : (∀ b ∈ [frame 0x42 3 5 0 (claimBody 17 0 0 0), frame 0x42 3 5 2 (claimBody 17 2 2 1)],
      ∀ s ∈ [joined, duplicated, staled, listed 28, listed 29, flying true],
      (holding .a b s).meets .a b [] ∧ (holding .a b s).firstMeeting .claim b ∧ isStation s.own = true)
    ∧ kindScopeOf (body8 (frame 0x42 3 5 0 (claimBody 17 0 0 0)) 1) = some (.bypass, .cabinet)
    ∧ claimFirst (frame 0x42 3 5 0 (claimBody 17 0 0 0)) = 0
    ∧ claimFirst (frame 0x42 3 5 2 (claimBody 17 2 2 1)) ≠ 0 := by
  have h : ∀ b ∈ [frame 0x42 3 5 0 (claimBody 17 0 0 0), frame 0x42 3 5 2 (claimBody 17 2 2 1)],
      ∀ s ∈ [joined, duplicated, staled, listed 28, listed 29, flying true],
      (s.running && (s.port .a).up && frameOk b) = true
      ∧ (s.startup.state = .joined ∧ frOrigin b ≠ s.own ∧ maskHas (frVisited b) s.own = false
        ∧ frameKindOf (byteAt b 0) = some .claim)
      ∧ isStation s.own = true := by decide +kernel
  exact ⟨fun b hb s hs => ⟨holding_meets (h b hb s hs).1, (h b hb s hs).2⟩, by decide, by decide, by decide⟩

/-- What station 1 does with CLAIM 6 of station 3: the objection mask and first reason of the frame in the
forward buffer of port B, and the entries of station 3. -/
def judged (x : Nat) (s : State) : List (Nat × Nat) × Nat :=
  let t := after (.frameCompleted .a) (holding .a (frame 0x42 3 5 0 (claimBody x 0 0 0)) s)
  ((t.loop.b.fwd.map (fun b => (claimObjections b, claimReason b))),
    (t.claims.list.filter (fun w => w.owner == 3 && w.claimId == 6)).length)

/-- R79 and R80 in their order; section 3.6: with station 2 on bypass a second BYPASS fails EXPOSURE here. -/
theorem test_claimJudged : judged 17 joined = ([(0, 0)], 1)
    ∧ judged 17 duplicated = ([(1, Reason.code .duplicate)], 0)
    ∧ judged 17 (settled { joined with claims := { joined.claims with
        list := [⟨2, 9, .bypass, .cabinet, true, false, false, none, 900, false⟩] } }) = ([(1, 3)], 0)
    ∧ judged 17 (listed 29) = ([(1, Reason.code .viewFull)], 0) := by decide +kernel

/-- R57, R59, R60, R140: CLAIM 6 of a STALE station 3, with another reserve and VISIT_LONG in its core;
with that station back the floor leaves DEFICIT before the claim is judged. -/
theorem test_claimRefreshes : (let core := { (peer 2800).core with
      reserve := 40, flags := { StationFlags.clear with visitLong := true } }
    let b := frame 0x42 3 5 0 (le8 6 ++ le8 17 ++ le16 15 ++ core.bytes ++ le32 0)
    let t := after (.frameCompleted .a) (holding .a b staled)
    ((t.peer 3).state, t.host.notices.map (fun n => n.kind)))
    = (.present, [.peerState, .policyMismatch, .peerVisitLong, .deficitLeave]) := by decide +kernel

/-! ### Witnesses: floor sums and the own claim -/

/-- Station 2 counts with its two strings; station 3 is covered by its bypass. -/
def oneOut : State := { joined with claims := { joined.claims with
  list := [⟨3, 9, .bypass, .cabinet, true, false, false, none, 900, false⟩] } }

theorem meets_FloorSums : (∃ w ∈ oneOut.claims.list, w.owner = 3 ∧ (w.kind = .bypass ∨ w.kind = .maint))
    ∧ (let e := oneOut.entry 2
      e.state = .present ∧ e.core.flags.hostStale = false ∧ e.core.flags.unsupervised = false
      ∧ ¬ ((∃ w ∈ oneOut.claims.list, w.owner = 2 ∧ (w.kind = .bypass ∨ w.kind = .maint))
        ∨ e.core.flags.onBypass = true)
      ∧ [866, 866, 0, 0].length = e.core.strings.length
      ∧ (e.core.strings.map (fun r => if r.state = .inService ∧ r.cls ≠ .ended then r.eAvail else 0))
        = [866, 866, 0, 0])
    ∧ oneOut.contribution [] 2 = ⟨4000, 3000, 3000, 0, 1732⟩
    ∧ oneOut.contribution [] 3 = ⟨0, 0, 2800, 2800, 0⟩
    ∧ joined.startup.state = .joined ∧ joined.view.margin = .normal
    ∧ joined.strings[1]? = some string0 ∧ joined.strings.length ≤ 2
    ∧ (silent.dog.stage = .hostStale ∧ joined.dog.stage = .watching)
    ∧ (visiting (visitOf .cabinet false)).visit.current = some (visitOf .cabinet false) := by decide +kernel

/-- Section 3.6, worked case: station 1 with stations 2 and 4 on bypass fails EXPOSURE; in DEFICIT with only
station 2 on bypass it stays there, and with none it is NORMAL again. -/
theorem test_margin : [(Margin.normal, [2, 4]), (.deficit, [2]), (.normal, [2]), (.deficit, [])].map (fun c =>
      let out := c.2.map (fun n => ⟨n, 9, .bypass, .cabinet, true, false, false, none, 900, false⟩)
      ({ joined with
        view := { joined.view with margin := c.1 }
        claims := { joined.claims with list := out } }).marginNow)
    = [.deficit, .deficit, .normal, .normal] := by decide +kernel

/-- A request of a STRING visit, given up or not, with `n` retries. -/
def request (givenUp : Bool) (n : Nat) : Request := ⟨.visit, .service, .string 0, 15, n, givenUp, 6⟩

/-- `s` with claim 6 for that request in flight with tag 6. -/
def asking (givenUp : Bool) (n : Nat) (s : State) : State :=
  { s with claims := { s.claims with slot := .inFlight (request givenUp n) 6 6 1000 } }

theorem meets_ClaimReturn : (∀ s ∈ [joined, duplicated, { joined with image := some { cfg with reservePct := 60 } }],
      (asking false 0 s).claims.slot = .inFlight (request false 0) 6 6 1000)
    ∧ (asking true 0 joined).claims.slot = .inFlight (request true 0) 6 6 1000
    ∧ frTag (frame 0x42 1 7 14 (claimBody 0x44 0 0 0)) ≠ 6
    ∧ (let b := frame 0x42 1 6 14 (claimBody 0x44 0 0 0)
      frTag b = 6 ∧ claimObjections b = 0
      ∧ (∀ n ∈ joined.peerNumbers, (joined.peer n).state = .present → maskHas (frVisited b) n = true)
      ∧ joined.cfg.quorum ≤ maskCount (frVisited b) + 1)
    ∧ (joined.view.duplicate = false ∧ joined.claims.incomplete = false ∧ joined.view.margin = .normal)
    ∧ joined.policy.failing (joined.totals [⟨1, .service, .string 0⟩]) = none
    ∧ (let s := { joined with image := some { cfg with reservePct := 60 } }
      s.policy.failing (s.totals [⟨1, .service, .string 0⟩]) = some .capacity)
    ∧ duplicated.view.duplicate = true
    ∧ (let s := { joined with claims := { joined.claims with incomplete := true } }
      s.view.duplicate = false ∧ s.claims.incomplete = true)
    ∧ ({ joined with view := { joined.view with margin := .deficit } }).view.margin = .deficit
    ∧ (let b := frame 0x42 1 6 14 (claimBody 0x44 2 2 7)
      frTag b = 6 ∧ claimObjections b ≠ 0 ∧ claimReason b = 7)
    ∧ (let b := frame 0x42 1 6 14 (claimBody 0x44 2 2 1)
      frTag b = 6 ∧ claimObjections b ≠ 0 ∧ claimReason b ≠ 7)
    ∧ (let b := frame 0x42 1 6 6 (claimBody 0x44 0 0 0)
      frTag b = 6 ∧ claimObjections b = 0
      ∧ ¬ (∀ n ∈ joined.peerNumbers, (joined.peer n).state = .present → maskHas (frVisited b) n = true)) := by
  decide +kernel

theorem meets_FailedClaimsAndTimers : (request true 0).givenUp = true
    ∧ (request false 2).givenUp = false ∧ joined.cfg.retryLimit ≤ (request false 2).retries
    ∧ (request false 1).retries < joined.cfg.retryLimit
    ∧ (let s := asking false 0 joined
      s.running = true ∧ s.claims.slot = .inFlight (request false 0) 6 6 1000 ∧ 1000 ≤ s.now)
    ∧ (∀ s ∈ [joined, duplicated],
      let s := { s with claims := { s.claims with slot := .retryWait (request false 1) 1000 } }
      s.running = true ∧ s.claims.slot = .retryWait (request false 1) 1000 ∧ 1000 ≤ s.now
      ∧ s.marginOk = true)
    ∧ joined.localCheck ⟨1, .service, .string 0⟩ = none
    ∧ duplicated.localCheck ⟨1, .service, .string 0⟩ = some .duplicate := by decide +kernel

/-- R85 and R86: LOST waits a claim timeout of 50 ms, CONTENDED 20 ms and 10 ms for each station number,
and the third failure of two retries is ABANDONED. -/
theorem test_retries : ((asking false 1 joined).settleFailed (request false 1) 6 ⟨.lost, 0, 0, 0, 0⟩).claims.slot
      = .retryWait (request false 1) 1050
    ∧ ((asking false 1 joined).settleFailed (request false 1) 6 ⟨.contended, 0, 2, 0, 0⟩).claims.slot
      = .retryWait (request false 1) 1030
    ∧ ((asking false 2 joined).settleFailed (request false 2) 6 ⟨.lost, 0, 0, 0, 0⟩).claims.slot = .free := by
  decide +kernel

/-- A test claimed on a string that fits and on one that does not, given up or not; a claiming and a
superseded sequencer, with the lock and without; a visit being admitted. -/
theorem meets_OutcomesReported : (∀ s ∈ [claiming none true, claiming (some .host) true],
      s.startup.state = .joined ∧ s.job.state = .claiming)
    ∧ (claiming none true).job.givenUp = none ∧ (claiming (some .host) true).job.givenUp = some .host
    ∧ (claiming none true).strings[(claiming none true).job.k]? = some string0
    ∧ (string0.state = .inService ∧ string0.unmeasured = false ∧ 9000 ≤ string0.soc ∧ string0.cls ≠ .ended)
    ∧ ¬ (9000 ≤ ({ string0 with soc := 8999 }).soc)
    ∧ (∀ x ∈ [(true, 4, true), (false, 4, true), (false, 3, true), (false, 4, false)],
      let s := { waits x.2.1 x.2.2 joined with seq := { joined.seq with
        state := .claiming, superseded := x.1, bypOk := x.2.2 } }
      s.startup.state = .joined ∧ s.seq.superseded = x.1
      ∧ (s.phase.lock = 4 ∧ s.seq.bypOk = true ↔ x.2 = (4, true)))
    ∧ (∀ g ∈ [false, true], (admitting g true).startup.state = .joined
      ∧ ((admitting g true).visit.current.map (fun v => (v.admitting, v.givenUp))) = some (true, g)) := by
  decide +kernel

/-- The own CLAIM 6 comes home to port A, seen by every peer. -/
def homeFrame : List Byte := frame 0x42 1 6 14 (claimBody 0x44 0 0 0)
def arriving : State := holding .a homeFrame (flying true)

theorem meets_ActiveOnlyByReturn : arriving.listOk = true
    ∧ exec (.frameCompleted .a) arriving = .next (after (.frameCompleted .a) arriving)
    ∧ (⟨1, 6, .service, .string 0, true, false, false, some 15, 1000, false⟩ : Withdrawal)
      ∈ (after (.frameCompleted .a) arriving).claims.list
    ∧ (after (.frameCompleted .a) arriving).own = 1
    ∧ (∀ x ∈ arriving.claims.list, x.owner = 1 → x.claimId ≠ 6) :=
  ⟨by decide +kernel, rfl, by decide +kernel, by decide +kernel, by decide +kernel⟩

/-! ### Witnesses: the sequencer -/

/-- The own cabinet entry, claim 5. -/
def cabinet (k : WKind) : Withdrawal := ⟨1, 5, k, .cabinet, true, false, false, none, 900, false⟩

/-- Station 1 with its sequencer in state `x`, `prior` and the transfer timer as given, its cabinet entry
where the state stands on one, and the levels of SS_FB and MBS_CLOSED. -/
def atState (x : SeqState) (prior : Option SeqState) (xfer : Option XferTimer) (ss mbs : Bool) : State :=
  settled { joined with
    pins := { joined.pins with ssFb := ss, mbsClosed := mbs }
    seq := { joined.seq with state := x, prior := prior, xfer := xfer }
    claims := { joined.claims with
      list := if x.withdrawn then [cabinet (if x = .maint then .maint else .bypass)] else [] } }

def timer (d : Direction) (held : Bool) : XferTimer := ⟨d, .sync, held, 900, 1000⟩

/-- A claiming sequencer with its claim in flight or between two tries, and a bypass history of `n`
transfers of the last hour. -/
def claimingBypass (flying : Bool) (n : Nat) : State :=
  let q : Request := ⟨.sequencer, .bypass, .cabinet, 30, 0, false, 6⟩
  { atState .claiming none none false false with
    seq := { joined.seq with state := .claiming, pending := true, history := List.replicate n 500 }
    claims := { joined.claims with slot := if flying then .inFlight q 6 6 1050 else .retryWait q 1100 } }

theorem meets_SwitchToBypass : (∀ s ∈ [State.reset, faulty, opening false false, opening false true,
      atState .onBypass none none false false, atState .maint (some .forced) none false true,
      atState .transferOut none (some (timer .out false)) false false, joined, inState .syncWait,
      claimingBypass true 3, claimingBypass false 2, running], s.running = true ∧ s.pins.ssFb = false)
    ∧ (atState .onBypass none none false false).marginOk = true
    ∧ (atState .maint (some .forced) none false true).marginOk = true
    ∧ (let s := atState .transferOut none (some (timer .out false)) false false
      s.seq.state = .transferOut ∧ s.seq.xfer = some (timer .out false) ∧ s.pins.mbsClosed = false)
    ∧ (∀ s ∈ [joined, inState .syncWait, claimingBypass true 3, claimingBypass false 2, running],
      s.startup.state = .joined ∧ s.seq.state ∈ [SeqState.online, .syncWait, .claiming]
      ∧ s.pins.mbsClosed = false ∧ s.ownOfClass WKind.isCabinet = none)
    ∧ ((claimingBypass true 3).seq.history.filter
      (fun t => decide ((claimingBypass true 3).now - t ≤ 3600000))).length = 3
    ∧ (claimingBypass true 3).claims.slot
      = .inFlight ⟨.sequencer, .bypass, .cabinet, 30, 0, false, 6⟩ 6 6 1050
    ∧ (claimingBypass false 2).claims.slot = .retryWait ⟨.sequencer, .bypass, .cabinet, 30, 0, false, 6⟩ 1100
    ∧ running.job.state = .running := by decide +kernel

/-- R110, R111: a rise in ONLINE is FORCED, the fourth within the hour LATCHED; a running
test ends; and the rise that TRANSFER_OUT waits for brings ON_BYPASS. -/
theorem test_forced : (after .ssFbRise joined).seq.state = .forced
    ∧ (after .ssFbRise (claimingBypass true 3)).seq.state = .latched
    ∧ (after .ssFbRise (claimingBypass false 2)).seq.state = .forced
    ∧ (after .ssFbRise running).job.state = .idle
    ∧ (after .ssFbRise (atState .transferOut none (some (timer .out false)) false false)).seq.state
      = .onBypass := by decide +kernel

theorem meets_SwitchToInverter : (∀ s ∈ [{ State.reset with pins := ⟨true, true, false, false, false⟩ },
      { faulty with pins := ⟨true, true, false, false, false⟩ }, opening true false, opening true true,
      atState .online none none true false, atState .maint (some .forced) none true true,
      atState .transferIn (some .forced) (some (timer .into false)) true false,
      atState .onBypass none none true false, atState .latched none none true false],
      s.running = true ∧ s.pins.ssFb = true)
    ∧ (atState .online none none true false).marginOk = true
    ∧ (atState .maint (some .forced) none true true).marginOk = true
    ∧ (atState .transferIn (some .forced) (some (timer .into false)) true false).seq.xfer
      = some (timer .into false)
    ∧ (atState .latched none none true false).startup.state = .joined := by decide +kernel

/-- R109, R110: the end of TRANSFER_IN releases the cabinet entry, and an unexpected return is noticed. -/
theorem test_returned : (after .ssFbFall (atState .transferIn (some .forced) (some (timer .into false)) true
      false)).claims.list = []
    ∧ (after .ssFbFall (atState .latched none none true false)).host.notices.map (fun n => n.kind)
      = [.unexpectedReturn] := by decide +kernel

/-- `s` with a CABINET visit OPEN. -/
def attended (s : State) : State := settled { s with
  visit := { s.visit with current := some (visitOf .cabinet false), counter := 3 } }

theorem meets_MaintenanceBypass : (∀ s ∈ [State.reset, faulty, opening false false,
      atState .maint (some .forced) none true false, atState .onBypass none none true false,
      attended (atState .forced none none true false),
      atState .transferIn (some .latched) (some (timer .into false)) true false, joined,
      atState .transferOut none (some (timer .out false)) false false, running],
      s.running = true ∧ s.pins.mbsClosed = false)
    ∧ (∀ s ∈ [{ State.reset with pins := ⟨true, false, true, false, false⟩ },
      { faulty with pins := ⟨true, false, true, false, false⟩ }, opening true true, opening false true,
      atState .onBypass none none true true, atState .maint (some .latched) none true true,
      attended (atState .maint (some .onBypass) none true true),
      atState .maint (some .forced) none false true], s.running = true ∧ s.pins.mbsClosed = true)
    ∧ (atState .maint (some .forced) none true false).marginOk = true
    ∧ (atState .onBypass none none true true).marginOk = true
    ∧ (∀ s ∈ [atState .onBypass none none true false, attended (atState .forced none none true false),
      atState .transferIn (some .latched) (some (timer .into false)) true false],
      s.startup.state = .joined ∧ s.ownOfClass WKind.isCabinet = some (cabinet .bypass))
    ∧ (∀ s ∈ [atState .maint (some .latched) none true true,
      attended (atState .maint (some .onBypass) none true true), atState .maint (some .forced) none false true],
      s.startup.state = .joined ∧ s.seq.state = .maint
      ∧ (∃ b ∈ [SeqState.onBypass, .forced, .latched], s.seq.prior = some b)
      ∧ s.ownOfClass WKind.isCabinet = some (cabinet .maint))
    ∧ (attended (atState .forced none none true false)).cabinetVisitOpen = true
    ∧ (∀ s ∈ [atState .onBypass none none true false, atState .forced none none true false],
      s.cabinetVisitOpen = false ∧ s.cabinetOk = true ∧ s.pairsOk = true) := by decide +kernel

/-- R114, R115: closed with no CABINET visit the entry is marked; closed on inverter it is forced; opened
with SS_FB on inverter the station is back ONLINE. -/
theorem test_maintenance : (after .mbsClosedRise (atState .onBypass none none true false)).claims.list.map
      (fun w => (w.kind, w.unsanctioned)) = [(.maint, true)]
    ∧ (after .mbsClosedRise (attended (atState .onBypass none none true false))).claims.list.map
      (fun w => (w.kind, w.unsanctioned)) = [(.maint, false)]
    ∧ (after .mbsClosedRise joined).claims.list.map (fun w => (w.kind, w.forced, w.unsanctioned))
      = [(.maint, true, true)]
    ∧ (after .mbsClosedFall (atState .maint (some .forced) none false true)).seq.state = .online := by
  decide +kernel

/-- `s` with the lock count and INV_OK given. -/
def locked (lock : Nat) (inv : Bool) (s : State) : State :=
  { s with phase := { s.phase with lock := lock }, pins := { s.pins with invOk := inv } }

theorem meets_SequencerTimersAndFaults : (∀ s ∈ [locked 4 false (atState .forced none none true false),
      locked 4 true (atState .forced none none true false), locked 3 true joined,
      atState .transferIn (some .latched) (some (timer .into false)) true false,
      atState .transferOut none (some (timer .out true)) false false],
      s.running = true ∧ s.startup.state = .joined ∧ s.marginOk = true)
    ∧ (let s := { locked 4 true (atState .forced none none true false) with
        seq := { (atState .forced none none true false).seq with retransferAt := some 1000 } }
      s.running = true ∧ s.seq.retransferAt = some 1000 ∧ 1000 ≤ s.now ∧ s.seq.state = .forced
      ∧ s.marginOk = true)
    ∧ (let s := { joined with seq := { joined.seq with state := .syncWait, syncAt := some 1000 } }
      s.running = true ∧ s.seq.syncAt = some 1000 ∧ 1000 ≤ s.now ∧ s.marginOk = true)
    ∧ (∀ s ∈ [atState .transferIn (some .latched) (some (timer .into false)) true false,
      atState .transferIn (some .onBypass) (some (timer .into true)) true false,
      atState .transferOut none (some (timer .out false)) false false],
      (∃ x ∈ s.seq.xfer, x.expiresAt ≤ s.now) ∧ (s.seq.state = .transferOut
        ∨ (s.seq.state = .transferIn ∧ ∃ b ∈ [SeqState.onBypass, .forced, .latched], s.seq.prior = some b)))
    ∧ (locked 3 true joined).seq.xfer = none
    ∧ (timer .into true).held = true ∧ (timer .out false).held = false := by decide +kernel

/-- R105, R106, R113: the retransfer timer starts, a transfer that never held the lock fails at the re-check,
and an unconfirmed TRANSFER_OUT releases the entry. -/
theorem test_sequencer : (after .invOkRise (locked 4 false (atState .forced none none true false))).seq.retransferAt
      = some 11000
    ∧ (locked 3 true (atState .transferIn (some .latched) (some (timer .into false)) true
      false)).lockRecheck.seq.state = .latched
    ∧ (after .confirmTimeout (atState .transferOut none (some (timer .out true)) false false)).claims.list = []
    := by decide +kernel

/-! ### Witnesses: visits and phase capture -/

/-- A visit opened at 0.9 s for 15 minutes at its overdue level, at 15 and 30 minutes. -/
def long (level : OverdueLevel) (minutes : Nat) : State := { joined with
  us := 900000 + minutes * 60000000
  visit := { joined.visit with current := some { visitOf .cabinet false with overdue := level } } }

/-- The key IN or OUT at a visit. -/
def keyAt (inside keyOut : Bool) : State := settled { joined with
  pins := { joined.pins with keyOn := inside }
  visit := { joined.visit with current := some { visitOf .cabinet false with keyOut := keyOut } } }

theorem meets_KeyAndOverdueLevels : (∀ s ∈ [joined, keyless, keyAt true false, keyAt false true,
      keyAt false false, settled (long .none 15), settled (long .overdue 30)], live s)
    ∧ joined.visit.current = none ∧ joined.pins.keyOn = true ∧ keyless.pins.keyOn = false
    ∧ (keyAt true false).pins.keyOn = true ∧ (keyAt false true).pins.keyOn = false
    ∧ (∀ v ∈ (settled (long .none 15)).visit.current, v.admitting = false ∧ v.overdue = .none
      ∧ v.openedMs + v.planned * 60000 ≤ (settled (long .none 15)).now)
    ∧ (∀ v ∈ (settled (long .overdue 30)).visit.current, v.admitting = false ∧ v.overdue = .overdue
      ∧ v.openedMs + 2 * v.planned * 60000 ≤ (settled (long .overdue 30)).now) := by decide +kernel

/-- R133, R139. -/
theorem test_visits : ((after .keyOnFall (keyAt true false)).host.notices.map (fun n => n.kind)) = [.keyRemoved]
    ∧ ((after .keyOnRise (keyAt false true)).host.notices.map (fun n => n.kind)) = [.keyReturned]
    ∧ ((after .visitOverdue (settled (long .none 15))).visit.current.map (fun v => v.overdue)) = some .overdue
    ∧ ((after .visitLong (settled (long .overdue 30))).visit.current.map (fun v => v.overdue)) = some .long := by
  decide +kernel

/-- R175, R176: periods of 20000, 16667 and 15385 counts, one a count too short, and one a full count back. -/
theorem test_frequency : [(20000, 0), (16667, 0), (15385, 0), (15384, 0), (22222, 0), (22223, 0)].map
      (fun x => ((⟨some x.2, none, 0, none⟩ : ZcLine).edge x.1).freq)
    = [some 5000, some 5999, some 6499, none, some 4500, none]
    ∧ ((⟨some 60000, none, 1, none⟩ : ZcLine).edge 14464).freq = some 5000
    ∧ ((⟨some 10000, none, 1, none⟩ : ZcLine).edge 30000).period = none := by decide

/-- A station at count 1000 with the edges of the lines given. -/
def edges (inv byp : ZcLine) (lock : Nat) (us : Nat) (s : State) : State :=
  { s with us := us, phase := ⟨inv, byp, 5, lock⟩ }
def fifty (t : Nat) : ZcLine := ⟨some t, some 20000, 0, some 5000⟩

/-- An edge of each line and a wrap, in states of the sequencer with and without a transfer, where the
bypass frequency keeps, gains and loses its validity, and the lock is gained, kept and lost. -/
theorem meets_PhaseCapture : (∀ s ∈ [joined, edges (fifty 20000) (fifty 0) 3 20000 State.reset,
      edges (fifty 17900) (fifty 0) 3 20000 joined, edges (fifty 0) (fifty 0) 3 20000 joined,
      edges ZcLine.blank (fifty 0) 3 20000 (opening false false), edges (fifty 0) (fifty 0) 3 65535 joined,
      edges { fifty 0 with wraps := 1 } ⟨some 0, none, 1, none⟩ 3 65535 joined],
      s.running = true ∧ s.marginOk = true ∧ s.seq.state = .online ∧ s.seq.xfer = none
      ∧ s.seq.retransferAt = none)
    ∧ (∀ s ∈ [edges (fifty 200) (fifty 0) 3 20000 (waits 3 true joined),
      edges (fifty 17900) ⟨some 0, none, 0, none⟩ 4 20000 (waits 4 false joined),
      edges (fifty 0) { fifty 0 with wraps := 1 } 4 65535 (waits 4 true joined),
      edges (fifty 17900) (fifty 0) 4 20000
        (atState .transferIn (some .latched) (some (timer .into false)) true false),
      edges { fifty 0 with wraps := 1 } (fifty 0) 4 65535
        (atState .transferOut none (some (timer .out false)) false false)],
      s.running = true ∧ s.startup.state = .joined)
    ∧ (fifty 0).wraps = 0 ∧ ({ fifty 0 with wraps := 1 }).freq.isSome = true
    ∧ ((⟨some 0, none, 0, none⟩ : ZcLine).edge 20000).freq.isSome
      ≠ (⟨some 0, none, 0, none⟩ : ZcLine).freq.isSome
    ∧ ZcLine.blank.tLast = none ∧ (fifty 0).tLast = some 0
    ∧ ((fifty 0).edge 20000).freq.isSome = (fifty 0).freq.isSome
    ∧ ((fifty 0).edge 20000).period = some 20000
    ∧ ((fifty 17900).wraps ≠ 1 ∧ (20000 + 65536 - 17900) % 65536 < 20000)
    ∧ ¬ ((20000 + 65536 - 0) % 65536 < 20000)
    ∧ (edges (fifty 0) (fifty 0) 3 65535 joined).us % 65536 = 65535
    ∧ (⟨some 0, none, 1, none⟩ : ZcLine).freq = none := by decide +kernel

/-- R103, R105, R113: the fourth good cycle of a station in SYNC_WAIT sends its claim; a cycle outside the
window fails a TRANSFER_IN that has never held the lock; a dead line stops the retransfer timer. -/
theorem test_cycles : (after .zcBypEdge (edges (fifty 200) (fifty 0) 3 20000 (waits 3 true joined))).seq.state
      = .claiming
    ∧ (after .zcBypEdge (edges (fifty 17900) (fifty 0) 4 20000
      (atState .transferIn (some .latched) (some (timer .into false)) true false))).seq.state = .latched
    ∧ (let s := edges { fifty 0 with wraps := 1 } (fifty 0) 4 65535 (atState .forced none none true false)
      after .phaseCounterWrap { s with seq := { s.seq with retransferAt := some 11000 } }).seq.retransferAt
      = none := by decide +kernel

/-- R177: the angle of an inverter edge 2100 counts before the bypass edge is 378, of one 19800 counts before
it −36, and an edge no younger than the period leaves angle and lock. -/
theorem test_angle : [17900, 200, 0].map (fun t =>
      let p := (after .zcBypEdge (edges (fifty t) (fifty 0) 3 20000 joined)).phase
      (p.angle, p.lock)) = [(378, 0), (-36, 4), (5, 0)] := by decide +kernel

/-! ### Witnesses: what every step keeps -/

/-- `s` with a row waiting. -/
def queued (i : Instr) (s : State) : State := { s with pending := [i] }

/-- States that meet every law: a JOINED station, one that tests a string, one on bypass, one that is
admitting a visit, one with a MEAS_WRITE open and a frame waiting, one in the start window, one after
reset. -/
theorem meets_laws : ∀ s ∈ [joined, running, atState .onBypass none none true false, admitting false true,
      after (.transactionBegins .measWrite) (fed 8 1 50000 joined), opening true false, State.reset],
    s.noticesOk = true ∧ s.linesOk = true ∧ s.stringsOk = true ∧ s.marginOk = true ∧ s.tableOk = true
    ∧ s.loopOk = true ∧ s.listOk = true ∧ s.cabinetOk = true ∧ s.ownersOk = true ∧ s.configOk = true
    ∧ s.beforeJoinOk = true ∧ s.pairsOk = true ∧ s.idAhead = true ∧ s.admissionOk = true
    ∧ s.buffersOk = true := by
  decide +kernel

/-- R165: a second whole frame supersedes the first, and the buffers agree with the open write throughout. -/
theorem test_buffers : (let s := after (.transactionBegins .measWrite) (fed 8 1 50000 joined)
    let t := after (.measWrite (meas 9 1 50000)) s
    ([s, t].map (fun u => (u.buffersOk, u.intake.buffers.map (fun b => b.role))), t.intake.skipped))
    = ([(true, [.writing, .ready, .free]), (true, [.ready, .free, .free])], 1) := by decide +kernel

/-- A waiting row of the station on inverter, the rise of SS_FB, gives a next state, and `queued` leaves the
laws as they are; so the invariants apply to it. -/
theorem meets_Kept : step (queued .ssFbRise joined) = .next (after .ssFbRise joined)
    ∧ (let s := queued .ssFbRise joined
      s.noticesOk = true ∧ s.linesOk = true ∧ s.stringsOk = true ∧ s.marginOk = true ∧ s.tableOk = true
      ∧ s.loopOk = true ∧ s.listOk = true ∧ s.cabinetOk = true ∧ s.ownersOk = true ∧ s.configOk = true
      ∧ s.beforeJoinOk = true ∧ s.pairsOk = true ∧ s.idAhead = true ∧ s.admissionOk = true
      ∧ s.buffersOk = true) :=
  ⟨rfl, by decide +kernel⟩

end Sys2Proof.Tests
end

/-! PROOFS. What a counting step and a recompute do to one string record (sections 1.3 and 1.5). -/

namespace Sys2Proof.Machine

/-! ### One counting step (R11 to R13) -/

/-- R11 names division truncated toward zero: of a positive product it is the floor the model takes. -/
theorem chargeIncrement_eq_tdiv (eta : Nat) (i : Int) (dt : Nat) :
    chargeIncrement eta i dt
      = if 0 < i * dt then Int.tdiv (i * dt * eta) 100 else i * dt := by
  unfold chargeIncrement
  by_cases hx : 0 < i * dt
  · simp only [if_pos hx]
    exact (Int.tdiv_eq_ediv_of_nonneg (mul_nonneg hx.le (Int.natCast_nonneg eta))).symm
  · simp only [if_neg hx]

/-- The whole ampere-seconds are the quotient rounded toward minus infinity. -/
theorem wholeAs_eq_fdiv (p : StringParams) (i : Int) (dt : Nat) (r : StringRec) :
    r.wholeAs p i dt = Int.fdiv (r.rem + chargeIncrement p.eta i dt) 10000 :=
  (Int.fdiv_eq_ediv_of_nonneg _ (by decide)).symm

/-- A counting step's bookkeeping of runs (R15) is of the four fields of a run alone. -/
theorem countRun_frame (threshold : Nat) (i : Int) (dt : Nat) (r : StringRec) :
    let c := r.countRun threshold i dt
    c = { r with dischEvents := c.dischEvents, dischSeconds := c.dischSeconds
                 dischMs := c.dischMs, iRef := c.iRef } := by
  by_cases runs : i < -(threshold : Int)
  · by_cases rested : -(threshold : Int) ≤ r.iRef <;> simp [StringRec.countRun, runs, rested]
  · simp [StringRec.countRun, runs]

/-- What is delivered is the negative of the whole ampere-seconds, before the clamp of R12. -/
theorem deliveredAs_of_neg {p : StringParams} {i : Int} {dt : Nat} {r : StringRec}
    (hw : r.wholeAs p i dt < 0) : (r.deliveredAs p i dt : Int) = -r.wholeAs p i dt :=
  Int.toNat_of_nonneg (by omega)

section
variable (p : StringParams) (silent : Bool) (i : Int) (dt : Nat) (r : StringRec)

@[simp] theorem countRun_rem (n : Nat) : (r.countRun n i dt).rem = r.rem := by rw [countRun_frame]
@[simp] theorem countRun_q (n : Nat) : (r.countRun n i dt).q = r.q := by rw [countRun_frame]
@[simp] theorem countRun_tRem (n : Nat) : (r.countRun n i dt).tRem = r.tRem := by rw [countRun_frame]
@[simp] theorem countRun_tDah (n : Nat) : (r.countRun n i dt).tDah = r.tDah := by rw [countRun_frame]

/-- The remainder is what the whole ampere-seconds leave (R11). -/
theorem count_rem : (r.count p silent i dt).rem
    = ((r.rem + chargeIncrement p.eta i dt) % 10000).toNat := by
  simp [StringRec.count, StringRec.formEnergy]

/-- The charge takes the whole ampere-seconds and is clamped to 0 to Q_full (R12). -/
theorem count_q : (r.count p silent i dt).q = min r.qFull ((r.q : Int) + r.wholeAs p i dt).toNat := by
  simp [StringRec.count, StringRec.formEnergy]

/-- The remainder of the throughput moves where charge is delivered (R13). -/
theorem count_tRem : (r.count p silent i dt).tRem
    = if r.wholeAs p i dt < 0 then (r.tRem + r.deliveredAs p i dt) % 360 else r.tRem := by
  simp [StringRec.count, StringRec.formEnergy]

/-- The throughput grows by the whole tenths of an ampere-hour delivered (R13). -/
theorem count_tDah : (r.count p silent i dt).tDah
    = if r.wholeAs p i dt < 0 then satAdd 32 r.tDah ((r.tRem + r.deliveredAs p i dt) / 360)
      else r.tDah := by
  simp [StringRec.count, StringRec.formEnergy]

end

/-- Settles O13: the step's increment and quotient are those of the model, and each figure of the record
follows from its own rule. -/
theorem chargeCounting : Obligations.ChargeCounting := by
  intro p silent i dt r c x y w
  have hy : chargeIncrement p.eta i dt = y := chargeIncrement_eq_tdiv p.eta i dt
  have hw : r.wholeAs p i dt = w := by rw [wholeAs_eq_fdiv, hy]
  have hdiv : w = (r.rem + y) / 10000 := by rw [← hw, ← hy]; rfl
  have hrem : c.rem = ((r.rem + y) % 10000).toNat := by rw [← hy]; exact count_rem p silent i dt r
  have hq : c.q = min r.qFull ((r.q : Int) + w).toNat := by rw [← hw]; exact count_q p silent i dt r
  refine ⟨by omega, by omega, by omega, fun hpos => ?_, fun hneg => ?_⟩
  · have hnot : ¬ r.wholeAs p i dt < 0 := by omega
    exact ⟨(count_tRem p silent i dt r).trans (if_neg hnot),
      (count_tDah p silent i dt r).trans (if_neg hnot)⟩
  · have hlt : r.wholeAs p i dt < 0 := by omega
    have hout : (r.deliveredAs p i dt : Int) = -w := by rw [deliveredAs_of_neg hlt, hw]
    have htRem : c.tRem = (r.tRem + r.deliveredAs p i dt) % 360 :=
      (count_tRem p silent i dt r).trans (if_pos hlt)
    have htDah : c.tDah = satAdd 32 r.tDah ((r.tRem + r.deliveredAs p i dt) / 360) :=
      (count_tDah p silent i dt r).trans (if_pos hlt)
    unfold satAdd at htDah
    exact ⟨by omega, by omega⟩

/-! ### Life used and the resistance ratio of a recompute (R21, R22) -/

theorem insertAsc_eq_orderedInsert (x : Nat) (l : List Nat) :
    insertAsc x l = l.orderedInsert (· ≤ ·) x := by
  induction l with
  | nil => rfl
  | cons y l ih => simp only [insertAsc, List.orderedInsert_cons, ih]

/-- The model's order of the captures is the library's insertion sort. -/
theorem sortAsc_eq_insertionSort (l : List Nat) : sortAsc l = l.insertionSort (· ≤ ·) := by
  induction l with
  | nil => rfl
  | cons x l ih => rw [sortAsc, List.insertionSort_cons, ih, insertAsc_eq_orderedInsert]

/-- A list has one ascending order. -/
theorem sortAsc_unique {l sorted : List Nat} (hperm : sorted.Perm l) (hasc : sorted.Pairwise (· ≤ ·)) :
    sortAsc l = sorted := by
  rw [sortAsc_eq_insertionSort]
  exact ((List.perm_insertionSort _ l).trans hperm.symm).eq_of_pairwise'
    (List.pairwise_insertionSort _ l) hasc

/-- The lower median is the entry at (count − 1) div 2 of any ascending order (R22). -/
theorem lowerMedian_of_sorted {l sorted : List Nat} (hperm : sorted.Perm l)
    (hasc : sorted.Pairwise (· ≤ ·)) : lowerMedian l = sorted.getD ((l.length - 1) / 2) 0 := by
  rw [lowerMedian, sortAsc_unique hperm hasc]

/-- Without a reference or without captures the ratio is 1 (R22). -/
theorem ratioOf_of_missing {l : List Nat} {ref : Option Nat} (h : ref = none ∨ l = []) :
    ratioOf l ref = 10000 := by
  obtain rfl | rfl := h
  · rfl
  · cases ref <;> rfl

/-- With both, it is the lower median over the reference, held within 1 to 3 (R22). -/
theorem ratioOf_of_captures {l : List Nat} (ref : Nat) (h : l ≠ []) :
    ratioOf l (some ref) = max 10000 (min 30000 (lowerMedian l * 10000 / ref)) := by
  cases l with
  | nil => exact absurd rfl h
  | cons x l => rfl

theorem recompute_u (p : StringParams) (silent : Bool) (r : StringRec) :
    (r.recompute p silent).u = lifeUsed p r := rfl

theorem recompute_rho (p : StringParams) (silent : Bool) (r : StringRec) :
    (r.recompute p silent).rho = ratioOf r.resList r.rRef := rfl

/-- Settles O15: a recompute holds R21's life used and R22's ratio, and the lower median is that of any
ascending order, as there is one only. -/
theorem lifeUsedAndRatio : Obligations.LifeUsedAndRatio := by
  intro p silent r c
  refine ⟨recompute_u p silent r, fun hmissing => ?_, fun ref sorted href hcap hperm hasc => ?_⟩
  · exact (recompute_rho p silent r).trans (ratioOf_of_missing hmissing)
  · calc c.rho = ratioOf r.resList (some ref) := by rw [← href]; exact recompute_rho p silent r
      _ = max 10000 (min 30000 (lowerMedian r.resList * 10000 / ref)) := ratioOf_of_captures ref hcap
      _ = _ := by rw [lowerMedian_of_sorted hperm hasc]

end Sys2Proof.Machine

/-! PROOFS. The floor sums, the margin state they give and the own entry (sections 3.2, 3.5 and 3.6). -/

namespace Sys2Proof.Machine

/-! ### What covers a station or a string (R63) -/

theorem isCabinet_iff (k : WKind) : k.isCabinet = true ↔ k = .bypass ∨ k = .maint := by
  cases k <;> simp [WKind.isCabinet]

theorem covered_iff (s : State) (hs : List Hyp) (n : Nat) :
    s.covered hs n = true ↔ (∃ w ∈ s.claims.list, w.owner = n ∧ (w.kind = .bypass ∨ w.kind = .maint))
      ∨ (∃ h ∈ hs, h.owner = n ∧ (h.kind = .bypass ∨ h.kind = .maint))
      ∨ (s.entry n).core.flags.onBypass = true := by
  simp [State.covered, isCabinet_iff, or_assoc]

theorem stringCovered_iff (s : State) (hs : List Hyp) (n k : Nat) :
    s.stringCovered hs n k = true ↔
      (∃ w ∈ s.claims.list, w.owner = n ∧ ¬ (w.kind = .bypass ∨ w.kind = .maint) ∧ w.scope = .string k)
      ∨ (∃ h ∈ hs, h.owner = n ∧ ¬ (h.kind = .bypass ∨ h.kind = .maint) ∧ h.scope = .string k) := by
  simp only [State.stringCovered, ← isCabinet_iff, Bool.or_eq_true, List.any_eq_true, Bool.and_eq_true,
    beq_iff_eq, Bool.not_eq_true', Bool.not_eq_true, and_assoc]

/-! ### What one station contributes (R64) -/

theorem counts_iff (r : StringReport) : r.counts = true ↔ r.state = .inService ∧ r.cls ≠ .ended := by
  simp [StringReport.counts]

/-- What string `k` of station `n` adds to the energy (R64). -/
def State.stringShare (s : State) (hs : List Hyp) (n k : Nat) (r : StringReport) : Nat :=
  if r.counts && !s.stringCovered hs n k then r.eAvail else 0

/-- The energy of the strings is the sum of their shares. -/
theorem stringEnergy_eq_sum (s : State) (hs : List Hyp) (n : Nat) (l : List StringReport) :
    ∀ k, s.stringEnergy hs n k l = ((l.zipIdx k).map (fun x => s.stringShare hs n x.2 x.1)).sum := by
  induction l with
  | nil => intro k; rfl
  | cons r l ih => intro k; simp [State.stringEnergy, ih, State.stringShare]

theorem stringShare_of_counted {s : State} {hs : List Hyp} {n k : Nat} {r : StringReport}
    (h : r.counts = true ∧ ¬ s.stringCovered hs n k = true) : s.stringShare hs n k r = r.eAvail := by
  simp [State.stringShare, h]

theorem stringShare_of_not_counted {s : State} {hs : List Hyp} {n k : Nat} {r : StringReport}
    (h : ¬ (r.counts = true ∧ ¬ s.stringCovered hs n k = true)) : s.stringShare hs n k r = 0 := by
  have : (r.counts && !s.stringCovered hs n k) = false := by simpa using h
  simp [State.stringShare, this]

/-- A list that holds in each string's place its energy where it counts, and 0 where not, sums to the
energy. -/
theorem stringEnergy_of_parts {s : State} {hs : List Hyp} {n : Nat} {l : List StringReport}
    {parts : List Nat} (hlen : parts.length = l.length)
    (hparts : ∀ k r, l[k]? = some r →
      (r.counts = true ∧ ¬ s.stringCovered hs n k = true → parts[k]? = some r.eAvail)
      ∧ (¬ (r.counts = true ∧ ¬ s.stringCovered hs n k = true) → parts[k]? = some 0)) :
    s.stringEnergy hs n 0 l = parts.sum := by
  have hshare : ∀ k r, l[k]? = some r → parts[k]? = some (s.stringShare hs n k r) := by
    intro k r hr
    obtain ⟨hadds, hnothing⟩ := hparts k r hr
    by_cases hcounts : r.counts = true ∧ ¬ s.stringCovered hs n k = true
    · rw [stringShare_of_counted hcounts]; exact hadds hcounts
    · rw [stringShare_of_not_counted hcounts]; exact hnothing hcounts
  have hmap : parts = l.zipIdx.map (fun x => s.stringShare hs n x.2 x.1) := by
    refine List.ext_getElem? fun k => ?_
    rw [List.getElem?_map, List.getElem?_zipIdx]
    cases hk : l[k]? with
    | none => simpa [hlen] using hk
    | some r => simpa using hshare k r hk
  rw [stringEnergy_eq_sum, ← hmap]

/-- Station `n` adds capacity and energy: it is PRESENT, its host is heard and supervised, and nothing
covers its cabinet (R64). -/
def State.Counted (s : State) (hs : List Hyp) (n : Nat) : Prop :=
  (s.entry n).state = .present ∧ (s.entry n).core.flags.hostStale = false
    ∧ (s.entry n).core.flags.unsupervised = false ∧ ¬ s.covered hs n = true

/-- What station `n` asks for: its load, unless it is ABSENT (R64). -/
def State.demand (s : State) (n : Nat) : Nat :=
  if (s.entry n).state = .absent then 0 else (s.entry n).core.load

section
variable (s : State) (hs : List Hyp) (n : Nat)

theorem contribution_d : (s.contribution hs n).d = s.demand n := by
  simp [State.contribution, State.demand]

theorem contribution_of_covered (h : s.covered hs n = true) :
    (s.contribution hs n).l = 0 ∧ (s.contribution hs n).x = s.demand n := by
  simp [State.contribution, State.demand, h]

theorem contribution_of_not_covered (h : ¬ s.covered hs n = true) :
    (s.contribution hs n).l = s.demand n ∧ (s.contribution hs n).x = 0 := by
  simp [State.contribution, State.demand, h]

theorem contribution_of_counted (h : s.Counted hs n) :
    (s.contribution hs n).c = (s.entry n).core.pAvail
      ∧ (s.contribution hs n).e = s.stringEnergy hs n 0 (s.entry n).core.strings := by
  obtain ⟨hpresent, hheard, hsupervised, hcov⟩ := h
  simp [State.contribution, hpresent, hheard, hsupervised, hcov]

theorem contribution_of_not_counted (h : ¬ s.Counted hs n) :
    (s.contribution hs n).c = 0 ∧ (s.contribution hs n).e = 0 := by
  have : ((s.entry n).state == .present && !(s.entry n).core.flags.hostStale
      && !(s.entry n).core.flags.unsupervised && !s.covered hs n) = false := by
    rw [Bool.eq_false_iff]
    simpa [State.Counted, and_assoc] using h
  simp [State.contribution, this]

end

/-! ### The totals over the stations (R65) -/

/-- A figure that `Totals.add` adds up is, of the floor totals, the sum over the stations. -/
theorem totals_figure (s : State) (hs : List Hyp) (f : Totals → Nat) (hzero : f ⟨0, 0, 0, 0, 0⟩ = 0)
    (hadd : ∀ a b : Totals, f (a.add b) = f a + f b) :
    f (s.totals hs) = (stations.map (fun n => f (s.contribution hs n))).sum := by
  have hfold : ∀ (l : List Nat) (t : Totals), f (l.foldl (fun t n => t.add (s.contribution hs n)) t)
      = f t + (l.map (fun n => f (s.contribution hs n))).sum := by
    intro l
    induction l with
    | nil => intro t; rfl
    | cons n l ih => intro t; simp [ih, hadd, Nat.add_assoc]
  calc f (s.totals hs) = f ⟨0, 0, 0, 0, 0⟩ + (stations.map (fun n => f (s.contribution hs n))).sum :=
        hfold stations _
    _ = _ := by rw [hzero, Nat.zero_add]

/-! ### The tests and the margin state (R65 and R67) -/

theorem capacityOk_iff (p : Policy) (t : Totals) :
    p.capacityOk t = true ↔ t.l * (100 + p.reserve) ≤ t.c * 100 :=
  Nat.ble_eq.to_iff

theorem energyOk_iff (p : Policy) (t : Totals) : p.energyOk t = true ↔ t.l * p.autonomy ≤ t.e * 60 :=
  Nat.ble_eq.to_iff

theorem exposureOk_iff (p : Policy) (t : Totals) : p.exposureOk t = true ↔ t.x * 100 ≤ t.d * p.exposure :=
  Nat.ble_eq.to_iff

theorem passes_iff (p : Policy) (t : Totals) :
    p.passes t = true ↔ t.l * (100 + p.reserve) ≤ t.c * 100 ∧ t.l * p.autonomy ≤ t.e * 60
      ∧ t.x * 100 ≤ t.d * p.exposure := by
  simp only [Policy.passes, Bool.and_eq_true, capacityOk_iff, energyOk_iff, exposureOk_iff, and_assoc]

theorem marginNow_of_normal {s : State} (h : s.view.margin = .normal) :
    s.marginNow = .deficit ↔ ¬ s.policy.passes (s.totals []) = true := by
  simp [State.marginNow, h]

theorem marginNow_of_deficit {s : State} (h : s.view.margin = .deficit) :
    s.marginNow = .normal ↔ s.policy.strengthened.passes (s.totals []) = true := by
  simp [State.marginNow, h]

/-! ### The own entry (R53) -/

theorem entry_own {s : State} (h : s.startup.state = .joined) : s.entry s.own = s.ownEntry := by
  simp [State.entry, State.joined, h]

theorem hostSilent_iff (s : State) :
    s.hostSilent = true ↔ s.dog.stage = .hostStale ∨ s.dog.stage = .unsupervised := by
  simp [State.hostSilent]

/-- The stages in which the own station reports ON_BYPASS (R53). -/
theorem ownFlags_onBypass_iff (s : State) : s.ownFlags.onBypass = true ↔
    s.seq.state ∈ [SeqState.onBypass, .forced, .latched, .maint, .transferIn] := by
  change (s.seq.state.onStatic || s.seq.state == .maint || s.seq.state == .transferIn) = true ↔ _
  cases s.seq.state <;> decide

/-- The visit that stands has passed its admission. -/
theorem ownFlags_visitOpen_iff (s : State) :
    s.ownFlags.visitOpen = true ↔ ∃ v, s.visit.current = some v ∧ v.admitting = false := by
  simp [State.ownFlags, Option.any_eq_true]

theorem ownFlags_visitOverdue_iff (s : State) :
    s.ownFlags.visitOverdue = true ↔ ∃ v, s.visit.current = some v ∧ v.overdue ≠ .none := by
  simp [State.ownFlags, Option.any_eq_true]

theorem ownFlags_visitLong_iff (s : State) :
    s.ownFlags.visitLong = true ↔ ∃ v, s.visit.current = some v ∧ v.overdue = .long := by
  simp [State.ownFlags, Option.any_eq_true]

theorem ownCore_strings_getElem? (s : State) {k : Nat} (hk : k < 4) :
    s.ownCore.strings[k]? = some (s.reportAt k) := by
  interval_cases k <;> rfl

theorem reportAt_of_some {s : State} {k : Nat} {x : StringRec} (h : s.strings[k]? = some x) :
    s.reportAt k = x.report := by
  simp only [State.reportAt, h]

theorem reportAt_of_length_le {s : State} {k : Nat} (h : s.strings.length ≤ k) :
    s.reportAt k = StringReport.blank := by
  simp only [State.reportAt, List.getElem?_eq_none h]

theorem claimInFlight_eq_some_iff (s : State) (id : Nat) :
    s.claimInFlight = some id ↔ ∃ q tag d, s.claims.slot = .inFlight q id tag d := by
  unfold State.claimInFlight
  cases s.claims.slot <;> simp

theorem visitScope_visitLevel_of_some {s : State} {v : Visit} (h : s.visit.current = some v) :
    s.visitScope = some v.scope ∧ s.visitLevel = v.overdue := by
  simp only [State.visitScope, State.visitLevel, h, and_self]

theorem visitScope_visitLevel_of_none {s : State} (h : s.visit.current = none) :
    s.visitScope = none ∧ s.visitLevel = .none := by
  simp only [State.visitScope, State.visitLevel, h, and_self]

/-- Settles O37: R64's shares and R65's sums of them, the tests and R67's margin state, and R53's own entry. -/
theorem floorSums : Obligations.FloorSums := by
  intro s hs
  refine ⟨fun n => ?_, ?_, ?_, fun hjoined => ?_⟩
  · intro e c cabinet cov strCov demand counted
    have hcov : s.covered hs n = true ↔ cov := covered_iff s hs n
    have hcounted : s.Counted hs n ↔ counted := by rw [State.Counted, hcov]
    have hadds : ∀ (k : Nat) (r : StringReport), (r.counts = true ∧ ¬ s.stringCovered hs n k = true) ↔
        (r.state = .inService ∧ r.cls ≠ .ended ∧ ¬ strCov k) := fun k r => by
      rw [counts_iff, stringCovered_iff, and_assoc]
    refine ⟨contribution_d s hs n, fun h => contribution_of_covered s hs n (hcov.mpr h),
      fun h => contribution_of_not_covered s hs n (mt hcov.mp h),
      fun h => (contribution_of_counted s hs n (hcounted.mpr h)).1,
      fun h => contribution_of_not_counted s hs n (mt hcounted.mp h), fun h parts hlen hparts => ?_⟩
    calc c.e = s.stringEnergy hs n 0 e.core.strings :=
          (contribution_of_counted s hs n (hcounted.mpr h)).2
      _ = parts.sum := stringEnergy_of_parts hlen fun k r hr => by rw [hadds]; exact hparts k r hr
  · exact ⟨totals_figure s hs Totals.c rfl fun _ _ => rfl, totals_figure s hs Totals.l rfl fun _ _ => rfl,
      totals_figure s hs Totals.d rfl fun _ _ => rfl, totals_figure s hs Totals.x rfl fun _ _ => rfl,
      totals_figure s hs Totals.e rfl fun _ _ => rfl⟩
  · exact ⟨rfl, rfl, rfl, capacityOk_iff _ _, energyOk_iff _ _, exposureOk_iff _ _,
      fun h => (marginNow_of_normal h).trans (not_congr (passes_iff _ _)),
      fun h => (marginNow_of_deficit h).trans (passes_iff _ _)⟩
  · rw [entry_own hjoined]
    have hsilent := hostSilent_iff s
    refine ⟨rfl, rfl, rfl, rfl, rfl, rfl, fun h => if_pos (hsilent.mpr h), fun h => if_neg (mt hsilent.mp h),
      rfl, rfl, rfl, hsilent, beq_iff_eq, beq_iff_eq, ownFlags_onBypass_iff s, beq_iff_eq,
      ownFlags_visitOpen_iff s, ownFlags_visitOverdue_iff s, ownFlags_visitLong_iff s, List.any_eq_true, rfl,
      fun k hk => ⟨fun x hx => ?_, fun hnone => ?_⟩, claimInFlight_eq_some_iff s,
      visitScope_visitLevel_of_none, fun _ => visitScope_visitLevel_of_some⟩
    · exact (ownCore_strings_getElem? s hk).trans (congrArg some (reportAt_of_some hx))
    · exact (ownCore_strings_getElem? s hk).trans (congrArg some (reportAt_of_length_le hnone))

end Sys2Proof.Machine


/-! PROOFS. What the effect of an event is made of: a relation between two states that says which pieces
may differ and that each block has moved only as the operations of that block move it. The laws of one
block then follow for every operation at once. -/

namespace Sys2Proof.Machine

-- One proof after another: side by side they ask for more thread stacks than there is memory for.
set_option Elab.async false

/-! ### The laws of one block -/

/-- XFER_BYP_REQ and XFER_INV_REQ are asserted exactly in their own states (R98). -/
def State.requestsOk (s : State) : Prop :=
  s.outs.xferByp = (s.seq.state == .transferOut) ∧ s.outs.xferInv = (s.seq.state == .transferIn)

/-- MBS_PERMIT has the level that R98 gives. -/
def State.lampOk (s : State) : Prop := s.outs.mbsPermit = s.permitNow

/-- DISCH_REQ is asserted exactly while a test runs (R36). -/
def State.dischOk (s : State) : Prop := s.outs.dischReq = (s.job.state == .running)

/-- How a withdrawal list `m` may follow from `l` at station `own`: peers' entries stay within their 29
places, own entries stay ACTIVE, and, unless `granted`, an own entry that is not forced was there before. -/
structure EntriesFrom (granted : Bool) (own : Nat) (l m : List Withdrawal) : Prop where
  room : (l.filter (fun w => w.owner != own)).length ≤ 29 →
    (m.filter (fun w => w.owner != own)).length ≤ 29
  active : (∀ w ∈ l, w.owner = own → w.active = true) → ∀ w ∈ m, w.owner = own → w.active = true
  unforced : granted = false → ∀ w ∈ m, w.owner = own → w.forced = false →
    ∃ x ∈ l, x.owner = own ∧ x.claimId = w.claimId ∧ x.forced = false

theorem entriesFrom_trans {g : Bool} {own : Nat} {l m n : List Withdrawal}
    (h : EntriesFrom g own l m) (k : EntriesFrom g own m n) : EntriesFrom g own l n where
  room := k.room ∘ h.room
  active := k.active ∘ h.active
  unforced hg w hw ho hf := by
    obtain ⟨x, hx, hxo, hxi, hxf⟩ := k.unforced hg w hw ho hf
    obtain ⟨y, hy, hyo, hyi, hyf⟩ := h.unforced hg x hx hxo hxf
    exact ⟨y, hy, hyo, hyi.trans hxi, hyf⟩

theorem entriesFrom_refl (g : Bool) (own : Nat) (l : List Withdrawal) : EntriesFrom g own l l :=
  ⟨id, id, fun _ w hw ho hf => ⟨w, hw, ho, rfl, hf⟩⟩

/-- A sublist loses entries and gains none. -/
theorem entriesFrom_sublist {g : Bool} {own : Nat} {l m : List Withdrawal} (h : m.Sublist l) :
    EntriesFrom g own l m where
  room hl := (h.filter _).length_le.trans hl
  active hl w hw := hl w (h.subset hw)
  unforced _ w hw ho hf := ⟨w, h.subset hw, ho, rfl, hf⟩

/-- A change entry by entry that keeps owners, ids and ACTIVE own entries, and clears no own `forced`. -/
theorem entriesFrom_map {g : Bool} {own : Nat} {l : List Withdrawal} {f : Withdrawal → Withdrawal}
    (howner : ∀ w ∈ l, (f w).owner = w.owner) (hid : ∀ w ∈ l, (f w).claimId = w.claimId)
    (hactive : ∀ w ∈ l, w.owner = own → w.active = true → (f w).active = true)
    (hforced : ∀ w ∈ l, w.owner = own → (f w).forced = false → w.forced = false) :
    EntriesFrom g own l (l.map f) where
  room hl := by
    have : (l.map f).filter (fun w => w.owner != own) = (l.filter (fun w => w.owner != own)).map f := by
      rw [List.filter_map]
      exact congrArg _ (List.filter_congr fun w hw => by simp [howner w hw])
    simpa [this] using hl
  active hl w hw ho := by
    obtain ⟨x, hx, rfl⟩ := List.mem_map.mp hw
    have hxo := (howner x hx).symm.trans ho
    exact hactive x hx hxo (hl x hx hxo)
  unforced _ w hw ho hf := by
    obtain ⟨x, hx, rfl⟩ := List.mem_map.mp hw
    have hxo := (howner x hx).symm.trans ho
    exact ⟨x, hx, hxo, (hid x hx).symm, hforced x hx hxo hf⟩

/-- An own entry that joins is ACTIVE, and forced unless a claim was granted. -/
theorem entriesFrom_addOwn {g : Bool} {own : Nat} {l : List Withdrawal} {w : Withdrawal}
    (ho : w.owner = own) (ha : w.active = true) (hf : w.forced = true ∨ g = true) :
    EntriesFrom g own l (l ++ [w]) where
  room hl := by simpa [List.filter_append, ho] using hl
  active hl x hx hxo := by
    obtain hx | hx := List.mem_append.mp hx
    · exact hl x hx hxo
    · rwa [List.mem_singleton.mp hx]
  unforced hg x hx hxo hxf := by
    obtain hx | hx := List.mem_append.mp hx
    · exact ⟨x, hx, hxo, rfl, hxf⟩
    · rw [List.mem_singleton.mp hx] at hxf; simp [hxf, hg] at hf

/-- A peer's entry that joins finds one of the 29 places. -/
theorem entriesFrom_addPeer {g : Bool} {own : Nat} {l : List Withdrawal} {w : Withdrawal}
    (ho : w.owner ≠ own) (hroom : (l.filter (fun w => w.owner != own)).length < 29) :
    EntriesFrom g own l (l ++ [w]) where
  room _ := by simpa [List.filter_append, ho] using hroom
  active hl x hx hxo := by
    obtain hx | hx := List.mem_append.mp hx
    · exact hl x hx hxo
    · exact absurd (List.mem_singleton.mp hx ▸ hxo) ho
  unforced _ x hx hxo hxf := by
    obtain hx | hx := List.mem_append.mp hx
    · exact ⟨x, hx, hxo, rfl, hxf⟩
    · exact absurd (List.mem_singleton.mp hx ▸ hxo) ho

/-! ### The laws of one string record -/

/-- The figures of a record lie in their ranges, whatever it reports as available (R21 to R25, R27, R34). -/
structure StringRec.Ranged (p : StringParams) (x : StringRec) : Prop where
  q : x.q ≤ x.qFull
  soc : x.soc ≤ 10000
  soh : x.soh ≤ 10000
  u : x.u ≤ 20000
  rho : 10000 ≤ x.rho ∧ x.rho ≤ 30000
  eAvail : x.eAvail ≤ p.eRated
  eUsable : x.eUsable ≤ p.eRated
  resList : x.resList.length ≤ 5

/-- The accumulators of a record have not passed the widths that R5 gives them. -/
structure StringRec.Counted (x : StringRec) : Prop where
  aCal : x.aCal ≤ 4294967295
  tDah : x.tDah ≤ 4294967295
  deepCount : x.deepCount ≤ 65535

/-- No accumulator of `y` is below that of `x`. -/
structure StringRec.Ages (x y : StringRec) : Prop where
  counted : x.Counted → y.Counted
  aCal : x.Counted → x.aCal ≤ y.aCal
  tDah : x.Counted → x.tDah ≤ y.tDah
  deepCount : x.Counted → x.deepCount ≤ y.deepCount

/-- What an operation keeps of one record: its ranges and, unless the record is `renewed`, its accumulators. -/
structure StringRec.Keeps (renewed : Bool) (p : StringParams) (x y : StringRec) : Prop where
  ranged : x.Ranged p → y.Ranged p
  ages : renewed = false → x.Ages y

/-- The energy that `x` reports is what R27 gives. -/
def StringRec.Formed (silent : Bool) (x : StringRec) : Prop := x.eAvail = availOf silent x

/-- What a movement may do beside the operations of every row: record a granted claim, load or replace a record, or take
a measurement frame in. -/
structure Allows where
  granted : Bool
  renewed : Bool
  sampled : Bool

/-- A movement of any row. -/
def Allows.all : Allows := ⟨true, true, true⟩

/-- The records of `t` follow from those of `s`, one by one. -/
structure RecordsFrom (g : Allows) (s t : State) : Prop where
  length : t.strings.length = s.strings.length
  keeps : ∀ (k : Nat) (x y : StringRec), s.strings[k]? = some x → t.strings[k]? = some y → x.Keeps g.renewed (s.params k) y
  formed : g.sampled = false ∨ s.hostSilent = false → ∀ (k : Nat) (x y : StringRec), s.strings[k]? = some x →
    t.strings[k]? = some y → x.Formed s.hostSilent → y.Formed s.hostSilent

/-! ### The relation -/

/-- Pieces that none of the laws of one block below speaks of. -/
def plainPieces : List Piece :=
  [.clock, .supply, .pins, .unsupervisedLine, .startup, .ticks, .statusTimer, .margin, .duplicate,
   .claimIds, .slot, .phase, .intake, .watchdog, .command, .reset, .transaction, .hostCounts]

/-- The pieces of the loop ports. -/
def loopPieces : List Piece := [.portA, .portB, .ownQueue, .inFlight]

/-- The test job and its line. -/
def jobPieces : List Piece := [.job, .dischReq]

/-- The pieces that say where the cabinet stands and which visit is open, with their lines. -/
def positionPieces : List Piece := [.sequencer, .requests, .lamp, .visits]

/-- `t` follows from `s` by operations that change the pieces `f` alone, each block in its own way. An own
withdrawal that is not forced joins the list only where `g` grants. -/
inductive Moves (g : Allows) : List Piece → State → State → Prop where
  | plain {f : List Piece} {s t : State} (h : s.ChangesOnly f t)
      (hf : f.all plainPieces.contains = true) : Moves g f s t
  | draws {s t : State} (h : s.ChangesOnly [.freeCount] t) (hk : s.freeCount ≤ t.freeCount) :
      Moves g [.freeCount] s t
  | notices {s t : State} (h : s.ChangesOnly [.notices] t)
      (hk : s.noticesOk = true → t.noticesOk = true) : Moves g [.notices] s t
  | loop {f : List Piece} {s t : State} (h : s.ChangesOnly f t) (hf : f.all loopPieces.contains = true)
      (hk : s.loopOk = true → t.loopOk = true) : Moves g f s t
  | test {f : List Piece} {s t : State} (h : s.ChangesOnly f t) (hf : f.all jobPieces.contains = true)
      (hk : s.dischOk → t.dischOk) : Moves g f s t
  | peers {s t : State} (h : s.ChangesOnly [.peers] t) (hk : s.tableOk = true → t.tableOk = true) :
      Moves g [.peers] s t
  | strings {s t : State} (h : s.ChangesOnly [.strings] t)
      (hk : RecordsFrom g s t) : Moves g [.strings] s t
  | entries {s t : State} (h : s.ChangesOnly [.withdrawals] t)
      (hk : EntriesFrom g.granted s.own s.claims.list t.claims.list) : Moves g [.withdrawals] s t
  | position {f : List Piece} {s t : State} (h : s.ChangesOnly f t)
      (hf : f.all positionPieces.contains = true) (hrequests : s.requestsOk → t.requestsOk)
      (hlamp : s.lampOk → t.lampOk) (hadmission : s.admissionOk = true → t.admissionOk = true) :
      Moves g f s t
  | trans {f : List Piece} {s t u : State} (h : Moves g f s t) (k : Moves g f t u) :
      Moves g f s u
  | mono {f e : List Piece} {s t : State} (h : Moves g f s t)
      (hf : f.all e.contains = true) : Moves g e s t

theorem moves_refl (g : Allows) (f : List Piece) (s : State) : Moves g f s s :=
  .mono (f := []) (.plain (changesOnly_refl _ s) rfl) rfl

/-- One movement after another, inside a larger frame. -/
theorem moves_then {g : Allows} {f e d : List Piece} {s t u : State} (h : Moves g f s t) (k : Moves g e t u)
    (hf : f.all d.contains = true) (he : e.all d.contains = true) : Moves g d s u :=
  .trans (.mono h hf) (.mono k he)

theorem moves_ite {g : Allows} {f : List Piece} {s t u : State} {c : Prop} [Decidable c]
    (h : Moves g f s t) (k : Moves g f s u) : Moves g f s (if c then t else u) := by
  split <;> assumption

/-- A movement changes the pieces of its frame only. -/
theorem moves_frame {g : Allows} {f : List Piece} {s t : State} (h : Moves g f s t) : s.ChangesOnly f t := by
  induction h with
  | trans _ _ hs ks => exact changesOnly_trans hs ks
  | mono _ hf hs => exact changesOnly_mono hs hf
  | _ => assumption

/-! ### What a movement keeps -/

/-- A piece that is in no frame of its kind stays. -/
theorem kept_of_frame {f e : List Piece} {s t : State} (h : s.ChangesOnly f t)
    (hf : f.all e.contains = true) {p : Piece} (hp : e.contains p = false) : p.kept s t :=
  (changesOnly_mono h hf).kept p (by simpa using hp)

section
variable {g : Allows} {f : List Piece} {s t : State}

/-- The notice queue hangs on its own piece. -/
theorem noticesOk_of_kept (h : Piece.notices.kept s t) : t.noticesOk = s.noticesOk := by
  obtain ⟨hn, ho, hi⟩ := h
  simp only [State.noticesOk, hn, ho, hi]

theorem tableOk_of_kept (h : Piece.peers.kept s t) : t.tableOk = s.tableOk := by
  unfold State.tableOk; rw [show t.view.peers = s.view.peers from h]

theorem loopOk_of_kept (h : s.ChangesOnly f t)
    (hf : ∀ p ∈ loopPieces, p ∉ f) : t.loopOk = s.loopOk := by
  have ha : t.loop.a = s.loop.a := h.kept .portA (hf _ (by decide))
  have hb : t.loop.b = s.loop.b := h.kept .portB (hf _ (by decide))
  have hq : t.loop.queue = s.loop.queue := (h.kept .ownQueue (hf _ (by decide))).1
  have hi : t.loop.inFlight = s.loop.inFlight := h.kept .inFlight (hf _ (by decide))
  simp only [State.loopOk, ha, hb, hq, hi]

theorem requestsOk_of_kept (hr : Piece.requests.kept s t) (hs : Piece.sequencer.kept s t) :
    t.requestsOk ↔ s.requestsOk := by
  obtain ⟨hb, hi⟩ := hr
  simp only [State.requestsOk, hb, hi, show t.seq = s.seq from hs]

theorem cabinetVisitOpen_of_kept (hv : Piece.visits.kept s t) : t.cabinetVisitOpen = s.cabinetVisitOpen := by
  unfold State.cabinetVisitOpen; rw [show t.visit = s.visit from hv]

theorem lampOk_of_kept (hl : Piece.lamp.kept s t) (hs : Piece.sequencer.kept s t)
    (hv : Piece.visits.kept s t) : t.lampOk ↔ s.lampOk := by
  simp only [State.lampOk, State.permitNow, cabinetVisitOpen_of_kept hv,
    show t.seq = s.seq from hs, show t.outs.mbsPermit = s.outs.mbsPermit from hl]

theorem admissionOk_of_kept (hv : Piece.visits.kept s t) : t.admissionOk = s.admissionOk := by
  unfold State.admissionOk; rw [show t.visit = s.visit from hv]

theorem own_of_kept (h : Piece.image.kept s t) : t.own = s.own := by
  simp only [State.own, State.cfg, show t.image = s.image from h]

theorem moves_image (h : Moves g f s t) : t.image = s.image := by
  induction h with
  | plain h hf => exact kept_of_frame h hf (p := .image) rfl
  | loop h hf => exact kept_of_frame h hf (p := .image) rfl
  | test h hf => exact kept_of_frame h hf (p := .image) rfl
  | position h hf => exact kept_of_frame h hf (p := .image) rfl
  | trans _ _ hs ks => exact ks.trans hs
  | mono _ _ hs => exact hs
  | draws h | notices h | peers h | strings h | entries h => exact h.kept .image (by decide)

theorem moves_own (h : Moves g f s t) : t.own = s.own := own_of_kept (moves_image h)

theorem moves_pending (h : Moves g f s t) : t.pending = s.pending := by
  induction h with
  | plain h hf => exact kept_of_frame h hf (p := .queue) rfl
  | loop h hf => exact kept_of_frame h hf (p := .queue) rfl
  | test h hf => exact kept_of_frame h hf (p := .queue) rfl
  | position h hf => exact kept_of_frame h hf (p := .queue) rfl
  | trans _ _ hs ks => exact ks.trans hs
  | mono _ _ hs => exact hs
  | draws h | notices h | peers h | strings h | entries h => exact h.kept .queue (by decide)

theorem moves_freeCount (h : Moves g f s t) : s.freeCount ≤ t.freeCount := by
  induction h with
  | plain h hf => exact (kept_of_frame h hf (p := .freeCount) rfl).ge
  | loop h hf => exact (kept_of_frame h hf (p := .freeCount) rfl).ge
  | test h hf => exact (kept_of_frame h hf (p := .freeCount) rfl).ge
  | position h hf => exact (kept_of_frame h hf (p := .freeCount) rfl).ge
  | trans _ _ hs ks => exact hs.trans ks
  | mono _ _ hs => exact hs
  | draws _ hk => exact hk
  | notices h | peers h | strings h | entries h => exact (h.kept .freeCount (by decide)).ge

theorem moves_strings_length (h : Moves g f s t) : t.strings.length = s.strings.length := by
  induction h with
  | plain h hf => exact congrArg _ (kept_of_frame h hf (p := .strings) rfl)
  | loop h hf => exact congrArg _ (kept_of_frame h hf (p := .strings) rfl)
  | test h hf => exact congrArg _ (kept_of_frame h hf (p := .strings) rfl)
  | position h hf => exact congrArg _ (kept_of_frame h hf (p := .strings) rfl)
  | trans _ _ hs ks => exact ks.trans hs
  | mono _ _ hs => exact hs
  | strings _ hk => exact hk.length
  | draws h | notices h | peers h | entries h => exact congrArg _ (h.kept .strings (by decide))

theorem keeps_refl (r : Bool) (p : StringParams) (x : StringRec) : x.Keeps r p x :=
  ⟨id, fun _ => ⟨id, fun _ => le_refl _, fun _ => le_refl _, fun _ => le_refl _⟩⟩

theorem ages_trans {x y z : StringRec} (h : x.Ages y) (k : y.Ages z) : x.Ages z where
  counted := k.counted ∘ h.counted
  aCal hx := (h.aCal hx).trans (k.aCal (h.counted hx))
  tDah hx := (h.tDah hx).trans (k.tDah (h.counted hx))
  deepCount hx := (h.deepCount hx).trans (k.deepCount (h.counted hx))

theorem recordKeeps_trans {r : Bool} {p : StringParams} {x y z : StringRec} (h : x.Keeps r p y) (k : y.Keeps r p z) :
    x.Keeps r p z :=
  ⟨k.ranged ∘ h.ranged, fun hr => ages_trans (h.ages hr) (k.ages hr)⟩

theorem recordsFrom_same (g : Allows) (h : t.strings = s.strings) : RecordsFrom g s t where
  length := congrArg _ h
  keeps k x y hx hy := by
    rw [h, hx] at hy
    cases hy
    exact keeps_refl ..
  formed _ k x y hx hy hf := by
    rw [h, hx] at hy
    cases hy
    exact hf

/-- A record that stands in both lists stands in every list of that length. -/
theorem record_between {l m : List StringRec} (h : m.length = l.length) {k : Nat} {x : StringRec} (hx : l[k]? = some x) :
    ∃ y, m[k]? = some y := by
  have hk : k < m.length := by
    rw [h]
    exact (List.getElem?_eq_some_iff.mp hx).1
  exact ⟨_, List.getElem?_eq_getElem hk⟩

theorem recordsFrom_trans {u : State} (h : RecordsFrom g s t) (k : RecordsFrom g t u)
    (hp : ∀ j, t.params j = s.params j) (hsilent : t.hostSilent = s.hostSilent) : RecordsFrom g s u where
  length := k.length.trans h.length
  keeps j x z hx hz := by
    obtain ⟨y, hy⟩ := record_between h.length hx
    exact recordKeeps_trans (h.keeps j x y hx hy) (hp j ▸ k.keeps j y z hy hz)
  formed hg j x z hx hz hf := by
    obtain ⟨y, hy⟩ := record_between h.length hx
    rw [← hsilent] at hg hf ⊢
    exact k.formed hg j y z hy hz (hsilent ▸ h.formed (hsilent ▸ hg) j x y hx hy (hsilent ▸ hf))

theorem params_of_kept (h : t.image = s.image) (k : Nat) : t.params k = s.params k := by
  simp only [State.params, State.cfg, h]

theorem hostSilent_of_kept (h : t.dog = s.dog) : t.hostSilent = s.hostSilent := by
  simp only [State.hostSilent, h]

/-- A movement that leaves the watchdog makes every record from the one before. -/
theorem moves_records (h : Moves g f s t) (hf : Piece.watchdog ∉ f) : RecordsFrom g s t := by
  induction h with
  | plain h hp => exact recordsFrom_same _ (kept_of_frame h hp (p := .strings) rfl)
  | loop h hp => exact recordsFrom_same _ (kept_of_frame h hp (p := .strings) rfl)
  | test h hp => exact recordsFrom_same _ (kept_of_frame h hp (p := .strings) rfl)
  | position h hp => exact recordsFrom_same _ (kept_of_frame h hp (p := .strings) rfl)
  | trans h _ hs ks =>
    have hdog : Piece.watchdog.kept _ _ := (moves_frame h).kept .watchdog hf
    exact recordsFrom_trans (hs hf) (ks hf) (params_of_kept (moves_image h))
      (hostSilent_of_kept hdog)
  | mono _ hp hs => exact hs fun hw => hf (by simpa using List.all_eq_true.mp hp _ hw)
  | strings _ hk => exact hk
  | draws h | notices h | peers h | entries h => exact recordsFrom_same _ (h.kept .strings (by decide))

/-- No accumulator decreases in a movement that renews no record (R18, R29). -/
theorem moves_ages (h : Moves g f s t) (hg : g.renewed = false) {k : Nat} {x y : StringRec}
    (hx : s.strings[k]? = some x) (hy : t.strings[k]? = some y) : x.Ages y := by
  have same : ∀ {s t : State} {x y : StringRec}, t.strings = s.strings → s.strings[k]? = some x →
      t.strings[k]? = some y → x.Ages y := fun h hx hy =>
    ((recordsFrom_same (g := g) h).keeps k _ _ hx hy).ages hg
  induction h generalizing x y with
  | plain h hp => exact same (kept_of_frame h hp (p := .strings) rfl) hx hy
  | loop h hp => exact same (kept_of_frame h hp (p := .strings) rfl) hx hy
  | test h hp => exact same (kept_of_frame h hp (p := .strings) rfl) hx hy
  | position h hp => exact same (kept_of_frame h hp (p := .strings) rfl) hx hy
  | trans h _ hs ks =>
    obtain ⟨z, hz⟩ := record_between (moves_strings_length h) hx
    exact ages_trans (hs hx hz) (ks hz hy)
  | mono _ _ hs => exact hs hx hy
  | strings _ hk => exact (hk.keeps k x y hx hy).ages hg
  | draws h | notices h | peers h | entries h => exact same (h.kept .strings (by decide)) hx hy

theorem moves_noticesOk (h : Moves g f s t) : s.noticesOk = true → t.noticesOk = true := by
  induction h with
  | plain h hf => exact (noticesOk_of_kept (kept_of_frame h hf rfl)).trans
  | loop h hf => exact (noticesOk_of_kept (kept_of_frame h hf rfl)).trans
  | test h hf => exact (noticesOk_of_kept (kept_of_frame h hf rfl)).trans
  | position h hf => exact (noticesOk_of_kept (kept_of_frame h hf rfl)).trans
  | trans _ _ hs ks => exact ks ∘ hs
  | mono _ _ hs => exact hs
  | notices _ hk => exact hk
  | draws h | peers h | strings h | entries h =>
    exact (noticesOk_of_kept (h.kept .notices (by decide))).trans

theorem moves_tableOk (h : Moves g f s t) : s.tableOk = true → t.tableOk = true := by
  induction h with
  | plain h hf => exact (tableOk_of_kept (kept_of_frame h hf rfl)).trans
  | loop h hf => exact (tableOk_of_kept (kept_of_frame h hf rfl)).trans
  | test h hf => exact (tableOk_of_kept (kept_of_frame h hf rfl)).trans
  | position h hf => exact (tableOk_of_kept (kept_of_frame h hf rfl)).trans
  | trans _ _ hs ks => exact ks ∘ hs
  | mono _ _ hs => exact hs
  | peers _ hk => exact hk
  | draws h | notices h | strings h | entries h =>
    exact (tableOk_of_kept (h.kept .peers (by decide))).trans

theorem moves_loopOk (h : Moves g f s t) : s.loopOk = true → t.loopOk = true := by
  induction h with
  | plain h hf => exact (loopOk_of_kept (changesOnly_mono h hf) (by decide)).trans
  | test h hf => exact (loopOk_of_kept (changesOnly_mono h hf) (by decide)).trans
  | position h hf => exact (loopOk_of_kept (changesOnly_mono h hf) (by decide)).trans
  | trans _ _ hs ks => exact ks ∘ hs
  | mono _ _ hs => exact hs
  | loop _ _ hk => exact hk
  | draws h | notices h | peers h | strings h | entries h => exact (loopOk_of_kept h (by decide)).trans

theorem moves_entries (h : Moves g f s t) : EntriesFrom g.granted s.own s.claims.list t.claims.list := by
  induction h with
  | plain h hf => rw [(kept_of_frame h hf (p := .withdrawals) rfl).1]; exact entriesFrom_refl ..
  | loop h hf => rw [(kept_of_frame h hf (p := .withdrawals) rfl).1]; exact entriesFrom_refl ..
  | test h hf => rw [(kept_of_frame h hf (p := .withdrawals) rfl).1]; exact entriesFrom_refl ..
  | position h hf => rw [(kept_of_frame h hf (p := .withdrawals) rfl).1]; exact entriesFrom_refl ..
  | trans h _ hs ks => exact entriesFrom_trans hs (moves_own h ▸ ks)
  | mono _ _ hs => exact hs
  | entries _ hk => exact hk
  | draws h | notices h | peers h | strings h =>
    rw [(h.kept .withdrawals (by decide)).1]; exact entriesFrom_refl ..

theorem moves_requestsOk (h : Moves g f s t) : s.requestsOk → t.requestsOk := by
  induction h with
  | plain h hf => exact (requestsOk_of_kept (kept_of_frame h hf rfl) (kept_of_frame h hf rfl)).mpr
  | loop h hf => exact (requestsOk_of_kept (kept_of_frame h hf rfl) (kept_of_frame h hf rfl)).mpr
  | test h hf => exact (requestsOk_of_kept (kept_of_frame h hf rfl) (kept_of_frame h hf rfl)).mpr
  | trans _ _ hs ks => exact ks ∘ hs
  | mono _ _ hs => exact hs
  | position _ _ hk => exact hk
  | draws h | notices h | peers h | strings h | entries h =>
    exact (requestsOk_of_kept (h.kept .requests (by decide)) (h.kept .sequencer (by decide))).mpr

theorem moves_lampOk (h : Moves g f s t) : s.lampOk → t.lampOk := by
  induction h with
  | plain h hf =>
    exact (lampOk_of_kept (kept_of_frame h hf rfl) (kept_of_frame h hf rfl) (kept_of_frame h hf rfl)).mpr
  | loop h hf =>
    exact (lampOk_of_kept (kept_of_frame h hf rfl) (kept_of_frame h hf rfl) (kept_of_frame h hf rfl)).mpr
  | test h hf =>
    exact (lampOk_of_kept (kept_of_frame h hf rfl) (kept_of_frame h hf rfl) (kept_of_frame h hf rfl)).mpr
  | trans _ _ hs ks => exact ks ∘ hs
  | mono _ _ hs => exact hs
  | position _ _ _ hk => exact hk
  | draws h | notices h | peers h | strings h | entries h =>
    exact (lampOk_of_kept (h.kept .lamp (by decide)) (h.kept .sequencer (by decide))
      (h.kept .visits (by decide))).mpr

theorem moves_admissionOk (h : Moves g f s t) : s.admissionOk = true → t.admissionOk = true := by
  induction h with
  | plain h hf => exact (admissionOk_of_kept (kept_of_frame h hf rfl)).trans
  | loop h hf => exact (admissionOk_of_kept (kept_of_frame h hf rfl)).trans
  | test h hf => exact (admissionOk_of_kept (kept_of_frame h hf rfl)).trans
  | trans _ _ hs ks => exact ks ∘ hs
  | mono _ _ hs => exact hs
  | position _ _ _ _ hk => exact hk
  | draws h | notices h | peers h | strings h | entries h =>
    exact (admissionOk_of_kept (h.kept .visits (by decide))).trans

theorem dischOk_of_kept (hl : Piece.dischReq.kept s t) (hj : Piece.job.kept s t) :
    t.dischOk ↔ s.dischOk := by
  simp only [State.dischOk, show t.job = s.job from hj, show t.outs.dischReq = s.outs.dischReq from hl]

theorem moves_dischOk (h : Moves g f s t) : s.dischOk → t.dischOk := by
  induction h with
  | plain h hf => exact (dischOk_of_kept (kept_of_frame h hf rfl) (kept_of_frame h hf rfl)).mpr
  | loop h hf => exact (dischOk_of_kept (kept_of_frame h hf rfl) (kept_of_frame h hf rfl)).mpr
  | position h hf => exact (dischOk_of_kept (kept_of_frame h hf rfl) (kept_of_frame h hf rfl)).mpr
  | trans _ _ hs ks => exact ks ∘ hs
  | mono _ _ hs => exact hs
  | test _ _ hk => exact hk
  | draws h | notices h | peers h | strings h | entries h =>
    exact (dischOk_of_kept (h.kept .dischReq (by decide)) (h.kept .job (by decide))).mpr

end

end Sys2Proof.Machine


/-! PROOFS. The movement of each shared operation: notices, own frames, the withdrawal list, strings, visits,
the sequencer, the claim slot, the end of an event. -/

namespace Sys2Proof.Machine

-- One proof after another: side by side they ask for more thread stacks than there is memory for.
set_option Elab.async false

variable {g : Allows}

/-! ### Notices, replies, own frames -/

theorem markStatus_moves (s : State) : Moves g [] s s.markStatus := .plain (markStatus_frame s) rfl

theorem withStatusDue_moves (s : State) (b : Bool) : Moves g [] s (s.withStatusDue b) :=
  .plain (withStatusDue_frame s b) rfl

/-- A notice finds its place in the queue, or is counted (R187). -/
theorem join_noticesOk {h : HostPort} {n : Notice} (hl : h.notices.length ≤ 32) (ho : h.overflow ≤ 255)
    (hi : h.irq = !h.notices.isEmpty) :
    (h.join n).notices.length ≤ 32 ∧ (h.join n).overflow ≤ 255
      ∧ (h.join n).irq = !(h.join n).notices.isEmpty := by
  unfold HostPort.join
  split
  · simp; omega
  · exact ⟨hl, min_le_left _ _, hi⟩

theorem noticesOk_iff (s : State) : s.noticesOk = true ↔ s.host.notices.length ≤ 32
    ∧ s.host.overflow ≤ 255 ∧ s.host.irq = !s.host.notices.isEmpty := by
  simp [State.noticesOk, and_assoc]

theorem raise_moves (s : State) (k : NoticeKind) (a b c d : Half) :
    Moves g [.notices] s (s.raise k a b c d) := by
  refine .notices (raise_frame ..) fun hs => ?_
  unfold State.raise
  split
  · obtain ⟨hl, ho, hi⟩ := (noticesOk_iff s).mp hs
    exact (noticesOk_iff _).mpr (join_noticesOk hl ho hi)
  · exact hs

theorem notify_moves (s : State) (k : NoticeKind) (a b c d : Int) :
    Moves g [.notices] s (s.notify k a b c d) := raise_moves ..

theorem answer_moves (s : State) (c : ReplyCode) (r : List Byte) :
    Moves g [.command] s (s.answer c r) := .plain (answer_frame ..) rfl

/-- The frames of the own queue that are a STATUS. -/
def statusFrames (q : List OwnFrame) : List OwnFrame := q.filter (fun f => f.kind == .status)

theorem queueFor_sublist (k : FrameKind) (q : List OwnFrame) : (queueFor k q).Sublist q := by
  unfold queueFor
  split
  · exact List.filter_sublist
  · exact List.Sublist.refl q

theorem statusFrames_queueFor_status (q : List OwnFrame) : statusFrames (queueFor .status q) = [] := by
  simp [statusFrames, queueFor, List.filter_filter]

/-- What joining does to the queue: the frame stands behind a sublist, or is dropped (R159). -/
theorem joinQueue_cases (f : OwnFrame) (q : List OwnFrame) (d : Nat) :
    (∃ l, l.Sublist q ∧ (q.length ≤ 8 → l.length < 8) ∧ (joinQueue f q d).1 = l ++ [f])
      ∨ (joinQueue f q d).1 = q := by
  unfold joinQueue
  split
  · exact .inl ⟨q, List.Sublist.refl q, fun _ => ‹_›, rfl⟩
  · split
    · rename_i hany
      obtain ⟨x, hx, hk⟩ := List.any_eq_true.mp hany
      refine .inl ⟨_, List.eraseP_sublist, fun h8 => ?_, rfl⟩
      have hlen := List.length_eraseP_of_mem (p := fun f : OwnFrame => f.kind == .status) hx hk
      have hpos := List.length_pos_of_mem hx
      omega
    · exact .inr rfl

/-- The own queue keeps to its 8 places and one STATUS (R159). -/
theorem joinQueue_places {f : OwnFrame} {q : List OwnFrame} {d : Nat} (hq : q.length ≤ 8)
    (hs : (statusFrames q).length ≤ 1) :
    let j := (joinQueue f (queueFor f.kind q) d).1
    j.length ≤ 8 ∧ (statusFrames j).length ≤ 1 := by
  intro j
  have hsub := queueFor_sublist f.kind q
  have hlen : (queueFor f.kind q).length ≤ 8 := hsub.length_le.trans hq
  have hstat : (statusFrames (queueFor f.kind q)).length ≤ 1 := ((hsub.filter _).length_le).trans hs
  obtain ⟨l, hl, hroom, hj⟩ | hj := joinQueue_cases f (queueFor f.kind q) d
  · have hj' : j = l ++ [f] := hj
    have hl' := (hl.filter (fun f : OwnFrame => f.kind == .status)).length_le
    have hlt := hroom hlen
    rw [hj']
    refine ⟨by simp; omega, ?_⟩
    by_cases hk : f.kind = .status
    · rw [hk] at hl'
      have h0 := statusFrames_queueFor_status q
      unfold statusFrames at h0 ⊢
      simp [h0] at hl'
      simp [List.filter_append, hk]
      exact hl'
    · unfold statusFrames at hstat ⊢
      simp [List.filter_append, hk]
      exact hl'.trans hstat
  · rw [show j = queueFor f.kind q from hj]
    exact ⟨hlen, hstat⟩

theorem loopOk_iff (s : State) : s.loopOk = true ↔ s.loop.a.forwardOk = true ∧ s.loop.b.forwardOk = true
    ∧ s.loop.queue.length ≤ 8 ∧ (statusFrames s.loop.queue).length ≤ 1
    ∧ s.loop.inFlight.length ≤ 32 := by
  simp [State.loopOk, statusFrames, and_assoc]

theorem queueOwn_moves (s : State) (k : FrameKind) (i : Nat) (b : List Byte) :
    Moves g [.ownQueue] s (s.queueOwn k i b).1 := by
  refine .loop (queueOwn_frame ..) rfl fun hs => ?_
  obtain ⟨ha, hb, hq, hst, hf⟩ := (loopOk_iff s).mp hs
  obtain ⟨hq', hst'⟩ := joinQueue_places (f := ⟨k, _, i, _⟩) (d := s.loop.ownDrops) hq hst
  exact (loopOk_iff _).mpr ⟨ha, hb, hq', hst', hf⟩

theorem sendGrant_moves (s : State) (i : Nat) (k : WKind) (c : Scope) :
    Moves g [.ownQueue] s (s.sendGrant i k c) := queueOwn_moves ..

theorem sendDrop_moves (s : State) (i : Nat) (r : DropReason) :
    Moves g [.ownQueue] s (s.sendDrop i r) := queueOwn_moves ..

theorem sendForced_moves (s : State) (w : Withdrawal) : Moves g [.ownQueue] s (s.sendForced w) :=
  queueOwn_moves ..

theorem queueStatus_moves (s : State) : Moves g [.statusTimer, .ownQueue] s s.queueStatus := by
  let s1 := s.onView (fun v => { v with
    seq := (s.view.seq + 1) % 256, statusAt := some (s.now + s.cfg.statusPeriod) })
  have h1 : Moves g [.statusTimer] s s1 := by
    refine .plain ?_ rfl
    constructor; intro p hp; cases p <;> simp_all [Piece.kept, State.onView, s1]
  have h2 : Moves g [.statusTimer, .ownQueue] s (s1.queueOwn .status 0 (s1.statusBody ((s.view.seq + 1) % 256))).1 :=
    moves_then h1 (queueOwn_moves ..) rfl rfl
  exact moves_then h2 (withStatusDue_moves _ false) rfl rfl

theorem draw_moves (s : State) : Moves g [.freeCount] s s.draw.2 := by
  refine .draws ?_ (Nat.le_succ _)
  constructor; intro p hp; cases p <;> simp_all [Piece.kept, State.draw]

/-! ### The withdrawal list -/

theorem setList_moves (s : State) {l : List Withdrawal} (h : EntriesFrom g.granted s.own s.claims.list l) :
    Moves g [.withdrawals] s (s.setList l) := .entries (setList_frame ..) h

/-- A change of the entries that `p` picks which keeps what `EntriesFrom` asks. -/
theorem updateEntries_moves (s : State) {p : Withdrawal → Bool} {f : Withdrawal → Withdrawal}
    (howner : ∀ w ∈ s.claims.list, p w = true → (f w).owner = w.owner)
    (hid : ∀ w ∈ s.claims.list, p w = true → (f w).claimId = w.claimId)
    (hactive : ∀ w ∈ s.claims.list, p w = true → w.owner = s.own → w.active = true → (f w).active = true)
    (hforced : ∀ w ∈ s.claims.list, p w = true → w.owner = s.own → (f w).forced = false →
      w.forced = false) :
    Moves g [.withdrawals] s (s.updateEntries p f) := by
  refine setList_moves s (entriesFrom_map ?_ ?_ ?_ ?_)
  all_goals intro w hw
  · split
    · exact howner w hw ‹_›
    · rfl
  · split
    · exact hid w hw ‹_›
    · rfl
  · intro ho ha
    split
    · exact hactive w hw ‹_› ho ha
    · exact ha
  · intro ho hf
    split at hf
    · exact hforced w hw ‹_› ho hf
    · exact hf

theorem removeEntries_list (s : State) (p : Withdrawal → Bool) :
    (s.removeEntries p).claims.list = s.claims.list.filter (fun w => !p w) := by
  unfold State.removeEntries
  split
  · rfl
  · rename_i h
    refine (List.filter_eq_self.mpr fun w hw => ?_).symm
    simp only [List.any_eq_true, not_exists, not_and, Bool.not_eq_true] at h
    simp [h w hw]

theorem removeEntries_moves (s : State) (p : Withdrawal → Bool) :
    Moves g [.withdrawals] s (s.removeEntries p) := by
  refine .entries (removeEntries_frame ..) ?_
  rw [removeEntries_list]
  exact entriesFrom_sublist List.filter_sublist

theorem loseEntry_moves (s : State) (w : Withdrawal) :
    Moves g [.withdrawals, .notices] s (s.loseEntry w) := by
  have h : Moves g [.withdrawals] s
      (s.onClaims (fun c => { c with lost := satAdd 16 c.lost 1, incomplete := true })) := by
    refine .entries ?_ (entriesFrom_refl ..)
    constructor; intro p hp; cases p <;> simp_all [Piece.kept, State.onClaims]
  unfold State.loseEntry
  exact moves_ite (.mono h rfl) (moves_then h (notify_moves ..) rfl rfl)

theorem listFull_eq_false {s : State} (h : ¬ s.listFull = true) :
    (s.claims.list.filter (fun w => w.owner != s.own)).length < 29 := by
  simpa [State.listFull, State.peerEntries] using h

theorem addPeerEntry_moves (s : State) {w : Withdrawal} (h : w.owner ≠ s.own) :
    Moves g [.withdrawals, .notices] s (s.addPeerEntry w) := by
  unfold State.addPeerEntry
  split
  · exact loseEntry_moves s w
  · exact .mono (setList_moves s (entriesFrom_addPeer h (listFull_eq_false ‹_›))) rfl

theorem addOwnEntry_moves (s : State) {w : Withdrawal} (ho : w.owner = s.own) (ha : w.active = true)
    (hf : w.forced = true ∨ g.granted = true) : Moves g [.withdrawals] s (s.addOwnEntry w) :=
  moves_then (setList_moves s (entriesFrom_addOwn ho ha hf)) (markStatus_moves _) rfl rfl

theorem release_moves (s : State) (c : WKind → Bool) :
    Moves g [.withdrawals, .ownQueue] s (s.release c) := by
  unfold State.release
  split
  · exact moves_then (moves_then (removeEntries_moves ..) (sendDrop_moves ..)
      (d := [.withdrawals, .ownQueue]) rfl rfl) (markStatus_moves _) rfl rfl
  · exact moves_refl ..

theorem lastId_moves (s : State) (n : Nat) :
    Moves g [.claimIds] s (s.onClaims (fun c => { c with lastId := n })) := by
  refine .plain ?_ rfl
  constructor; intro p hp; cases p <;> simp_all [Piece.kept, State.onClaims]

theorem enterForced_moves (s : State) : Moves g [.withdrawals, .claimIds] s s.enterForced := by
  unfold State.enterForced
  split
  · refine moves_then (updateEntries_moves s ?_ ?_ ?_ ?_) (markStatus_moves _) rfl rfl <;> simp
  · exact moves_then (lastId_moves ..) (addOwnEntry_moves _ rfl rfl (.inl rfl)) rfl rfl

theorem announceForced_moves (s : State) : Moves g [.ownQueue] s s.announceForced := by
  unfold State.announceForced
  split
  · exact sendForced_moves ..
  · exact moves_refl ..

theorem recordForced_moves (s : State) :
    Moves g [.withdrawals, .claimIds, .ownQueue] s s.recordForced :=
  moves_then (enterForced_moves s) (announceForced_moves _) rfl rfl

theorem enterMaintKind_moves (s : State) (b : Bool) :
    Moves g [.withdrawals] s (s.enterMaintKind b) := by
  unfold State.enterMaintKind
  split
  · refine moves_then (updateEntries_moves s ?_ ?_ ?_ ?_) (markStatus_moves _) rfl rfl <;> simp
  · exact moves_refl ..

theorem leaveMaintKind_moves (s : State) : Moves g [.withdrawals] s s.leaveMaintKind := by
  unfold State.leaveMaintKind
  split
  · refine moves_then (updateEntries_moves s ?_ ?_ ?_ ?_) (markStatus_moves _) rfl rfl <;> simp
  · exact moves_refl ..

/-! ### Strings and the test job -/

/-- What an operation keeps of one record, and that it forms the reported energy where it was formed. -/
structure StringRec.Goes (renewed : Bool) (p : StringParams) (silent : Bool) (x y : StringRec) : Prop where
  keeps : x.Keeps renewed p y
  formed : x.Formed silent → y.Formed silent

/-- The figures of a record that its laws speak of. -/
def StringRec.figures (x : StringRec) :=
  ((x.q, x.qFull, x.soc, x.soh, x.u, x.rho), (x.eAvail, x.eUsable, x.state, x.cls, x.unmeasured), x.resList,
    x.aCal, x.tDah, x.deepCount)

section
variable {r silent : Bool} {p : StringParams} {x y z : StringRec}

theorem goes_refl (r : Bool) (p : StringParams) (silent : Bool) (x : StringRec) : x.Goes r p silent x :=
  ⟨keeps_refl r p x, id⟩

theorem goes_trans (h : x.Goes r p silent y) (k : y.Goes r p silent z) : x.Goes r p silent z :=
  ⟨recordKeeps_trans h.keeps k.keeps, k.formed ∘ h.formed⟩

theorem goes_of_figures (h : y.figures = x.figures) : x.Goes r p silent y := by
  simp only [StringRec.figures, Prod.mk.injEq] at h
  obtain ⟨⟨hq, hqFull, hsoc, hsoh, hu, hrho⟩, ⟨havail, husable, hstate, hcls, hunmeasured⟩, hlist, hcal, hdah, hdeep⟩ := h
  refine ⟨⟨fun hx => ?_, fun _ => ⟨fun hx => ?_, fun _ => hcal.ge, fun _ => hdah.ge, fun _ => hdeep.ge⟩⟩, fun hx => ?_⟩
  · exact ⟨by rw [hq, hqFull]; exact hx.q, by rw [hsoc]; exact hx.soc, by rw [hsoh]; exact hx.soh,
      by rw [hu]; exact hx.u, by rw [hrho]; exact hx.rho, by rw [havail]; exact hx.eAvail,
      by rw [husable]; exact hx.eUsable, by rw [hlist]; exact hx.resList⟩
  · exact ⟨by rw [hcal]; exact hx.aCal, by rw [hdah]; exact hx.tDah, by rw [hdeep]; exact hx.deepCount⟩
  · simp only [StringRec.Formed, availOf, hstate, hcls, hunmeasured, husable, havail] at hx ⊢
    exact hx

theorem availOf_le (silent : Bool) (x : StringRec) : availOf silent x ≤ x.eUsable := by
  unfold availOf
  split <;> omega

/-- A new state, with the reported energy formed on it. -/
theorem goes_setState (x : StringRec) (st : StringState) :
    x.Goes r p silent (StringRec.formAvail silent { x with state := st }) :=
  ⟨⟨fun h => ⟨h.q, h.soc, h.soh, h.u, h.rho, (availOf_le silent { x with state := st }).trans h.eUsable, h.eUsable,
    h.resList⟩, fun _ => ⟨fun h => ⟨h.aCal, h.tDah, h.deepCount⟩, fun _ => le_refl _, fun _ => le_refl _,
    fun _ => le_refl _⟩⟩, fun _ => rfl⟩

theorem goes_formAvail (x : StringRec) : x.Goes r p silent (x.formAvail silent) := goes_setState x x.state

/-- A fraction of a whole that is no more than a hundred per cent of it. -/
theorem fraction_le {a b : Nat} (h : b ≤ 10000) : a * b / 10000 ≤ a := by
  have hle := Nat.mul_le_mul_left a h
  omega

theorem soc_le {q full : Nat} (h : q ≤ full) : q * 10000 / full ≤ 10000 := by
  rw [Nat.mul_comm]
  exact Nat.div_le_of_le_mul (by rw [Nat.mul_comm full]; exact Nat.mul_le_mul_left _ h)

theorem usableOf_le (p : StringParams) {soh soc : Nat} (hsoh : soh ≤ 10000) (hsoc : soc ≤ 10000) :
    usableOf p soh soc ≤ p.eRated := (fraction_le hsoc).trans (fraction_le hsoh)

/-- A record whose energy has been formed from figures in their ranges. -/
theorem ranged_formEnergy (hq : x.q ≤ x.qFull) (hsoc : x.soc ≤ 10000) (hsoh : x.soh ≤ 10000) (hu : x.u ≤ 20000)
    (hrho : 10000 ≤ x.rho ∧ x.rho ≤ 30000) (hlist : x.resList.length ≤ 5) : (x.formEnergy p silent).Ranged p :=
  ⟨hq, hsoc, hsoh, hu, hrho, (availOf_le ..).trans (usableOf_le p hsoh hsoc), usableOf_le p hsoh hsoc, hlist⟩

theorem ratioOf_range (l : List Nat) (ref : Option Nat) : 10000 ≤ ratioOf l ref ∧ ratioOf l ref ≤ 30000 := by
  unfold ratioOf
  split <;> omega

theorem healthOf_le (warn u rho : Nat) (cap : Option Nat) (unknown : Bool) : healthOf warn u rho cap unknown ≤ 10000 := by
  unfold healthOf
  cases cap <;> cases unknown <;> simp only [Bool.false_eq_true, if_false, if_true] <;> omega

/-- A recompute forms every figure anew (R20). -/
theorem ranged_recompute (hl : x.resList.length ≤ 5) : (x.recompute p silent).Ranged p :=
  ranged_formEnergy (Nat.min_le_right _ _) (soc_le (Nat.min_le_right _ _)) (healthOf_le ..) (Nat.min_le_left _ _)
    (ratioOf_range ..) hl

theorem goes_recompute (hl : x.resList.length ≤ 5 → y.resList.length ≤ 5) (hg : r = false → x.Ages y) :
    x.Goes r p silent (y.recompute p silent) :=
  ⟨⟨fun h => ranged_recompute (hl h.resList), fun hr => ages_trans (hg hr) ⟨fun h => ⟨h.aCal, h.tDah, h.deepCount⟩,
    fun _ => le_refl _, fun _ => le_refl _, fun _ => le_refl _⟩⟩, fun _ => rfl⟩

theorem satAdd_le (w a b : Nat) : satAdd w a b ≤ 2 ^ w - 1 := Nat.min_le_left _ _

theorem le_satAdd {w a : Nat} (b : Nat) (h : a ≤ 2 ^ w - 1) : a ≤ satAdd w a b := le_min h (Nat.le_add_right a b)

theorem ages_tick (x : StringRec) : x.Ages x.tick where
  counted h := ⟨satAdd_le 32 _ _, h.tDah, h.deepCount⟩
  aCal h := le_satAdd _ h.aCal
  tDah _ := le_refl _
  deepCount _ := le_refl _

theorem accept_length (v : Nat) (h : x.resList.length ≤ 5) : (x.accept v).resList.length ≤ 5 := by
  show ((if x.resList.length < 5 then x.resList else x.resList.drop 1) ++ [v]).length ≤ 5
  split <;> simp <;> omega

/-- A string emptied by a failed test (R48). -/
theorem goes_empty (x : StringRec) : x.Goes r p silent (x.empty p silent) :=
  ⟨⟨fun h => ranged_formEnergy (Nat.zero_le _) (Nat.zero_le _) h.soh h.u h.rho h.resList,
    fun _ => ⟨fun h => ⟨h.aCal, h.tDah, h.deepCount⟩, fun _ => le_refl _, fun _ => le_refl _, fun _ => le_refl _⟩⟩,
    fun _ => rfl⟩

theorem ages_of_counts (hcal : y.aCal = x.aCal) (hdah : y.tDah = x.tDah) (hdeep : y.deepCount = x.deepCount) :
    x.Ages y where
  counted h := ⟨hcal ▸ h.aCal, hdah ▸ h.tDah, hdeep ▸ h.deepCount⟩
  aCal _ := hcal.ge
  tDah _ := hdah.ge
  deepCount _ := hdeep.ge

theorem setKappa_fields (p : StringParams) (x : StringRec) : (x.setKappa p).resList = x.resList
    ∧ (x.setKappa p).aCal = x.aCal ∧ (x.setKappa p).tDah = x.tDah ∧ (x.setKappa p).deepCount = x.deepCount := by
  unfold StringRec.setKappa
  split <;> exact ⟨rfl, rfl, rfl, rfl⟩

end

/-- New records, each from the one before. -/
theorem mapRecords_moves (s : State) (f : StringRec → StringRec)
    (hf : ∀ (k : Nat) (x : StringRec), s.strings[k]? = some x → x.Goes g.renewed (s.params k) s.hostSilent (f x)) :
    Moves g [.strings] s (s.withStrings (s.strings.map f)) := by
  have hget : ∀ (k : Nat) (x y : StringRec), s.strings[k]? = some x → (s.strings.map f)[k]? = some y → y = f x := fun k x y hx hy => by
    rw [List.getElem?_map, hx] at hy
    exact (Option.some.inj hy).symm
  refine .strings (withStrings_frame ..) ⟨List.length_map .., fun k x y hx hy => ?_, fun _ k x y hx hy => ?_⟩
  · rw [hget k x y hx hy]
    exact (hf k x hx).keeps
  · rw [hget k x y hx hy]
    exact (hf k x hx).formed

/-- One new record. -/
theorem setRecord_moves (s : State) {k : Nat} {x y : StringRec} (hx : s.strings[k]? = some x)
    (hf : x.Goes g.renewed (s.params k) s.hostSilent y) :
    Moves g [.strings] s (s.withStrings (s.strings.set k y)) := by
  have hgoes : ∀ (j : Nat) (a b : StringRec), s.strings[j]? = some a → (s.strings.set k y)[j]? = some b →
      a.Goes g.renewed (s.params j) s.hostSilent b := fun j a b ha hb => by
    by_cases hj : k = j
    · subst hj
      rw [hx] at ha
      rw [List.getElem?_set_self (List.getElem?_eq_some_iff.mp hx).1] at hb
      cases ha
      cases hb
      exact hf
    · rw [List.getElem?_set_ne hj, ha] at hb
      cases hb
      exact goes_refl ..
  exact .strings (withStrings_frame ..) ⟨List.length_set, fun j a b ha hb => (hgoes j a b ha hb).keeps,
    fun _ j a b ha hb => (hgoes j a b ha hb).formed⟩

/-- A change of one record. -/
theorem onString_moves (s : State) (k : Nat) {f : StringRec → StringRec}
    (hf : ∀ x, s.strings[k]? = some x → x.Goes g.renewed (s.params k) s.hostSilent (f x)) :
    Moves g [.strings] s (s.onString k f) := by
  unfold State.onString
  rw [List.modify_eq_set_getElem?]
  cases hx : s.strings[k]? with
  | none => exact .mono (.plain (f := []) (changesOnly_refl _ s) rfl) rfl
  | some x => exact setRecord_moves s hx (hf x hx)

/-- A change of the job that neither starts nor ends a test. -/
theorem withJob_moves (s : State) {j : TestJob}
    (h : s.job.state ≠ .running ∧ j.state ≠ .running ∨ j.state = s.job.state) :
    Moves g [.job] s (s.withJob j) := by
  refine .test (withJob_frame ..) rfl fun hs => ?_
  have hsame : (j.state == .running) = (s.job.state == .running) := by
    obtain ⟨hs, hj⟩ | hj := h
    · simp [hs, hj]
    · rw [hj]
  rw [State.dischOk, withJob_job, hsame]
  exact hs

/-- The job and DISCH_REQ change together (R39, R46). -/
theorem dischReq_withJob_moves (s : State) (j : TestJob) :
    Moves g [.dischReq, .job] s
      ((s.onOuts (fun o => { o with dischReq := j.state == .running })).withJob j) :=
  .test (changesOnly_then (dischReq_frame ..) (withJob_frame ..) rfl rfl) rfl fun _ => rfl

/-- A change of one record with the recompute that follows it (R20). -/
theorem onString_recompute_moves (s : State) (k : Nat) {f : StringRec → StringRec}
    (hl : ∀ x : StringRec, x.resList.length ≤ 5 → (f x).resList.length ≤ 5)
    (hg : g.renewed = false → ∀ x : StringRec, x.Ages (f x)) :
    Moves g [.strings, .notices] s ((s.onString k f).recompute k) := by
  cases hx : s.strings[k]? with
  | none =>
    have hnone : (s.onString k f).strings[k]? = none := by
      unfold State.onString
      rw [List.modify_eq_set_getElem?, hx]
      exact hx
    have hsame : s.onString k f = s := by
      unfold State.onString
      rw [List.modify_eq_set_getElem?, hx]
      rfl
    rw [State.recompute, hnone, hsame]
    exact moves_refl ..
  | some x =>
    have hk := (List.getElem?_eq_some_iff.mp hx).1
    have hon : s.onString k f = s.withStrings (s.strings.set k (f x)) := by
      unfold State.onString
      rw [List.modify_eq_set_getElem?, hx]
      rfl
    have hsome : (s.onString k f).strings[k]? = some (f x) := by
      rw [hon]
      exact List.getElem?_set_self hk
    have h : Moves g [.strings] s ((s.onString k f).withStrings
        ((s.onString k f).strings.set k ((f x).recompute (s.params k) s.hostSilent))) := by
      have hset := setRecord_moves (g := g) s hx
        (goes_recompute (p := s.params k) (silent := s.hostSilent) (hl x) fun hr => hg hr x)
      rw [hon]
      simp only [withStrings_strings, List.set_set]
      exact hset
    unfold State.recompute
    simp only [hsome]
    exact moves_ite (.mono h rfl) (moves_then h (notify_moves ..) rfl rfl)

theorem setStringState_moves (s : State) (k : Nat) (x : StringState) :
    Moves g [.strings] s (s.setStringState k x) :=
  moves_then (onString_moves s k fun r _ => goes_setState r x) (markStatus_moves _) rfl rfl

theorem restoreString_moves (s : State) (k : Nat) : Moves g [.strings] s (s.restoreString k) :=
  .trans (setStringState_moves ..) (onString_moves _ k fun _ _ => goes_of_figures rfl)

theorem tryCapture_moves (s : State) (k : Nat) (h : Handed) :
    Moves g [.strings, .notices] s (s.tryCapture k h) := by
  unfold State.tryCapture
  split
  · split
    · refine moves_ite (moves_ite ?_ ?_) (moves_refl ..)
      · exact onString_recompute_moves s k (fun _ h => accept_length _ h) fun _ x => ages_of_counts rfl rfl rfl
      · exact .mono (onString_moves s k fun _ _ => goes_of_figures rfl) rfl
    · exact moves_refl ..
  · exact moves_refl ..

theorem testDenied_moves (s : State) (o : ClaimOutcome) (a b : Nat) (h : s.job.state ≠ .running) :
    Moves g [.job, .notices] s (s.testDenied o a b) :=
  moves_then (withJob_moves s (.inl ⟨h, by decide⟩)) (notify_moves ..) rfl rfl

theorem startTest_moves (s : State) (i : Nat) :
    Moves g [.strings, .dischReq, .job, .notices] s (s.startTest i) := by
  unfold State.startTest
  simp only
  split
  · refine moves_then (f := [.strings, .dischReq, .job]) ?_ (notify_moves ..) rfl rfl
    exact moves_then (.trans (onString_moves s s.job.k (by intro _ _; exact goes_of_figures rfl)) (setStringState_moves ..))
      (dischReq_withJob_moves _ { s.job with state := .running, limitAt := some _ }) rfl rfl
  · exact moves_refl ..

theorem verdictEffects_moves (s : State) (k : Nat) (v : Verdict) :
    Moves g [.strings, .notices] s (s.verdictEffects k v) := by
  unfold State.verdictEffects
  split
  · exact moves_ite (onString_recompute_moves s k (by intro _ h; exact h) (by intro _ x; exact ages_of_counts rfl rfl rfl)) (moves_refl ..)
  · have hcap := onString_recompute_moves (g := g) s k (f := StringRec.setKappa (s.params k))
      (fun x h => by rw [(setKappa_fields (s.params k) x).1]; exact h) fun _ x =>
        ages_of_counts (setKappa_fields (s.params k) x).2.1 (setKappa_fields (s.params k) x).2.2.1
          (setKappa_fields (s.params k) x).2.2.2
    have hframe := moves_frame hcap
    refine moves_then (d := [.strings, .notices]) hcap (onString_moves _ k fun x _ => ?_) rfl rfl
    rw [params_of_kept (hframe.kept .image (by decide)), hostSilent_of_kept (hframe.kept .watchdog (by decide))]
    exact goes_empty x
  all_goals exact moves_refl ..

theorem testEndNotice_moves (s : State) (k : Nat) (v : Verdict) :
    Moves g [.notices] s (s.testEndNotice k v) := by
  unfold State.testEndNotice
  split
  · exact notify_moves ..
  · exact moves_refl ..

theorem removeEntries_withJob (s : State) (p : Withdrawal → Bool) (j : TestJob) :
    (s.withJob j).removeEntries p = (s.removeEntries p).withJob j := by
  unfold State.removeEntries
  rw [withJob_claims]
  split <;> rfl

/-- A release looks at the list and the loop only, so it may come after a change of the job. -/
theorem release_withJob (s : State) (c : WKind → Bool) (j : TestJob) :
    (s.withJob j).release c = (s.release c).withJob j := by
  have h : (s.withJob j).ownOfClass c = s.ownOfClass c := rfl
  unfold State.release
  rw [h]
  cases s.ownOfClass c with
  | none => rfl
  | some w =>
    simp only [removeEntries_withJob]
    rfl

theorem endTest_moves (s : State) (v : Verdict) : Moves g testEndPieces s (s.endTest v) := by
  let s1 := (s.onOuts (fun o => { o with dischReq := false })).jobIdle
  have h1 : Moves g testEndPieces s s1 := .mono (dischReq_withJob_moves s TestJob.blank) rfl
  let s3 := ((s1.setStringState s.job.k .inService).release WKind.isTest).onString s.job.k
    (StringRec.closeTest v s.now)
  have h3 : Moves g testEndPieces s s3 :=
    moves_then (moves_then (moves_then h1 (setStringState_moves ..) (d := testEndPieces) rfl rfl)
      (release_moves ..) (d := testEndPieces) rfl rfl) (onString_moves _ _ fun _ _ => goes_of_figures rfl) rfl rfl
  have hend : s.endTest v = ((s3.verdictEffects s.job.k v).onString s.job.k
      (StringRec.formAvail (s3.verdictEffects s.job.k v).hostSilent)).testEndNotice s.job.k v := by
    have hrel := release_withJob ((s.onOuts (fun o => { o with dischReq := false })).setStringState
      s.job.k .inService) WKind.isTest TestJob.blank
    have hs3 : s3 = (((((s.onOuts (fun o => { o with dischReq := false })).setStringState s.job.k
        .inService).release WKind.isTest).onString s.job.k (StringRec.closeTest v s.now)).jobIdle) :=
      congrArg (fun u : State => u.onString s.job.k (StringRec.closeTest v s.now)) hrel
    rw [hs3]
    rfl
  rw [hend]
  refine moves_then (f := testEndPieces) ?_ (testEndNotice_moves ..) rfl rfl
  refine moves_then (f := testEndPieces) ?_ (onString_moves _ _ fun x _ => goes_formAvail x) rfl rfl
  exact moves_then h3 (verdictEffects_moves ..) rfl rfl

theorem testEndCheck_moves (s : State) (k : Nat) (h : Handed) :
    Moves g testEndPieces s (s.testEndCheck k h) := by
  unfold State.testEndCheck
  split
  · split
    · exact moves_ite (endTest_moves ..) (moves_ite (endTest_moves ..) (moves_refl ..))
    · exact moves_refl ..
  · exact moves_refl ..

/-! ### Visits -/

/-- A change of the visit unit that leaves the lamp's level as R98 gives it. -/
theorem onVisit_moves (s : State) {f : Visits → Visits}
    (hopen : (s.onVisit f).cabinetVisitOpen = s.cabinetVisitOpen)
    (hadmission : s.admissionOk = true → (s.onVisit f).admissionOk = true) :
    Moves g [.visits] s (s.onVisit f) := by
  refine .position (onVisit_frame ..) rfl id (fun hl => ?_) hadmission
  rw [State.lampOk, State.permitNow, hopen]
  exact hl

/-- A change of the visit unit after which the lamp is re-formed. -/
theorem onVisit_formPermit_moves (s : State) {f : Visits → Visits}
    (hadmission : s.admissionOk = true → (s.onVisit f).admissionOk = true) :
    Moves g [.visits, .lamp] s (s.onVisit f).formPermit :=
  .position (changesOnly_then (onVisit_frame ..) (formPermit_frame _) rfl rfl) rfl id (fun _ => rfl)
    hadmission

/-- A change of the current visit that leaves its scope and its admission. -/
theorem onCurrent_moves (s : State) {f : Visit → Visit} (hscope : ∀ v, (f v).scope = v.scope)
    (hadmitting : ∀ v, (f v).admitting = v.admitting)
    (hlevel : ∀ v, s.visit.current = some v → v.admitting = true → (f v).overdue = v.overdue) :
    Moves g [.visits] s (s.onCurrent f) := by
  refine onVisit_moves s ?_ ?_
  · simp only [State.cabinetVisitOpen, State.onVisit, withVisit_visit]
    cases s.visit.current <;> simp [hscope, hadmitting]
  · simp only [State.admissionOk, State.onVisit, withVisit_visit]
    cases hv : s.visit.current with
    | none => simp
    | some v =>
      by_cases ha : v.admitting = true
      · simp [hadmitting, ha, hlevel v hv ha]
      · simp [hadmitting, ha]

theorem visitOpenedNotice_moves (s : State) : Moves g [.notices] s s.visitOpenedNotice := by
  unfold State.visitOpenedNotice
  split
  · exact notify_moves ..
  · exact moves_refl ..

theorem retireVisit_moves (s : State) (a : Option (ClaimOutcome × Bool)) :
    Moves g [.visits, .lamp] s (s.retireVisit a) := by
  unfold State.retireVisit
  split
  · exact onVisit_formPermit_moves s fun _ => rfl
  · exact moves_refl ..

theorem addAction_scope (a : VisitAction) (v : Visit) :
    (v.addAction a).scope = v.scope ∧ (v.addAction a).admitting = v.admitting
      ∧ (v.addAction a).overdue = v.overdue := by
  unfold Visit.addAction
  split <;> simp

theorem addAction_moves (s : State) (a : VisitAction) :
    Moves g [.visits] s (s.onCurrent (Visit.addAction a)) :=
  onCurrent_moves s (fun v => (addAction_scope a v).1) (fun v => (addAction_scope a v).2.1)
    fun v _ _ => (addAction_scope a v).2.2

theorem autoAction_moves (s : State) (k : ActionKind) : Moves g [.visits] s (s.autoAction k) :=
  moves_ite (addAction_moves ..) (moves_refl ..)

theorem admitVisit_moves (s : State) : Moves g [.visits, .lamp, .notices] s s.admitVisit := by
  refine moves_then (f := [.visits, .lamp]) (onVisit_formPermit_moves s fun _ => ?_)
    (visitOpenedNotice_moves _) rfl rfl
  simp only [State.admissionOk, State.onVisit, withVisit_visit]
  cases s.visit.current <;> simp

theorem refuseVisit_moves (s : State) (o : ClaimOutcome) (a b : Nat) :
    Moves g [.visits, .lamp, .notices] s (s.refuseVisit o a b) := by
  unfold State.refuseVisit
  split
  · exact moves_then (retireVisit_moves ..) (notify_moves ..) rfl rfl
  · exact moves_refl ..

/-! ### The sequencer -/

/-- A change of the sequencer that leaves its state. -/
theorem onSeq_moves (s : State) {f : Sequencer → Sequencer} (h : (f s.seq).state = s.seq.state) :
    Moves g [.sequencer] s (s.onSeq f) := by
  refine .position (onSeq_frame ..) rfl (fun hr => ?_) (fun hl => ?_) id
  · simpa [State.requestsOk, State.onSeq, h] using hr
  · simpa [State.lampOk, State.permitNow, State.cabinetVisitOpen, State.onSeq, h] using hl

theorem goto_moves (s : State) (x : SeqState) : Moves g [.sequencer, .requests, .lamp] s (s.goto x) :=
  .position (goto_frame s x) rfl (fun _ => ⟨rfl, rfl⟩) (fun _ => rfl) id

theorem startXfer_moves (s : State) (d : Direction) (m : XferMode) :
    Moves g [.sequencer] s (s.startXfer d m) := onSeq_moves s rfl

theorem followRetransfer_moves (s : State) : Moves g [.sequencer] s s.followRetransfer :=
  moves_ite (moves_ite (moves_refl ..) (onSeq_moves s rfl)) (onSeq_moves s rfl)

theorem goOnline_moves (s : State) : Moves g [.sequencer, .requests, .lamp] s s.goOnline :=
  moves_then (goto_moves ..) (onSeq_moves _ rfl) rfl rfl

theorem enterMaint_moves (s : State) (x : SeqState) (b : Bool) :
    Moves g movePieces s (s.enterMaint x b) := by
  have h : Moves g movePieces s
      (((s.goto .maint).onSeq (fun q => { q with prior := some x })).enterMaintKind s.cabinetVisitOpen) :=
    moves_then (moves_then (goto_moves ..) (onSeq_moves _ rfl) (d := movePieces) rfl rfl)
      (enterMaintKind_moves ..) rfl rfl
  unfold State.enterMaint
  refine moves_ite (moves_then h (autoAction_moves ..) rfl rfl) ?_
  refine moves_then (f := movePieces) ?_ (notify_moves ..) rfl rfl
  exact moves_ite (moves_then h (announceForced_moves _) rfl rfl) h

theorem enterStatic_moves (s : State) (x : SeqState) : Moves g movePieces s (s.enterStatic x) := by
  have h : Moves g movePieces s ((s.goto x).onSeq (fun q => { q with prior := none })) :=
    moves_then (goto_moves ..) (onSeq_moves _ rfl) rfl rfl
  unfold State.enterStatic
  exact moves_ite (moves_then h (enterMaint_moves ..) rfl rfl)
    (moves_then h (followRetransfer_moves _) rfl rfl)

/-- What a failed transfer may change (R106, R109). -/
def transferPieces : List Piece := [.sequencer, .requests, .lamp, .withdrawals, .ownQueue, .notices]

theorem failTransfer_moves (s : State) (c : FaultCause) :
    Moves g transferPieces s (s.failTransfer c) := by
  unfold State.failTransfer
  simp only
  split
  · refine moves_then (f := transferPieces) ?_ (notify_moves ..) rfl rfl
    exact moves_then (goOnline_moves _) (release_moves ..) rfl rfl
  · refine moves_then (f := [.sequencer, .requests, .lamp]) ?_ (notify_moves ..) rfl rfl
    refine moves_then (f := [.sequencer, .requests, .lamp]) ?_ (followRetransfer_moves _) rfl rfl
    exact moves_then (goto_moves ..) (onSeq_moves _ rfl) rfl rfl
  all_goals exact moves_refl ..

theorem lockRecheck_moves (s : State) : Moves g transferPieces s s.lockRecheck := by
  unfold State.lockRecheck
  split
  · refine moves_ite (moves_refl ..) (moves_ite ?_ (failTransfer_moves ..))
    exact .mono (onSeq_moves s rfl) rfl
  · exact .mono (followRetransfer_moves _) rfl

/-! ### The claim slot -/

theorem setSlot_moves (s : State) (x : Slot) : Moves g [.slot] s (s.setSlot x) :=
  .plain (setSlot_frame ..) rfl

theorem sendClaim_moves (s : State) (q : Request) :
    Moves g [.claimIds, .slot, .ownQueue] s (s.sendClaim q) := by
  unfold State.sendClaim
  refine moves_then (f := [.claimIds, .ownQueue]) ?_ (setSlot_moves ..) rfl rfl
  exact moves_then (lastId_moves ..) (queueOwn_moves ..) rfl rfl

theorem requestClaim_moves (s : State) (who : Requester) (k : WKind) (c : Scope) (m : Nat) :
    Moves g [.claimIds, .slot, .ownQueue] s (s.requestClaim who k c m).2 := by
  unfold State.requestClaim
  split
  · split
    · exact moves_refl ..
    · exact sendClaim_moves ..
  · exact moves_refl ..

theorem reportTest_moves (s : State) (f : Final) : Moves g testEndPieces s (s.reportTest f) := by
  unfold State.reportTest
  split
  · rename_i hclaiming
    have hrun : s.job.state ≠ .running := by simp [hclaiming]
    split
    · exact .mono (testDenied_moves s _ _ _ hrun) rfl
    · refine moves_ite (moves_ite ?_ ?_) (.mono (testDenied_moves s _ _ _ hrun) rfl)
      · exact .mono (startTest_moves ..) rfl
      · have hrel := release_moves (g := g) s WKind.isTest
        refine moves_then hrel (testDenied_moves _ _ _ _ ?_) rfl rfl
        rwa [show _ = s.job from (moves_frame hrel).kept .job (by decide)]
  · exact moves_refl ..

theorem reportSeq_moves (s : State) (i : Nat) (f : Final) :
    Moves g transferPieces s (s.reportSeq i f) := by
  unfold State.reportSeq
  refine moves_ite (moves_then (onSeq_moves s rfl) (notify_moves ..) rfl rfl) ?_
  refine moves_ite (moves_ite ?_ ?_) ?_
  · exact moves_then (moves_then (onSeq_moves s rfl) (goto_moves ..)
      (d := [.sequencer, .requests, .lamp]) rfl rfl) (startXfer_moves ..) rfl rfl
  · refine moves_then (f := transferPieces) ?_ (notify_moves ..) rfl rfl
    exact moves_then (moves_then (onSeq_moves s rfl) (release_moves ..)
      (d := [.sequencer, .withdrawals, .ownQueue]) rfl rfl) (goOnline_moves _) rfl rfl
  · exact moves_then (moves_then (onSeq_moves s rfl) (goOnline_moves _)
      (d := [.sequencer, .requests, .lamp]) rfl rfl) (notify_moves ..) rfl rfl

theorem reportVisit_moves (s : State) (f : Final) :
    Moves g [.visits, .lamp, .notices] s (s.reportVisit f) := by
  unfold State.reportVisit
  split
  · exact moves_ite (moves_ite (admitVisit_moves _) (refuseVisit_moves ..)) (moves_refl ..)
  · exact moves_refl ..

theorem report_moves (s : State) (q : Request) (f : Final) : Moves g reportPieces s (s.report q f) := by
  unfold State.report
  split
  · exact .mono (reportSeq_moves ..) rfl
  · exact .mono (reportTest_moves ..) rfl
  · exact .mono (reportVisit_moves ..) rfl

theorem finalOutcome_moves (s : State) (q : Request) (f : Final) :
    Moves g settlePieces s (s.finalOutcome q f) :=
  moves_then (setSlot_moves ..) (report_moves ..) rfl rfl

/-- A claim that succeeds is where an own entry that is not forced joins the list (R82). -/
theorem settleGranted_moves (s : State) {q : Request} (i : Nat) (hg : g.granted = true ∨ q.givenUp = true) :
    Moves g settlePieces s (s.settleGranted q i) := by
  unfold State.settleGranted
  split
  · refine moves_then (f := settlePieces) ?_ (report_moves ..) rfl rfl
    exact moves_then (moves_then (setSlot_moves ..) (sendGrant_moves ..) (d := settlePieces)
      rfl rfl) (sendDrop_moves ..) rfl rfl
  · refine moves_then (f := settlePieces) ?_ (report_moves ..) rfl rfl
    have hg' : g.granted = true := hg.resolve_right ‹_›
    exact moves_then (moves_then (setSlot_moves ..) (addOwnEntry_moves _ rfl rfl (.inr hg'))
      (d := settlePieces) rfl rfl) (sendGrant_moves ..) rfl rfl

theorem retryOrEnd_moves (s : State) (q : Request) (f : Final) :
    Moves g settlePieces s (s.retryOrEnd q f) :=
  moves_ite (finalOutcome_moves ..)
    (moves_ite (finalOutcome_moves ..) (.mono (setSlot_moves ..) rfl))

theorem settleFailed_moves (s : State) (q : Request) (i : Nat) (f : Final) :
    Moves g settlePieces s (s.settleFailed q i f) := by
  have h : Moves g settlePieces s ((s.setSlot .free).sendDrop i .failed) :=
    moves_then (setSlot_moves ..) (sendDrop_moves ..) rfl rfl
  unfold State.settleFailed
  cases f.outcome with
  | contended | unheard | lost => exact .trans h (retryOrEnd_moves ..)
  | granted | objected | marginLocal | abandoned | refused => exact .trans h (finalOutcome_moves ..)

/-- The returned CLAIM `b` brings its request an ACTIVE entry: it is the claim outstanding, it succeeds by
R81, and its requester has not given up. -/
def State.grantsOn (s : State) (b : List Byte) : Prop :=
  ∃ q id tag d, s.claims.slot = .inFlight q id tag d ∧ frTag b = tag ∧ s.returnFailure q b = none
    ∧ q.givenUp = false

theorem claimReturned_moves (s : State) (b : List Byte) (hg : g.granted = true ∨ ¬ s.grantsOn b) :
    Moves g settlePieces s (s.claimReturned b) := by
  unfold State.claimReturned
  split
  · rename_i q id tag d hslot
    split
    · rename_i htag
      split
      · rename_i hok
        refine settleGranted_moves s id (hg.imp_right fun hn => ?_)
        by_contra hgiven
        exact hn ⟨q, id, tag, d, hslot, htag, hok, by simpa using hgiven⟩
      · exact settleFailed_moves ..
    · exact moves_refl ..
  all_goals exact moves_refl ..

theorem giveUp_moves (s : State) (w : Requester) : Moves g settlePieces s (s.giveUp w) := by
  unfold State.giveUp
  split
  · exact moves_ite (.mono (setSlot_moves ..) rfl) (moves_refl ..)
  · exact moves_ite (finalOutcome_moves ..) (moves_refl ..)
  · exact moves_refl ..

theorem giveUp_ageing_moves (s : State) : Moves g abortPieces s (s.giveUp .ageing) := by
  unfold State.giveUp
  split
  · exact moves_ite (.mono (setSlot_moves ..) rfl) (moves_refl ..)
  · rename_i q _ _
    split
    · rename_i h
      unfold State.finalOutcome State.report
      simp only [h]
      exact moves_then (setSlot_moves ..) (reportTest_moves ..) rfl rfl
    · exact moves_refl ..
  · exact moves_refl ..

theorem abortTest_moves (s : State) (c : AbortCause) : Moves g abortPieces s (s.abortTest c) := by
  unfold State.abortTest
  split
  · exact .mono (endTest_moves ..) rfl
  · split
    · exact moves_then (withJob_moves s (j := { s.job with givenUp := some c }) (.inr rfl))
        (giveUp_ageing_moves _) rfl rfl
    · exact moves_refl ..
  · exact moves_refl ..

theorem unqueueClaim_moves (s : State) (t : Nat) : Moves g [.ownQueue] s (s.unqueueClaim t) := by
  refine .loop ?_ rfl fun hs => ?_
  · constructor; intro p hp; cases p <;> simp_all [Piece.kept, State.unqueueClaim, State.onLoop]
  · obtain ⟨ha, hb, hq, hst, hf⟩ := (loopOk_iff s).mp hs
    have hsub : (s.unqueueClaim t).loop.queue.Sublist s.loop.queue := List.filter_sublist
    exact (loopOk_iff _).mpr ⟨ha, hb, hsub.length_le.trans hq, (hsub.filter _).length_le.trans hst, hf⟩

theorem claimExpires_moves (s : State) : Moves g settlePieces s s.claimExpires := by
  unfold State.claimExpires
  split
  · exact moves_then (unqueueClaim_moves ..) (settleFailed_moves ..) rfl rfl
  all_goals exact moves_refl ..

theorem retryExpires_moves (s : State) : Moves g (.claimIds :: settlePieces) s s.retryExpires := by
  unfold State.retryExpires
  split
  · simp only
    split
    · exact .mono (finalOutcome_moves ..) rfl
    · exact .mono (sendClaim_moves ..) rfl
  all_goals exact moves_refl ..

/-! ### The end of an event -/

theorem figures_moves (s : State) (f : Figures) (m : Margin) :
    Moves g [.margin] s (s.onView (fun v => { v with figures := f, margin := m })) :=
  .plain (figures_frame ..) rfl

theorem marginNotice_moves (s : State) (f : Figures) (m : Margin) (k : NoticeKind) (x y z w : Int) :
    Moves g [.margin, .notices] s
      ((s.onView (fun v => { v with figures := f, margin := m })).notify k x y z w).markStatus :=
  moves_then (moves_then (figures_moves ..) (notify_moves ..) (d := [.margin, .notices])
    rfl rfl) (markStatus_moves _) rfl rfl

theorem marginStep_moves (s : State) : Moves g evalPieces s s.marginStep := by
  unfold State.marginStep
  simp only
  refine moves_ite (.mono (figures_moves ..) rfl) ?_
  split
  · refine moves_then (f := evalPieces) ?_ (abortTest_moves ..) rfl rfl
    exact .mono (marginNotice_moves ..) rfl
  · exact .mono (marginNotice_moves ..) rfl

theorem evalMargin_moves (s : State) : Moves g evalPieces s s.evalMargin := by
  unfold State.evalMargin
  exact moves_ite (moves_ite (marginStep_moves s) (.trans (marginStep_moves s) (marginStep_moves _)))
    (moves_refl ..)

/-- What the end of any event may change, a test in progress included. -/
def finishPieces : List Piece := .statusTimer :: evalPieces

theorem finish_moves (s0 s : State) : Moves g finishPieces s (State.finish s0 s) := by
  unfold State.finish
  exact moves_ite (moves_then (evalMargin_moves s) (queueStatus_moves _) rfl rfl)
    (.mono (evalMargin_moves s) rfl)

end Sys2Proof.Machine


/-! PROOFS. The movement of every row of the table: what the effect of its event may change. -/

namespace Sys2Proof.Machine

-- One proof after another: side by side they ask for more thread stacks than there is memory for.
set_option Elab.async false

variable {g : Allows}

/-! ### Steps through a list, and plain blocks -/

theorem foldl_moves {α : Type} {f : List Piece} {F : State → α → State}
    (h : ∀ s a, Moves g f s (F s a)) (l : List α) : ∀ s, Moves g f s (l.foldl F s) := by
  induction l with
  | nil => exact fun s => moves_refl ..
  | cons a l ih => exact fun s => .trans (h s a) (ih _)

theorem onIntake_moves (s : State) (f : Intake → Intake) : Moves g [.intake] s (s.onIntake f) := by
  refine .plain ?_ rfl
  constructor; intro p hp; cases p <;> simp_all [Piece.kept, State.onIntake]

theorem onPhase_moves (s : State) (f : Phase → Phase) : Moves g [.phase] s (s.onPhase f) := by
  refine .plain ?_ rfl
  constructor; intro p hp; cases p <;> simp_all [Piece.kept, State.onPhase]

theorem onStartup_moves (s : State) (f : StartUp → StartUp) : Moves g [.startup] s (s.onStartup f) := by
  refine .plain ?_ rfl
  constructor; intro p hp; cases p <;> simp_all [Piece.kept, State.onStartup]

theorem withDog_moves (s : State) (x : Watchdog) : Moves g [.watchdog] s (s.withDog x) := by
  refine .plain ?_ rfl
  constructor; intro p hp; cases p <;> simp_all [Piece.kept]

theorem withTicks_moves (s : State) (x : Ticks) : Moves g [.ticks] s (s.withTicks x) := by
  refine .plain ?_ rfl
  constructor; intro p hp; cases p <;> simp_all [Piece.kept]

theorem unsupervisedLine_moves (s : State) (b : Bool) :
    Moves g [.unsupervisedLine] s (s.onOuts (fun o => { o with unsupervised := b })) := by
  refine .plain ?_ rfl
  constructor; intro p hp; cases p <;> simp_all [Piece.kept, State.onOuts]

/-! ### The peer view table -/

theorem setPeer_frame (s : State) (n : Nat) (e : PeerEntry) : s.ChangesOnly [.peers] (s.setPeer n e) := by
  constructor; intro p hp; cases p <;> simp_all [Piece.kept, State.setPeer, State.onView]

/-- The table keeps its law where the entry set is not ABSENT or is at its reset values. -/
theorem setPeer_moves (s : State) (n : Nat) {e : PeerEntry}
    (h : e.state ≠ .absent ∨ e = PeerEntry.blank) : Moves g [.peers] s (s.setPeer n e) := by
  refine .peers (setPeer_frame ..) fun hs => ?_
  simp only [State.tableOk, Bool.and_eq_true, beq_iff_eq, List.all_eq_true] at hs ⊢
  obtain ⟨hlen, hall⟩ := hs
  refine ⟨List.length_set.trans hlen, fun x hx => ?_⟩
  obtain hx | rfl := List.mem_or_eq_of_mem_set hx
  · exact hall x hx
  · simpa using h

theorem movePeer_moves (s : State) (n : Nat) {x : EntryState} (h : x ≠ .absent) :
    Moves g [.peers, .notices] s (s.movePeer n x) :=
  moves_then (setPeer_moves s n (.inl h)) (notify_moves ..) rfl rfl

theorem refreshPeer_moves (s : State) (n : Nat) {e : PeerEntry} (h : e.state = .present) :
    Moves g [.peers, .notices] s (s.refreshPeer n e) := by
  have h1 : Moves g [.peers, .notices] s (s.setPeer n e) :=
    .mono (setPeer_moves s n (.inl (by simp [h]))) rfl
  unfold State.refreshPeer
  simp only
  have hthen : ∀ {t : State} (c : Prop) [Decidable c] (k : NoticeKind) (x y z w : Int),
      Moves g [.peers, .notices] s t →
      Moves g [.peers, .notices] s (if c then t.notify k x y z w else t) :=
    fun c _ k x y z w ht => moves_ite (moves_then ht (notify_moves ..) rfl rfl) ht
  exact hthen _ _ _ _ _ _ (hthen _ _ _ _ _ _
    (moves_ite h1 (moves_then h1 (notify_moves ..) rfl rfl)))

theorem forget_moves (s : State) (n : Nat) :
    Moves g [.peers, .notices, .withdrawals] s (s.forget n) :=
  moves_then (moves_then (setPeer_moves s n (.inr rfl)) (notify_moves ..) (d := [.peers, .notices]) rfl rfl)
    (removeEntries_moves ..) rfl rfl

theorem older_absent (e : PeerEntry) : (e.older.state = .absent ↔ e.state = .absent)
    ∧ (e.state = .absent → e.older = e) := by
  unfold PeerEntry.older
  split <;> simp_all

/-- Time passes, and the entries grow older where a whole millisecond has passed. -/
theorem advance_moves (s : State) : Moves g [.clock, .peers] s s.advance := by
  have h1 : Moves g [.clock] s (s.withUs (s.us + 1)) := by
    refine .plain ?_ rfl
    constructor; intro p hp; cases p <;> simp_all [Piece.kept]
  unfold State.advance
  refine moves_ite (moves_then h1 (.peers ?_ fun hs => ?_) rfl rfl) (.mono h1 rfl)
  · constructor; intro p hp; cases p <;> simp_all [Piece.kept, State.onView]
  · simp only [State.tableOk, State.onView, withView_view, withUs_view, Bool.and_eq_true, beq_iff_eq,
      List.all_eq_true, List.length_map, List.mem_map, forall_exists_index, and_imp,
      forall_apply_eq_imp_iff₂] at hs ⊢
    refine ⟨hs.1, fun e he => ?_⟩
    obtain ⟨habs, hsame⟩ := older_absent e
    by_cases ha : e.state = .absent
    · rw [hsame ha]; exact hs.2 e he
    · simp [mt habs.mp ha]

/-! ### Bytes of a frame (R148, R154) -/

theorem length_setFrameByte {b : List Byte} (i v : Nat) (h : b ≠ []) :
    (setFrameByte b i v).length = b.length := by
  have : 0 < b.length := List.length_pos_iff.mpr h
  simp [setFrameByte, sealed]; omega

theorem setFrameByte_ne_nil (b : List Byte) (i v : Nat) : setFrameByte b i v ≠ [] := by
  simp [setFrameByte, sealed]

/-- Every byte but the one set and the check byte stays. -/
theorem getD_setFrameByte {b : List Byte} {i j v : Nat} (hj : j + 1 < b.length) :
    (setFrameByte b i v).getD j 0#8 = if i = j then BitVec.ofNat 8 v else b.getD j 0#8 := by
  have hlt : j < b.dropLast.length := by simp; omega
  have hlt' : j < (b.dropLast.set i (BitVec.ofNat 8 v)).length := by simpa using hlt
  have hb : j < b.length := by omega
  simp only [setFrameByte, sealed, List.getD_eq_getElem?_getD, List.getElem?_append_left hlt',
    List.getElem?_set, List.getElem?_dropLast, if_pos (show j < b.length - 1 by omega)]
  split
  · subst i; rw [if_pos hlt]; rfl
  · rfl

theorem byteAt_setFrameByte {b : List Byte} {i j v : Nat} (hj : j + 1 < b.length) :
    byteAt (setFrameByte b i v) j = if i = j then v % 256 else byteAt b j := by
  unfold byteAt
  rw [getD_setFrameByte hj]
  split <;> simp

theorem frHops_setHops {b : List Byte} {h : Nat} (hb : 11 ≤ b.length) (hh : h ≤ 64) :
    frHops (setHops b h) = h := by
  unfold frHops setHops
  rw [byteAt_setFrameByte (by omega), if_pos rfl]
  omega

theorem length_setVisited {b : List Byte} (n : Nat) (h : b ≠ []) : (setVisited b n).length = b.length := by
  unfold setVisited
  simp only
  rw [length_setFrameByte _ _ (setFrameByte_ne_nil _ _ _), length_setFrameByte _ _ h]

/-- The visited mask stands in bytes 4 and 5. -/
theorem byteAt_setVisited {b : List Byte} {n j : Nat} (hj : j + 1 < b.length) (h4 : j ≠ 4) (h5 : j ≠ 5) :
    byteAt (setVisited b n) j = byteAt b j := by
  have hlen := length_setFrameByte (b := b) 4 (maskAdd (frVisited b) n) (by rintro rfl; simp at hj)
  unfold setVisited
  rw [byteAt_setFrameByte (by rw [hlen]; exact hj), if_neg h5.symm, byteAt_setFrameByte hj,
    if_neg h4.symm]

theorem length_writeObjection {b : List Byte} (n : Nat) (r : Reason) (h : b ≠ []) :
    (writeObjection b n r).length = b.length := by
  unfold writeObjection
  simp only
  split <;> simp [length_setFrameByte, setFrameByte_ne_nil, h]

theorem length_of_frameOk {b : List Byte} (h : frameOk b = true) : 11 ≤ b.length := by
  simp only [frameOk, Bool.and_eq_true, beq_iff_eq] at h
  omega

/-! ### Ports -/

theorem onPort_frame (s : State) (p : Port) (f : PortState → PortState) :
    s.ChangesOnly [.portA, .portB] (s.onPort p f) := by
  constructor; intro q hq
  cases p <;> cases q <;> simp_all [Piece.kept, State.onPort, State.onLoop]

/-- A change of a port that keeps its forward buffer within its place. -/
theorem onPort_moves (s : State) (p : Port) {f : PortState → PortState}
    (h : (s.port p).forwardOk = true → (f (s.port p)).forwardOk = true) :
    Moves g [.portA, .portB] s (s.onPort p f) := by
  refine .loop (onPort_frame ..) rfl fun hs => ?_
  obtain ⟨ha, hb, hq, hst, hf⟩ := (loopOk_iff s).mp hs
  cases p with
  | a => exact (loopOk_iff _).mpr ⟨h ha, hb, hq, hst, hf⟩
  | b => exact (loopOk_iff _).mpr ⟨ha, h hb, hq, hst, hf⟩

/-- A change of a port that leaves its forward buffer. -/
theorem onPort_moves_of_fwd (s : State) (p : Port) {f : PortState → PortState}
    (h : ∀ x, (f x).fwd = x.fwd) : Moves g [.portA, .portB] s (s.onPort p f) :=
  onPort_moves s p fun hs => by simpa [PortState.forwardOk, h] using hs

theorem endFlight_moves (s : State) (tag : Nat) : Moves g [.inFlight] s (s.endFlight tag) := by
  refine .loop ?_ rfl fun hs => ?_
  · constructor; intro p hp; cases p <;> simp_all [Piece.kept, State.endFlight, State.onLoop]
  · obtain ⟨ha, hb, hq, hst, hf⟩ := (loopOk_iff s).mp hs
    exact (loopOk_iff _).mpr ⟨ha, hb, hq, hst, (List.length_filter_le ..).trans hf⟩

/-- What an event of a port's line may change. -/
def linkPieces : List Piece := [.portA, .portB, .inFlight, .notices]

theorem linkDown_moves (s : State) (p : Port) (c : DownCause) : Moves g linkPieces s (s.linkDown p c) := by
  unfold State.linkDown
  simp only
  refine moves_then (f := linkPieces) ?_ (notify_moves ..) rfl rfl
  refine moves_then (f := linkPieces) ?_ (onPort_moves _ p fun _ => rfl) rfl rfl
  split
  · exact .mono (endFlight_moves ..) rfl
  · exact moves_refl ..

theorem linkUp_moves (s : State) (p : Port) : Moves g linkPieces s (s.linkUp p) :=
  moves_then (onPort_moves_of_fwd s p (by intro; rfl)) (notify_moves ..) rfl rfl

/-- The operations of a received symbol leave the forward buffer. -/
theorem symbol_fwd (x : PortState) (b : Byte) : x.endFrame.fwd = x.fwd ∧ x.hearIdle.fwd = x.fwd
    ∧ x.hearNoHear.fwd = x.fwd ∧ x.breakRun.fwd = x.fwd ∧ (x.takeByte b).fwd = x.fwd := by
  unfold PortState.endFrame PortState.hearIdle PortState.hearNoHear PortState.breakRun PortState.takeByte
  refine ⟨?_, ?_, ?_, ?_, ?_⟩
  · split <;> rfl
  · split <;> rfl
  · split <;> rfl
  · split <;> rfl
  · split
    · rfl
    · simp only; split <;> rfl

@[simp] theorem endFrame_fwd (x : PortState) : x.endFrame.fwd = x.fwd := (symbol_fwd x 0#8).1
@[simp] theorem hearIdle_fwd (x : PortState) : x.hearIdle.fwd = x.fwd := (symbol_fwd x 0#8).2.1
@[simp] theorem hearNoHear_fwd (x : PortState) : x.hearNoHear.fwd = x.fwd := (symbol_fwd x 0#8).2.2.1
@[simp] theorem breakRun_fwd (x : PortState) : x.breakRun.fwd = x.fwd := (symbol_fwd x 0#8).2.2.2.1
@[simp] theorem takeByte_fwd (x : PortState) (b : Byte) : (x.takeByte b).fwd = x.fwd :=
  (symbol_fwd x b).2.2.2.2

theorem takeSymbol_moves (s : State) (p : Port) (y : Symbol) :
    Moves g linkPieces s (s.takeSymbol p y) := by
  have h : ∀ f : PortState → PortState, (∀ x, (f x).fwd = x.fwd) → Moves g linkPieces s (s.onPort p f) :=
    fun f hf => .mono (onPort_moves_of_fwd s p hf) rfl
  unfold State.takeSymbol
  refine moves_ite (moves_ite ?_ (moves_ite ?_ ?_)) ?_
  · have h1 := h (fun x => x.endFrame.hearIdle) (by simp)
    exact moves_ite (.trans h1 (linkUp_moves ..)) h1
  · have h1 := h (fun x => x.endFrame.hearNoHear) (by simp)
    exact moves_ite (.trans h1 (linkDown_moves ..)) h1
  · exact h _ (by simp)
  · exact h _ (by simp)

theorem startForward_moves (s : State) {p : Port} {b : List Byte} {l : List (List Byte)}
    (h : (s.port p).fwd = b :: l) : Moves g [.portA, .portB] s (s.startForward p b) := by
  refine onPort_moves s p fun hs => ?_
  simp only [PortState.forwardOk, h, Bool.and_eq_true, Nat.ble_eq, List.all_eq_true, waiting,
    List.map_cons, List.sum_cons, List.drop_one, List.tail_cons, List.mem_cons] at hs ⊢
  exact ⟨by omega, fun x hx => hs.2 x (.inr hx)⟩

/-- An own frame leaves the queue for the in-flight list, which has room. -/
theorem startOwn_moves (s : State) (p : Port) (f : OwnFrame) (h : s.loop.inFlight.length < 32) :
    Moves g loopPieces s (s.startOwn p f) := by
  refine .loop ?_ rfl fun hs => ?_
  · constructor; intro q hq
    cases p <;> cases q <;> simp_all [Piece.kept, State.startOwn, State.onPort, State.onLoop, loopPieces]
  · obtain ⟨ha, hb, hq, hst, _⟩ := (loopOk_iff _).mp hs
    have hq' := (List.drop_sublist 1 s.loop.queue).length_le.trans hq
    have hst' := ((List.drop_sublist 1 s.loop.queue).filter (fun f => f.kind == .status)).length_le.trans hst
    have hf' : (s.loop.inFlight ++ [(⟨f.tag, f.kind, f.claimId, s.now⟩ : Flight)]).length ≤ 32 := by simpa using h
    cases p with
    | a => exact (loopOk_iff _).mpr ⟨ha, hb, hq', hst', hf'⟩
    | b => exact (loopOk_iff _).mpr ⟨ha, hb, hq', hst', hf'⟩

theorem transmit_moves (s : State) (p : Port) (h : s.mayTransmit p = true) :
    Moves g loopPieces s (s.transmit p) := by
  unfold State.transmit
  split
  · exact .mono (startForward_moves s ‹_›) rfl
  · split
    · refine startOwn_moves s p _ ?_
      simp_all [State.mayTransmit, State.ownMayStart]
    · exact moves_refl ..

/-! ### A frame completed (R151 to R156) -/

theorem joinForward_forwardOk {x : PortState} {b : List Byte} (hx : x.forwardOk = true)
    (hb : frHops b ≤ 64) : (x.joinForward b).forwardOk = true := by
  simp only [PortState.forwardOk, Bool.and_eq_true, Nat.ble_eq, List.all_eq_true] at hx ⊢
  unfold PortState.joinForward
  split
  · rename_i hroom
    refine ⟨by simpa [waiting] using hroom, fun c hc => ?_⟩
    obtain hc | hc := List.mem_append.mp hc
    · exact hx.2 c hc
    · rwa [List.mem_singleton.mp hc]
  · exact hx

theorem forwardBy_moves (s : State) (p q : Port) {b : List Byte} (hb : 11 ≤ b.length) :
    Moves g [.portA, .portB] s (s.forwardBy p q b) := by
  unfold State.forwardBy
  split
  · exact onPort_moves_of_fwd s p fun _ => rfl
  · exact onPort_moves s q fun hs =>
      joinForward_forwardOk hs (by rw [frHops_setHops hb (by omega)]; omega)

theorem forward_moves (s : State) (p : Port) {b : List Byte} (hb : 11 ≤ b.length) :
    Moves g [.portA, .portB] s (s.forward p b) :=
  moves_ite (forwardBy_moves _ _ _ hb) (forwardBy_moves _ _ _ hb)

/-- What a peer's frame may change at its first meeting, the judgement of a CLAIM included. -/
def takeInPieces : List Piece := [.peers, .notices, .withdrawals]

theorem isFor_iff (w : Withdrawal) (o i : Nat) : w.isFor o i = true ↔ w.owner = o ∧ w.claimId = i := by
  simp [Withdrawal.isFor]

/-- A change of entries known by one pair, which is not an own one. -/
theorem updatePeer_moves (s : State) {o i : Nat} {f : Withdrawal → Withdrawal} (h : o ≠ s.own)
    (howner : ∀ w, w.owner = o → (f w).owner = o) (hid : ∀ w, w.claimId = i → (f w).claimId = i) :
    Moves g [.withdrawals] s (s.updateEntries (fun w => w.isFor o i) f) := by
  refine updateEntries_moves s (fun w _ hw => ?_) (fun w _ hw => ?_) (fun w _ hw ho => ?_)
    (fun w _ hw ho => ?_)
  all_goals obtain ⟨hwo, hwi⟩ := (isFor_iff ..).mp hw
  · rw [howner w hwo, hwo]
  · rw [hid w hwi, hwi]
  · exact absurd (hwo.symm.trans ho) h
  · exact absurd (hwo.symm.trans ho) h

theorem takeCarried_moves {owner : Nat} {s : State} (h : owner ≠ s.own) (c : Carried) :
    Moves g [.withdrawals, .notices] s (s.takeCarried owner c) := by
  unfold State.takeCarried
  split
  · exact .mono (updatePeer_moves s h (fun _ hw => hw) fun _ hw => hw) rfl
  · exact addPeerEntry_moves s h

theorem reconcile_moves {owner : Nat} {s : State} (h : owner ≠ s.own) (cs : List Carried)
    (i : Option Nat) : Moves g [.withdrawals, .notices] s (s.reconcile owner cs i) := by
  refine moves_then (f := [.withdrawals, .notices]) ?_ (removeEntries_moves ..) rfl rfl
  induction cs generalizing s with
  | nil => exact moves_refl ..
  | cons c cs ih =>
    have h1 : Moves g [.withdrawals, .notices] s (s.takeCarried owner c) := takeCarried_moves h c
    exact .trans h1 (ih (by rwa [moves_own h1]))

theorem takeStatus_moves (s : State) {b : List Byte} (h : frOrigin b ≠ s.own) :
    Moves g takeInPieces s (s.takeStatus b) := by
  unfold State.takeStatus
  refine moves_ite (moves_refl ..) ?_
  have h1 : Moves g [.peers, .notices] s (s.refreshPeer (frOrigin b) (statusEntry b)) :=
    refreshPeer_moves s _ rfl
  exact moves_then h1 (reconcile_moves (by rwa [moves_own h1]) ..) rfl rfl

theorem takeGrant_moves (s : State) {b : List Byte} (h : frOrigin b ≠ s.own) :
    Moves g [.withdrawals, .notices] s (s.takeGrant b) := by
  unfold State.takeGrant
  exact moves_ite (.mono (updatePeer_moves s h (fun _ hw => hw) fun _ hw => hw) rfl)
    (addPeerEntry_moves s h)

theorem takeForced_moves (s : State) {b : List Byte} (h : frOrigin b ≠ s.own) :
    Moves g [.withdrawals, .notices] s (s.takeForced b) := by
  unfold State.takeForced
  exact moves_ite (.mono (updatePeer_moves s h (fun _ hw => hw) fun _ hw => hw) rfl)
    (addPeerEntry_moves s h)

theorem letPass_moves (s : State) {b : List Byte} (h : frOrigin b ≠ s.own) :
    Moves g [.withdrawals, .notices] s (s.letPass b).1 := by
  unfold State.letPass
  simp only
  split
  · exact .mono (updatePeer_moves s h (fun _ _ => rfl) fun _ _ => rfl) rfl
  · split
    · exact loseEntry_moves ..
    · exact .mono (setList_moves s (entriesFrom_addPeer h (listFull_eq_false ‹_›))) rfl

theorem takeClaim_moves (s : State) {b : List Byte} (h : frOrigin b ≠ s.own) :
    Moves g (takeInPieces ++ evalPieces) s (s.takeClaim b).1 := by
  have h1 : Moves g (takeInPieces ++ evalPieces) s
      (s.refreshPeer (frOrigin b) (claimEntry b (s.peer (frOrigin b)))).evalMargin :=
    moves_then (refreshPeer_moves s _ rfl) (evalMargin_moves _) rfl rfl
  unfold State.takeClaim
  simp only
  split
  · exact h1
  · exact moves_then h1 (letPass_moves _ (by rwa [moves_own h1])) rfl rfl

theorem takeIn_moves (s : State) {b : List Byte} (hb : 11 ≤ b.length) (h : frOrigin b ≠ s.own) :
    Moves g (takeInPieces ++ evalPieces) s (s.takeIn b).1 := by
  unfold State.takeIn
  simp only
  split
  · exact .mono (takeStatus_moves s h) rfl
  · refine takeClaim_moves s ?_
    unfold frOrigin
    rwa [byteAt_setVisited (by omega) (by decide) (by decide)]
  · exact .mono (takeGrant_moves s h) rfl
  · exact .mono (removeEntries_moves ..) rfl
  · exact .mono (takeForced_moves s h) rfl
  · exact moves_refl ..

/-- A frame goes on as long as it came. -/
theorem length_takeIn (s : State) {b : List Byte} (hb : b ≠ []) : (s.takeIn b).2.length = b.length := by
  have hv := length_setVisited s.own hb
  have hv' : setVisited b s.own ≠ [] := setFrameByte_ne_nil _ _ _
  unfold State.takeIn
  simp only
  split
  · exact hv
  · unfold State.takeClaim
    simp only
    split
    · rw [length_writeObjection _ _ hv', hv]
    · unfold State.letPass
      simp only
      split
      · exact hv
      · split
        · rw [length_writeObjection _ _ hv', hv]
        · exact hv
  all_goals exact hv

theorem foundDuplicate_moves (s : State) (p : Port) (b : List Byte) :
    Moves g [.duplicate, .notices] s (s.foundDuplicate p b) := by
  have h : Moves g [.duplicate] s (s.onView (fun v => { v with duplicate := true })) := by
    refine .plain ?_ rfl
    constructor; intro q hq; cases q <;> simp_all [Piece.kept, State.onView]
  unfold State.foundDuplicate
  split
  · exact moves_refl ..
  · exact moves_refl ..
  · exact moves_refl ..
  · exact moves_ite (moves_refl ..) (moves_then h (notify_moves ..) rfl rfl)

/-- What a completed frame may change. -/
def framePieces : List Piece :=
  [.portA, .portB, .inFlight, .duplicate] ++ takeInPieces ++ evalPieces ++ settlePieces

/-- The frame `b` is the own CLAIM outstanding, come home to be granted. -/
def State.bringsGrant (s : State) (b : List Byte) : Prop :=
  frOrigin b = s.own ∧ frameKindOf (byteAt b 0) = some .claim ∧ s.grantsOn b

theorem sameView_own {s t : State} (h : s.SameView t) : t.own = s.own := by simp only [State.own, h.cfg]

theorem sameView_peersIn {s t : State} (h : s.SameView t) (e : EntryState) :
    t.peersIn e = s.peersIn e := by
  simp only [State.peersIn, State.peerNumbers, State.peer, sameView_own h, h.peers]

/-- The re-check of a claim looks at the view, the marks against it and the margin state. -/
theorem sameView_recheck {s t : State} (h : s.SameView t) (hd : t.view.duplicate = s.view.duplicate)
    (hi : t.claims.incomplete = s.claims.incomplete) (hm : t.view.margin = s.view.margin) (w : Hyp) :
    t.recheck w = s.recheck w := by
  have : t.viewObstacle = s.viewObstacle := by simp only [State.viewObstacle, hd, hi, hm]
  simp only [State.recheck, this, sameView_policy h, sameView_totals h]

theorem sameView_returnFailure {s t : State} (h : s.SameView t) (hd : t.view.duplicate = s.view.duplicate)
    (hi : t.claims.incomplete = s.claims.incomplete) (hm : t.view.margin = s.view.margin) (q : Request)
    (b : List Byte) : t.returnFailure q b = s.returnFailure q b := by
  have hmissing : t.missingPeers (frVisited b) = s.missingPeers (frVisited b) := by
    simp only [State.missingPeers, sameView_peersIn h]
  unfold State.returnFailure State.ownHyp
  rw [hmissing, h.cfg, sameView_own h, sameView_recheck h hd hi hm]

theorem grantsOn_congr {s t : State} (h : s.SameView t) (hc : t.claims = s.claims)
    (hd : t.view.duplicate = s.view.duplicate) (hm : t.view.margin = s.view.margin) (b : List Byte) :
    t.grantsOn b ↔ s.grantsOn b := by
  simp only [State.grantsOn, hc, sameView_returnFailure h hd (congrArg _ hc) hm]

/-- The in-flight list is no part of the view. -/
theorem sameView_endFlight (s : State) (tag : Nat) : s.SameView (s.endFlight tag) :=
  ⟨rfl, rfl, rfl, rfl, rfl⟩

theorem comeHome_moves (s : State) (b : List Byte) (ho : frOrigin b = s.own)
    (hg : g.granted = true ∨ ¬ s.bringsGrant b) : Moves g framePieces s (s.comeHome b) := by
  unfold State.comeHome
  simp only
  split
  · rename_i hk
    refine moves_then (endFlight_moves ..) (claimReturned_moves _ b (hg.imp_right fun hn hgr => ?_)) rfl rfl
    exact hn ⟨ho, hk, (grantsOn_congr (sameView_endFlight s _) rfl rfl rfl b).mp hgr⟩
  · exact .mono (endFlight_moves ..) rfl

theorem handleOwn_moves (s : State) (p : Port) {b : List Byte} (hb : 11 ≤ b.length)
    (ho : frOrigin b = s.own) (hg : g.granted = true ∨ ¬ s.bringsGrant b) :
    Moves g framePieces s (s.handleOwn p b) := by
  unfold State.handleOwn
  split
  · cases p with
    | a => exact comeHome_moves s b ho hg
    | b => exact moves_ite (.mono (forward_moves s .b hb) rfl) (comeHome_moves s b ho hg)
  · exact moves_then (foundDuplicate_moves ..) (forward_moves _ p hb) rfl rfl

theorem handleFrame_moves (s : State) (p : Port) {b : List Byte} (hb : 11 ≤ b.length)
    (hg : g.granted = true ∨ ¬ s.bringsGrant b) : Moves g framePieces s (s.handleFrame p b) := by
  unfold State.handleFrame
  split
  · exact .mono (forward_moves s p hb) rfl
  · split
    · exact handleOwn_moves s p hb ‹_› hg
    · refine moves_ite (.mono (forward_moves s p hb) rfl) ?_
      have hlen := length_takeIn s (b := b) (by rintro rfl; simp at hb)
      exact moves_then (takeIn_moves s hb ‹_›) (forward_moves _ p (by rw [hlen]; exact hb)) rfl rfl

theorem checkFrame_moves (s : State) (p : Port) (b : List Byte) (hg : g.granted = true ∨ ¬ s.bringsGrant b) :
    Moves g framePieces s (s.checkFrame p b) := by
  unfold State.checkFrame
  split
  · exact moves_refl ..
  · split
    · exact handleFrame_moves s p (length_of_frameOk ‹_›) hg
    · exact .mono (onPort_moves_of_fwd s p fun _ => rfl) rfl

/-! ### The host port -/

/-- Pieces of the host port other than the notices. -/
theorem onHost_moves (s : State) {f : HostPort → HostPort} (h : (f s.host).notices = s.host.notices
      ∧ (f s.host).overflow = s.host.overflow ∧ (f s.host).irq = s.host.irq) :
    Moves g [.command, .reset, .transaction, .hostCounts] s (s.onHost f) := by
  refine .plain ?_ rfl
  constructor; intro p hp; cases p <;> simp_all [Piece.kept, State.onHost]

/-- What a transaction may change. -/
def portPieces : List Piece := [.command, .reset, .transaction, .hostCounts, .intake, .notices]

theorem closeRead_moves (s : State) (b : List Byte) : Moves g portPieces s (s.closeRead b) :=
  .mono (onHost_moves s ⟨rfl, rfl, rfl⟩) rfl

theorem endEarly_moves (s : State) : Moves g portPieces s s.endEarly := by
  unfold State.endEarly
  split
  · exact moves_refl ..
  · have h : Moves g portPieces s (s.onHost (fun h => { h with txn := none })) :=
      .mono (onHost_moves s ⟨rfl, rfl, rfl⟩) rfl
    simp only
    split
    · refine moves_then (f := portPieces) ?_ (onIntake_moves ..) rfl rfl
      split
      · exact moves_then h (onIntake_moves ..) rfl rfl
      · exact h
    · exact moves_then h (onHost_moves _ ⟨rfl, rfl, rfl⟩) rfl rfl
    all_goals exact closeRead_moves ..

theorem openTxn_moves (s : State) (k : TxnKind) : Moves g portPieces s (s.openTxn k) := by
  have h : ∀ t, Moves g portPieces s (s.onHost (fun h => { h with txn := some t })) :=
    fun t => .mono (onHost_moves s ⟨rfl, rfl, rfl⟩) rfl
  unfold State.openTxn
  simp only
  split
  · exact moves_then (h _) (onIntake_moves ..) rfl rfl
  all_goals exact h _

theorem opened_moves (s : State) (k : TxnKind) : Moves g portPieces s (s.opened k) :=
  moves_ite (moves_refl ..) (openTxn_moves ..)

theorem measWritten_moves (s : State) (b : List Byte) : Moves g portPieces s (s.measWritten b) := by
  have h : Moves g portPieces s (s.onHost (fun h => { h with txn := none })) :=
    .mono (onHost_moves s ⟨rfl, rfl, rfl⟩) rfl
  unfold State.measWritten
  split
  · exact moves_then h (onIntake_moves ..) rfl rfl
  · exact h
  all_goals exact moves_refl ..

theorem cmdWritten_moves (s : State) (b : List Byte) : Moves g portPieces s (s.cmdWritten b) := by
  refine .mono (onHost_moves s ?_) rfl
  split <;> exact ⟨rfl, rfl, rfl⟩

theorem replyTaken_moves (s : State) : Moves g portPieces s s.replyTaken := by
  unfold State.replyTaken
  split
  · exact moves_then (closeRead_moves ..) (onHost_moves _ ⟨rfl, rfl, rfl⟩) rfl rfl
  · exact closeRead_moves ..
  all_goals exact moves_refl ..

/-- The head leaves the queue, and NOTICE_IRQ follows (R188). -/
theorem noticeTaken_moves (s : State) : Moves g portPieces s s.noticeTaken := by
  unfold State.noticeTaken
  split
  · rename_i n _
    refine moves_then (closeRead_moves s (noticeRecord (some n))) (.notices ?_ ?_) rfl rfl
    · constructor; intro p hp; cases p <;> simp_all [Piece.kept, State.onHost]
    · intro hs
      obtain ⟨hl, ho, _⟩ := (noticesOk_iff _).mp hs
      exact (noticesOk_iff _).mpr ⟨(List.drop_sublist ..).length_le.trans hl, ho, rfl⟩
  · exact closeRead_moves ..
  all_goals exact moves_refl ..

theorem statusTaken_moves (s : State) : Moves g portPieces s s.statusTaken := by
  unfold State.statusTaken
  split
  · rename_i w _
    refine moves_then (closeRead_moves s w.bytes) (.notices ?_ ?_) rfl rfl
    · constructor; intro p hp; cases p <;> simp_all [Piece.kept, State.onHost]
    · intro hs
      obtain ⟨hl, ho, hi⟩ := (noticesOk_iff _).mp hs
      exact (noticesOk_iff _).mpr ⟨hl, (Nat.sub_le ..).trans ho, hi⟩
  all_goals exact moves_refl ..

/-! ### Readiness and the phase capture -/

/-- What a readiness test may change (R103). -/
def readyPieces : List Piece :=
  [.sequencer, .requests, .lamp, .claimIds, .slot, .ownQueue, .notices]

theorem testReady_moves (s : State) : Moves g readyPieces s s.testReady := by
  unfold State.testReady
  refine moves_ite ?_ (moves_refl ..)
  have h : Moves g readyPieces s ((s.onSeq (fun q => { q with syncAt := none })).requestClaim
      .sequencer .bypass .cabinet (s.seq.planned.getD 0)).2 :=
    moves_then (onSeq_moves s rfl) (requestClaim_moves ..) rfl rfl
  simp only
  split
  · exact moves_then (moves_then h (goOnline_moves _) (d := readyPieces) rfl rfl) (notify_moves ..) rfl rfl
  · exact moves_then (moves_then h (goOnline_moves _) (d := readyPieces) rfl rfl) (notify_moves ..) rfl rfl
  · exact moves_then (moves_then h (goto_moves ..) (d := readyPieces) rfl rfl) (onSeq_moves _ rfl) rfl rfl

theorem formBypOk_moves (s : State) : Moves g readyPieces s s.formBypOk :=
  moves_then (onSeq_moves s rfl) (testReady_moves _) rfl rfl

theorem onValidity_moves (s0 s : State) : Moves g readyPieces s (State.onValidity s0 s) :=
  moves_ite (moves_refl ..) (formBypOk_moves _)

/-- What an event of the phase capture may change. -/
def phasePieces : List Piece := .phase :: .withdrawals :: readyPieces

theorem evalCycle_moves (s : State) : Moves g phasePieces s s.evalCycle := by
  unfold State.evalCycle
  have h1 : Moves g phasePieces s (s.onPhase (Phase.cycle s.cfg.slipMax s.cfg.syncWindow s.counter)) :=
    .mono (onPhase_moves ..) rfl
  have h2 := Moves.trans h1 (Moves.mono (lockRecheck_moves _) (e := phasePieces) rfl)
  exact moves_ite (moves_ite (moves_then h2 (testReady_moves _) rfl rfl) h2) h1

theorem wrapCounter_moves (s : State) : Moves g phasePieces s s.wrapCounter := by
  unfold State.wrapCounter
  have h : ∀ f, Moves g phasePieces s (State.onValidity s (s.onPhase f)) :=
    fun f => moves_then (onPhase_moves ..) (onValidity_moves ..) rfl rfl
  exact moves_ite (moves_then (h _) (lockRecheck_moves _) rfl rfl) (h _)

/-! ### The take-in and the watchdog -/

/-- A change of one record at a take-in, which forms the energy a machine with its host not silent reports. -/
theorem sampleString_moves (hg : g.sampled = true) (s : State) (k : Nat) {f : StringRec → StringRec}
    (hf : ∀ x : StringRec, x.Goes g.renewed (s.params k) false (f x)) : Moves g [.strings] s (s.onString k f) := by
  have hget : ∀ (j : Nat) (x y : StringRec), s.strings[j]? = some x → (s.onString k f).strings[j]? = some y →
      x.Goes g.renewed (s.params j) false y := fun j x y hx hy => by
    have hy : (s.strings.modify k f)[j]? = some y := hy
    rw [List.getElem?_modify, hx] at hy
    by_cases hj : k = j
    · subst hj
      simp only [if_true] at hy
      cases hy
      exact hf x
    · simp only [if_neg hj] at hy
      cases hy
      exact goes_refl ..
  refine .strings (onString_frame ..) ⟨List.length_modify .., fun j x y hx hy => (hget j x y hx hy).keeps,
    fun hs j x y hx hy => ?_⟩
  have hsilent : s.hostSilent = false := hs.resolve_left (by rw [hg]; decide)
  rw [hsilent]
  exact (hget j x y hx hy).formed

/-- The state behind the counting of string `k` at a take-in: captures, the end of a test, the new baseline. -/
def State.afterCount (s : State) (base : Bool) (k : Nat) (h : Handed) : State :=
  ((if base then s else s.tryCapture k h).testEndCheck k h).onString k (StringRec.setBaseline h)

theorem afterCount_moves (base : Bool) (k : Nat) (h : Handed) (s : State) :
    Moves g testEndPieces s (s.afterCount base k h) := by
  unfold State.afterCount
  refine moves_then (f := testEndPieces) ?_ (onString_moves _ k fun _ _ => goes_of_figures rfl) rfl rfl
  refine moves_then (f := testEndPieces) ?_ (testEndCheck_moves ..) rfl rfl
  exact .mono (moves_ite (moves_refl ..) (tryCapture_moves ..)) rfl

/-- The record of a string from JOIN onward behind its flags and its counting step, which forms its energy. -/
def StringRec.counted (p : StringParams) (base running : Bool) (dt : Nat) (h : Hold) (x : Sample) (r : StringRec) :
    StringRec := (r.takeFlags h x).countIn p base running dt (handedOf h x)

theorem onString_onString (s : State) (k : Nat) (f f' : StringRec → StringRec) :
    (s.onString k f).onString k f' = s.onString k (fun r => f' (f r)) := by
  unfold State.onString
  rw [withStrings_strings, List.modify_modify_eq]
  rfl

/-- What a take-in does for one string from JOIN onward: its sample, flags and counting in one change of its record. -/
theorem takeString_joined {s : State} (hj : s.joined = true) (f : MeasFrame) (base : Bool) (dt k : Nat) :
    let x := f.samples.getD k ⟨false, 0, 0, 0⟩
    let h := (s.intake.holds.getD k Hold.blank).after x
    s.takeString f base dt k = ((s.onIntake (fun i => { i with holds := i.holds.set k h })).onString k
      (StringRec.counted (s.params k) base (s.job.state == .running && s.job.k == k) dt h x)).afterCount base k
        (handedOf h x) := by
  intro x h
  refine (if_pos hj).trans ?_
  show (((s.onIntake (fun i => { i with holds := i.holds.set k h })).onString k (StringRec.takeFlags h x)).onString k
    (StringRec.countIn (s.params k) base (s.job.state == .running && s.job.k == k) dt (handedOf h x))).afterCount base k
      (handedOf h x) = _
  rw [onString_onString]
  rfl

theorem takeString_unjoined {s : State} (hj : s.joined = false) (f : MeasFrame) (base : Bool) (dt k : Nat) :
    let x := f.samples.getD k ⟨false, 0, 0, 0⟩
    let h := (s.intake.holds.getD k Hold.blank).after x
    s.takeString f base dt k = (s.onIntake (fun i => { i with holds := i.holds.set k h })).onString k
      (fun r => ((r.takeFlags h x).takeTemp false (handedOf h x).temperature).formAvail false) := by
  intro x h
  refine (if_neg (ne_true_of_eq_false hj)).trans ?_
  exact onString_onString ..

theorem takeFlags_fields (h : Hold) (y : Sample) (x : StringRec) :
    ({ x with unmeasured := (x.takeFlags h y).unmeasured, tempSuspect := (x.takeFlags h y).tempSuspect } : StringRec)
      = x.takeFlags h y := by
  unfold StringRec.takeFlags
  split
  · rfl
  · split <;> rfl

theorem takeTemp_figures (joined : Bool) (z : Int) (x : StringRec) : (x.takeTemp joined z).figures = x.figures := by
  unfold StringRec.takeTemp
  split
  · rfl
  · split <;> rfl

/-- The figures that flags leave. -/
theorem ranged_flags {p : StringParams} {x : StringRec} (h : x.Ranged p) (hold : Hold) (y : Sample) :
    (x.takeFlags hold y).Ranged p := by
  rw [← takeFlags_fields]
  exact ⟨h.q, h.soc, h.soh, h.u, h.rho, h.eAvail, h.eUsable, h.resList⟩

theorem ages_flags (x : StringRec) (hold : Hold) (y : Sample) : x.Ages (x.takeFlags hold y) := by
  rw [← takeFlags_fields]
  exact ages_of_counts rfl rfl rfl

theorem goes_unjoined {r : Bool} (p : StringParams) (hold : Hold) (y : Sample) (z : Int) (x : StringRec) :
    x.Goes r p false (((x.takeFlags hold y).takeTemp false z).formAvail false) := by
  have htemp := goes_of_figures (r := r) (p := p) (silent := false) (takeTemp_figures false z (x.takeFlags hold y))
  have havail := goes_formAvail (r := r) (p := p) (silent := false) ((x.takeFlags hold y).takeTemp false z)
  have hboth := goes_trans htemp havail
  exact ⟨⟨fun h => hboth.keeps.ranged (ranged_flags h ..), fun hg =>
    ages_trans (ages_flags x hold y) (hboth.keeps.ages hg)⟩, fun _ => rfl⟩

theorem countRun_figures (threshold : Nat) (i : Int) (dt : Nat) (x : StringRec) :
    (x.countRun threshold i dt).figures = x.figures := by
  unfold StringRec.countRun
  simp only
  split <;> split <;> rfl

/-- A record with the charge of a counting step counted (R11 to R14). -/
def StringRec.charged (p : StringParams) (i : Int) (dt : Nat) (x : StringRec) : StringRec :=
  { x with
    rem := (((x.rem : Int) + chargeIncrement p.eta i dt) % 10000).toNat
    q := min x.qFull ((x.q : Int) + x.wholeAs p i dt).toNat
    soc := min x.qFull ((x.q : Int) + x.wholeAs p i dt).toNat * 10000 / x.qFull
    deepCount := if 2000 ≤ x.soc ∧ min x.qFull ((x.q : Int) + x.wholeAs p i dt).toNat * 10000 / x.qFull < 2000
      then satAdd 16 x.deepCount 1 else x.deepCount
    tDah := if x.wholeAs p i dt < 0 then satAdd 32 x.tDah ((x.tRem + x.deliveredAs p i dt) / 360) else x.tDah
    tRem := if x.wholeAs p i dt < 0 then (x.tRem + x.deliveredAs p i dt) % 360 else x.tRem }

theorem count_eq (p : StringParams) (silent : Bool) (i : Int) (dt : Nat) (x : StringRec) : x.count p silent i dt
    = ((x.charged p i dt).countRun p.dischThreshold i dt).formEnergy p silent := rfl

theorem ranged_charged {p : StringParams} {x : StringRec} (h : x.Ranged p) (i : Int) (dt : Nat) :
    (x.charged p i dt).Ranged p :=
  ⟨Nat.min_le_left _ _, soc_le (Nat.min_le_left _ _), h.soh, h.u, h.rho, h.eAvail, h.eUsable, h.resList⟩

theorem ages_charged (p : StringParams) (i : Int) (dt : Nat) (x : StringRec) : x.Ages (x.charged p i dt) where
  counted h := by
    refine ⟨h.aCal, ?_, ?_⟩
    · show (if _ then _ else _) ≤ _
      split
      · exact satAdd_le 32 _ _
      · exact h.tDah
    · show (if _ then _ else _) ≤ _
      split
      · exact satAdd_le 16 _ _
      · exact h.deepCount
  aCal _ := le_refl _
  tDah h := by
    show _ ≤ (if _ then _ else _)
    split
    · exact le_satAdd _ h.tDah
    · exact le_refl _
  deepCount h := by
    show _ ≤ (if _ then _ else _)
    split
    · exact le_satAdd _ h.deepCount
    · exact le_refl _

theorem ranged_energy {p : StringParams} {x : StringRec} (h : x.Ranged p) (silent : Bool) :
    (x.formEnergy p silent).Ranged p := ranged_formEnergy h.q h.soc h.soh h.u h.rho h.resList

/-- A counting step keeps the ranges and the order of the accumulators, and forms the energy. -/
theorem count_goes (r silent : Bool) (p : StringParams) (i : Int) (dt : Nat) (x : StringRec) :
    x.Keeps r p (x.count p silent i dt) ∧ (x.count p silent i dt).Formed silent := by
  have hrun := goes_of_figures (r := false) (p := p) (silent := silent)
    (countRun_figures p.dischThreshold i dt (x.charged p i dt))
  rw [count_eq]
  refine ⟨⟨fun h => ranged_energy (hrun.keeps.ranged (ranged_charged h i dt)) silent, fun _ => ?_⟩, rfl⟩
  exact ages_trans (ages_trans (ages_charged p i dt x) (hrun.keeps.ages rfl)) (ages_of_counts rfl rfl rfl)

theorem addDelivered_figures (n : Nat) (x : StringRec) : (x.addDelivered n).figures = x.figures := rfl

/-- What a take-in counts of a string: its figures stay in their ranges and its energy is formed (R35). -/
theorem countIn_goes (r : Bool) (p : StringParams) (base running : Bool) (dt : Nat) (h : Handed) (x : StringRec) :
    x.Keeps r p (x.countIn p base running dt h) ∧ (x.countIn p base running dt h).Formed false := by
  have htemp : ∀ y : StringRec, y.Goes r p false (y.takeTemp true h.temperature) := fun y =>
    goes_of_figures (takeTemp_figures ..)
  cases base with
  | true =>
    have hset := goes_setState (r := r) (p := p) (silent := false) { x with iRef := h.current } x.state
    have hiref := goes_of_figures (r := r) (p := p) (silent := false) (x := x) (y := { x with iRef := h.current }) rfl
    exact ⟨(goes_trans (goes_trans hiref hset) (htemp _)).keeps, (htemp _).formed rfl⟩
  | false =>
    obtain ⟨hkeeps, hformed⟩ := count_goes r false p h.current dt x
    cases running with
    | true =>
      have hadd := goes_of_figures (r := r) (p := p) (silent := false)
        (addDelivered_figures (x.deliveredAs p h.current dt) (x.count p false h.current dt))
      exact ⟨recordKeeps_trans hkeeps (goes_trans hadd (htemp _)).keeps, (goes_trans hadd (htemp _)).formed hformed⟩
    | false => exact ⟨recordKeeps_trans hkeeps (htemp _).keeps, (htemp _).formed hformed⟩

theorem counted_goes (r : Bool) (p : StringParams) (base running : Bool) (dt : Nat) (h : Hold) (y : Sample)
    (x : StringRec) : x.Goes r p false (x.counted p base running dt h y) := by
  obtain ⟨hkeeps, hformed⟩ := countIn_goes r p base running dt (handedOf h y) (x.takeFlags h y)
  exact ⟨⟨fun hx => hkeeps.ranged (ranged_flags hx h y), fun hr => ages_trans (ages_flags x h y) (hkeeps.ages hr)⟩,
    fun _ => hformed⟩


/-- What the take-in of one string may change. -/
def sampledPieces : List Piece := .intake :: testEndPieces

theorem takeString_moves (hg : g.sampled = true) (f : MeasFrame) (base : Bool) (dt : Nat) (s : State) (k : Nat) :
    Moves g sampledPieces s (s.takeString f base dt k) := by
  cases hj : s.joined with
  | true =>
    rw [takeString_joined hj]
    exact moves_then (moves_then (onIntake_moves ..) (sampleString_moves hg _ k (by intro x; exact counted_goes ..))
      (d := sampledPieces) rfl rfl) (afterCount_moves ..) rfl rfl
  | false =>
    rw [takeString_unjoined hj]
    exact moves_then (onIntake_moves ..) (sampleString_moves hg _ k (by intro x; exact goes_unjoined ..)) rfl rfl

theorem feedDog_moves (s : State) : Moves g [.watchdog, .unsupervisedLine] s s.feedDog := by
  unfold State.feedDog
  exact moves_ite (moves_then (withDog_moves ..) (unsupervisedLine_moves ..) rfl rfl) (moves_refl ..)

theorem sinceTakeIn_moves (s : State) : Moves g [.freeCount] s s.sinceTakeIn.2 := by
  unfold State.sinceTakeIn
  split
  · exact moves_refl ..
  · exact draw_moves s

theorem lastCounterValue_moves (s : State) : Moves g [.freeCount] s s.lastCounterValue.2 := by
  unfold State.lastCounterValue
  split
  · exact moves_refl ..
  · exact draw_moves s

/-- What the body of a take-in may change. -/
def handPieces : List Piece := .intake :: evalPieces ++ readyPieces

/-- What a take-in may change. -/
def intakePieces : List Piece := [.watchdog, .unsupervisedLine, .freeCount] ++ handPieces

theorem handOver_moves (hg : g.sampled = true) (f : MeasFrame) (base : Bool) (dt : Nat) (s : State) :
    Moves g handPieces s (s.handOver f base dt) := by
  unfold State.handOver
  simp only
  have h1 : Moves g sampledPieces s
      ((List.range s.strings.length).foldl (State.takeString f base dt) s) :=
    foldl_moves (takeString_moves hg f base dt) _ s
  have h2 := moves_ite (c := s.joined = true) (moves_then h1 (onIntake_moves _ fun i =>
    { i with baselineNext := false }) (d := sampledPieces) rfl rfl) h1
  exact moves_then (moves_then h2 (evalMargin_moves _) (d := handPieces) rfl rfl)
    (formBypOk_moves _) rfl rfl

theorem takeFrame_moves (hg : g.sampled = true) (f : MeasFrame) (s : State) : Moves g intakePieces s (s.takeFrame f) := by
  unfold State.takeFrame
  simp only
  have hfed : ∀ (t : State) (i : Intake → Intake), Moves g intakePieces t (t.onIntake i).feedDog :=
    fun t i => moves_then (onIntake_moves ..) (feedDog_moves _) rfl rfl
  split
  · refine moves_then (f := intakePieces) ?_ (raise_moves ..) rfl rfl
    refine moves_then (f := intakePieces) ?_ (evalMargin_moves _) rfl rfl
    refine moves_then (f := intakePieces) ?_ (handOver_moves hg ..) rfl rfl
    exact moves_then (sinceTakeIn_moves s) (hfed _ _) rfl rfl
  · exact moves_then (hfed _ _) (handOver_moves hg ..) rfl rfl

theorem examine_moves (hg : g.sampled = true) (s : State) (i : Nat) : Moves g intakePieces s (s.examine i) := by
  have hrole : ∀ r, Moves g intakePieces s (s.setRole i r) := fun r => .mono (onIntake_moves ..) rfl
  unfold State.examine
  simp only
  refine moves_ite (moves_ite ?_ ?_) (hrole _)
  · exact moves_then (hrole _) (onIntake_moves ..) rfl rfl
  · exact .trans (hrole _) (takeFrame_moves hg ..)

theorem formAllAvail_moves (s : State) : Moves g [.strings] s s.formAllAvail :=
  mapRecords_moves s _ fun _ x _ => goes_formAvail x

theorem dogNotice_moves (s : State) (k : NoticeKind) :
    Moves g [.freeCount, .notices] s (s.dogNotice k) :=
  moves_then (.trans (lastCounterValue_moves s) (sinceTakeIn_moves _)) (raise_moves ..) rfl rfl

/-- What an expiry of the watchdog may change. -/
def dogPieces : List Piece := [.intake, .watchdog, .unsupervisedLine, .freeCount] ++ evalPieces

theorem goStale_moves (s : State) : Moves g dogPieces s s.goStale := by
  unfold State.goStale
  simp only
  refine moves_then (f := dogPieces) ?_ (dogNotice_moves ..) rfl rfl
  refine moves_then (f := dogPieces) ?_ (evalMargin_moves _) rfl rfl
  refine moves_then (f := dogPieces) ?_ (abortTest_moves ..) rfl rfl
  refine moves_then (f := dogPieces) ?_ (onIntake_moves ..) rfl rfl
  exact moves_then (withDog_moves ..) (formAllAvail_moves _) rfl rfl

theorem goUnsupervised_moves (s : State) : Moves g dogPieces s s.goUnsupervised := by
  unfold State.goUnsupervised
  refine moves_then (f := dogPieces) ?_ (dogNotice_moves ..) rfl rfl
  refine moves_then (f := dogPieces) ?_ (evalMargin_moves _) rfl rfl
  exact moves_then (withDog_moves ..) (unsupervisedLine_moves ..) rfl rfl

/-! ### The ageing tick -/

theorem tickString_moves (day : Bool) (s : State) (k : Nat) :
    Moves g [.strings, .notices] s (s.tickString day k) := by
  unfold State.tickString
  cases day with
  | true =>
    simp only [if_true, onString_onString]
    exact onString_recompute_moves s k (fun _ h => h) fun _ x => ages_trans (ages_tick x) (ages_of_counts rfl rfl rfl)
  | false => exact onString_recompute_moves s k (fun _ h => h) fun _ x => ages_tick x

theorem wholeTick_moves (s : State) : Moves g [.strings, .notices, .ticks] s s.wholeTick :=
  moves_then (foldl_moves (tickString_moves _) _ s) (withTicks_moves ..) rfl rfl

/-! ### JOIN -/

/-- What the take-up of a position may change (R120). -/
def takeUpPieces : List Piece := .claimIds :: movePieces

theorem takePosition_moves (s : State) : Moves g takeUpPieces s s.takePosition := by
  unfold State.takePosition
  simp only
  split
  · exact moves_refl ..
  · exact moves_then (moves_then (recordForced_moves s) (notify_moves ..) (d := takeUpPieces) rfl rfl)
      (enterStatic_moves ..) rfl rfl
  · exact moves_then (moves_then (moves_then (enterForced_moves s) (notify_moves ..) (d := takeUpPieces)
      rfl rfl) (enterMaint_moves ..) (d := takeUpPieces) rfl rfl) (announceForced_moves _) rfl rfl

/-- What JOIN may change. -/
def joinPieces : List Piece := [.startup, .watchdog, .ticks, .intake] ++ takeUpPieces ++ evalPieces

theorem joinFloor_moves (s : State) : Moves g joinPieces s s.joinFloor := by
  unfold State.joinFloor
  refine moves_then (f := joinPieces) ?_ (markStatus_moves _) rfl rfl
  refine moves_then (f := joinPieces) ?_ (onSeq_moves _ rfl) rfl rfl
  refine moves_then (f := joinPieces) ?_ (onIntake_moves ..) rfl rfl
  refine moves_then (f := joinPieces) ?_ (mapRecords_moves _ _ fun _ _ _ => goes_of_figures rfl) rfl rfl
  refine moves_then (f := joinPieces) ?_ (withTicks_moves ..) rfl rfl
  refine moves_then (f := joinPieces) ?_ (withDog_moves ..) rfl rfl
  refine moves_then (f := joinPieces) ?_ (evalMargin_moves _) rfl rfl
  exact moves_then (onStartup_moves ..) (takePosition_moves _) rfl rfl

/-! ### The sequencer's events -/

/-- What a forced withdrawal may change (R110, R118). -/
def forcedPieces : List Piece := takeUpPieces ++ settlePieces

theorem forcedSteps_moves (s : State) : Moves g forcedPieces s s.forcedSteps := by
  have h : Moves g forcedPieces s (s.recordForced.abortTest .bypass) :=
    moves_then (recordForced_moves s) (abortTest_moves ..) rfl rfl
  unfold State.forcedSteps
  simp only
  split
  · exact moves_then (moves_then h (onSeq_moves _ rfl) (d := forcedPieces) rfl rfl) (notify_moves ..) rfl rfl
  · exact moves_then (moves_then h (onSeq_moves _ rfl) (d := forcedPieces) rfl rfl) (giveUp_moves ..) rfl rfl
  all_goals exact h

theorem forcedTransfer_moves (s : State) : Moves g forcedPieces s s.forcedTransfer := by
  unfold State.forcedTransfer
  simp only
  have h : ∀ f : Sequencer → Sequencer, (∀ q, (f q).state = q.state) →
      Moves g forcedPieces s (s.forcedSteps.onSeq f) :=
    fun f hf => moves_then (forcedSteps_moves s) (onSeq_moves _ (hf _)) rfl rfl
  have h1 := h (fun q => { q with history := historyWith s.now s.seq.history, planned := none })
    fun _ => rfl
  exact moves_ite
    (moves_then (moves_then h1 (notify_moves ..) (d := forcedPieces) rfl rfl) (enterStatic_moves ..) rfl rfl)
    (moves_then (moves_then h1 (notify_moves ..) (d := forcedPieces) rfl rfl) (enterStatic_moves ..) rfl rfl)

theorem forcedMaint_moves (s : State) : Moves g forcedPieces s s.forcedMaint := by
  have h : Moves g forcedPieces s (s.forcedSteps.onSeq (fun q => { q with planned := none })) :=
    moves_then (forcedSteps_moves s) (onSeq_moves _ rfl) rfl rfl
  exact moves_then (moves_then h (notify_moves ..) (d := forcedPieces) rfl rfl) (enterMaint_moves ..) rfl rfl

theorem switchToBypass_moves (s : State) : Moves g forcedPieces s s.switchToBypass := by
  unfold State.switchToBypass
  split
  · exact forcedTransfer_moves s
  · exact forcedTransfer_moves s
  · exact forcedTransfer_moves s
  · exact moves_then (notify_moves ..) (enterStatic_moves ..) rfl rfl
  all_goals exact moves_refl ..

/-- The own cabinet entry released, and the sequencer ONLINE. -/
theorem releaseOnline_moves (s : State) :
    Moves g transferPieces s (s.release WKind.isCabinet).goOnline :=
  moves_then (release_moves ..) (goOnline_moves _) rfl rfl

theorem switchToInverter_moves (s : State) : Moves g transferPieces s s.switchToInverter := by
  unfold State.switchToInverter
  split
  · exact moves_then (releaseOnline_moves s) (notify_moves ..) rfl rfl
  · exact moves_then (releaseOnline_moves s) (notify_moves ..) rfl rfl
  · exact moves_then (releaseOnline_moves s) (notify_moves ..) rfl rfl
  · exact moves_then (releaseOnline_moves s) (notify_moves ..) rfl rfl
  all_goals exact moves_refl ..

theorem maintCloses_moves (s : State) : Moves g forcedPieces s s.maintCloses := by
  unfold State.maintCloses
  split
  · exact forcedMaint_moves s
  · exact forcedMaint_moves s
  · exact forcedMaint_moves s
  · exact forcedMaint_moves s
  · exact .mono (enterMaint_moves ..) rfl
  · exact .mono (enterMaint_moves ..) rfl
  · exact .mono (enterMaint_moves ..) rfl
  · exact moves_refl ..
  · exact moves_then (notify_moves ..) (enterMaint_moves ..) rfl rfl

theorem maintOpens_moves (s : State) : Moves g forcedPieces s s.maintOpens := by
  unfold State.maintOpens
  refine moves_ite ?_ (moves_refl ..)
  have h : Moves g forcedPieces s (s.autoAction .maintLeft) := .mono (autoAction_moves ..) rfl
  refine moves_ite ?_ ?_
  · exact moves_then (moves_then h (leaveMaintKind_moves _) (d := forcedPieces) rfl rfl)
      (enterStatic_moves ..) rfl rfl
  · exact moves_then (moves_then h (releaseOnline_moves _) (d := forcedPieces) rfl rfl)
      (notify_moves ..) rfl rfl

theorem onSwitch_moves (s : State) {body : State → State} (h : Moves g forcedPieces s (body s)) :
    Moves g forcedPieces s (s.onSwitch body) := by
  unfold State.onSwitch
  split
  · exact moves_refl ..
  · exact moves_refl ..
  · exact .mono (onSeq_moves s rfl) rfl
  · exact h

theorem enterSyncWait_moves (s : State) (m : Nat) :
    Moves g [.sequencer, .requests, .lamp] s (s.enterSyncWait m) :=
  moves_then (goto_moves ..) (onSeq_moves _ rfl) rfl rfl

theorem startReturn_moves (s : State) (m : XferMode) :
    Moves g [.sequencer, .requests, .lamp] s (s.startReturn m) :=
  moves_then (moves_then (goto_moves ..) (onSeq_moves _ rfl) (d := [.sequencer, .requests, .lamp]) rfl rfl)
    (startXfer_moves ..) rfl rfl

/-! ### Visits -/

/-- A new visit stands at level NONE. -/
theorem createVisit_admission (s : State) (tech : Nat) (c : Scope) (planned : Nat) (a : Bool) :
    s.admissionOk = true → (s.createVisit tech c planned a).admissionOk = true := by
  intro _
  simp [State.createVisit, State.admissionOk, State.onVisit]

theorem openCabinet_moves (s : State) (tech planned : Nat) :
    Moves g [.visits, .lamp, .notices, .command] s (s.openCabinet tech planned) := by
  unfold State.openCabinet
  simp only
  refine moves_then (f := [.visits, .lamp, .notices]) ?_ (answer_moves ..) rfl rfl
  exact moves_then (onVisit_formPermit_moves s (createVisit_admission s tech .cabinet planned false))
    (visitOpenedNotice_moves _) rfl rfl

/-- A visit that is ADMITTING lights no lamp; it takes an empty place. -/
theorem createVisit_admitting_moves (s : State) (tech : Nat) (c : Scope) (planned : Nat)
    (h : s.visit.current = none) : Moves g [.visits] s (s.createVisit tech c planned true) := by
  refine onVisit_moves s ?_ (createVisit_admission s tech c planned true)
  simp [State.cabinetVisitOpen, State.onVisit, h]

theorem openString_moves (s : State) (tech k planned : Nat) (h : s.visit.current = none) :
    Moves g [.claimIds, .slot, .ownQueue, .visits, .command] s (s.openString tech k planned) := by
  have h1 := requestClaim_moves (g := g) s .visit .service (.string k) planned
  unfold State.openString
  simp only
  split
  · exact moves_then h1 (answer_moves ..) rfl rfl
  · exact moves_then h1 (answer_moves ..) rfl rfl
  · refine moves_then (f := [.claimIds, .slot, .ownQueue, .visits]) ?_ (answer_moves ..) rfl rfl
    refine moves_then h1 (createVisit_admitting_moves _ tech _ planned ?_) rfl rfl
    rw [show _ = s.visit from (moves_frame h1).kept .visits (by decide)]
    exact h

/-- A visit action: refused, or its effect, the record of it and the reply. -/
theorem visitAction_moves (s : State) (r : List Byte) (a b : Bool) (o : Visit → Option Nat)
    {effect : State → State} (k : ActionKind) {f e : List Piece} (h : Moves g f s (effect s))
    (hf : f.all e.contains = true) (hv : e.contains .visits = true) (hc : e.contains .command = true) :
    Moves g e s (s.visitAction r a b o effect k) := by
  have hans : ∀ c l, Moves g e s (s.answer c l) := fun c l => .mono (answer_moves ..) (by simpa using hc)
  unfold State.visitAction
  refine moves_ite (hans ..) (moves_ite (hans ..) (moves_ite (hans ..) ?_))
  split
  · exact hans ..
  · refine moves_ite (hans ..) (moves_ite (hans ..) (moves_ite (hans ..) (moves_ite (hans ..) ?_)))
    split
    · exact hans ..
    · refine moves_then (f := e) ?_ (answer_moves ..) (by simp) (by simpa using hc)
      exact moves_then h (addAction_moves ..) hf (by simpa using hv)

theorem replaceString_moves (hg : g.renewed = true) (s : State) (k : Nat) :
    Moves g [.strings, .notices] s (s.replaceString k) :=
  onString_recompute_moves s k (fun _ _ => Nat.zero_le _) fun hr => absurd (hr.symm.trans hg) (by decide)

theorem closeVisit_moves (s : State) (v : Visit) :
    Moves g [.withdrawals, .ownQueue, .visits, .lamp, .notices] s (s.closeVisit v) := by
  unfold State.closeVisit
  simp only
  refine moves_then (f := [.withdrawals, .ownQueue, .visits, .lamp]) ?_ (notify_moves ..) rfl rfl
  refine moves_then (f := [.withdrawals, .ownQueue]) ?_ (retireVisit_moves ..) rfl rfl
  split
  · exact release_moves ..
  · exact moves_refl ..

theorem cancelVisit_moves (s : State) (v : Visit) :
    Moves g (.command :: settlePieces) s (s.cancelVisit v) := by
  unfold State.cancelVisit
  refine moves_ite (.mono (answer_moves ..) rfl) ?_
  refine moves_then (f := settlePieces) ?_ (answer_moves ..) rfl rfl
  exact moves_then (onCurrent_moves s (by intro; rfl) (by intro; rfl) (by intros; rfl))
    (giveUp_moves ..) rfl rfl

theorem keyOut_moves (s : State) (b : Bool) (k : NoticeKind) (v : Visit) :
    Moves g [.visits, .notices] s ((s.onCurrent (fun v => { v with keyOut := b })).keyNotice k v) :=
  moves_then (onCurrent_moves s (by intro; rfl) (by intro; rfl) (by intros; rfl)) (notify_moves ..) rfl rfl

/-- Levels are raised of OPEN visits only. -/
theorem raiseLevel_moves (s : State) {l x : OverdueLevel} {n : Nat} (k : NoticeKind)
    (h : s.levelDue l n = true) : Moves g [.visits, .notices] s (s.raiseLevel x k) := by
  unfold State.raiseLevel
  split
  · rename_i v hv
    refine moves_then (onCurrent_moves s ?_ ?_ fun w hw ha => ?_) (notify_moves ..) rfl rfl
    · intro; rfl
    · intro; rfl
    obtain rfl : v = w := by simpa [hv] using hw
    simp [State.levelDue, hv, ha] at h
  · exact moves_refl ..

/-! ### Counters -/

/-- The counts of a port are no part of its buffers. -/
theorem clearCounts_moves (s : State) :
    Moves g [.portA, .portB, .ownQueue, .intake, .hostCounts, .command, .reset, .transaction] s
      s.clearCounts := by
  unfold State.clearCounts
  refine moves_then (f := [.portA, .portB, .ownQueue, .intake]) ?_ (onHost_moves _ ⟨rfl, rfl, rfl⟩) rfl rfl
  refine moves_then (f := [.portA, .portB, .ownQueue]) ?_ (onIntake_moves ..) rfl rfl
  refine .loop ?_ rfl id
  constructor; intro p hp; cases p <;> simp_all [Piece.kept, State.onLoop]

end Sys2Proof.Machine


/-! PROOFS. What a row of the table answers: nothing happens, or its event with the end that every event has;
and what every step is. -/

namespace Sys2Proof.Machine

-- One proof after another: side by side they ask for more thread stacks than there is memory for.
set_option Elab.async false

variable {g : Allows}

/-- The rows that bring the part to its reset state. -/
def resettingRows : List Instr := [.powerOn, .powerOff, .resetNFall, .resetNRise, .resetTakesEffect]

/-- `t` is `s` itself, or what an event of `s` ends in whose own effect `m` describes. -/
def State.Answers (s : State) (m : State → State → Prop) (t : State) : Prop :=
  t = s ∨ s.running = true ∧ ∃ u, m (s.withStatusDue false) u ∧ t = State.finish s u

theorem event_answers {s t : State} {c : Bool} {body : State → State} {m : State → State → Prop}
    (h : s.event c body = .next t)
    (hb : s.running = true → c = true → m (s.withStatusDue false) (body (s.withStatusDue false))) :
    s.Answers m t := by
  unfold State.event at h
  simp only [Host.Outcome.next.injEq] at h
  split at h
  · rename_i hc
    obtain ⟨hr, hc⟩ := Bool.and_eq_true_iff.mp hc
    exact .inr ⟨hr, _, hb hr hc, h.symm⟩
  · exact .inl h.symm

theorem command_answers {s t : State} {row : Instr} {body : List Byte → State → State}
    {m : State → State → Prop} (h : s.command row body = .next t)
    (hb : ∀ r d, s.running = true → s.host.slot = .pending r d → takenRow r = row →
      m (s.withStatusDue false) (body r (s.withStatusDue false))) : s.Answers m t := by
  unfold State.command at h
  split at h
  · rename_i r d hslot
    exact event_answers h fun hr hrow => hb r d hr hslot (by simpa using hrow)
  · exact .inl (Host.Outcome.next.inj h).symm
  · exact .inl (Host.Outcome.next.inj h).symm

theorem onPins_frame (s : State) (f : Pins → Pins) : s.ChangesOnly [.pins] (s.onPins f) := by
  constructor; intro p hp; cases p <;> simp_all [Piece.kept, State.onPins]

theorem lineEvent_answers {s t : State} {c : Bool} {set : Pins → Pins} {body : State → State}
    {m : State → State → Prop} (h : s.lineEvent c set body = .next t)
    (hb : (s.onPins set).running = true →
      m ((s.onPins set).withStatusDue false) (body ((s.onPins set).withStatusDue false))) :
    ∃ s', s.ChangesOnly [.pins] s' ∧ s'.Answers m t := by
  unfold State.lineEvent at h
  split at h
  · exact ⟨_, onPins_frame s set, event_answers h fun hr _ => hb hr⟩
  · exact ⟨s, changesOnly_refl .., .inl (Host.Outcome.next.inj h).symm⟩

theorem whenJoined_moves {f : List Piece} (s : State) {body : State → State}
    (h : s.joined = true → Moves g f s (body s)) (hc : f.contains .command = true) :
    Moves g f s (s.whenJoined body) := by
  unfold State.whenJoined
  split
  · exact h ‹_›
  · exact .mono (answer_moves ..) (by simpa using hc)

/-! ### The effect of each row -/

/-- The pieces that the event of a row may change before its end. -/
def rowPieces : Instr → List Piece
  | .powerOn | .powerOff | .resetNFall | .resetNRise | .resetTakesEffect => []
  | .imageReadComplete _ => [.startup, .image, .strings, .sequencer]
  | .imageReadFailed | .imageReadRetry => [.startup]
  | .startWindowExpiry => joinPieces
  | .join => .command :: joinPieces
  | .reset => [.command, .reset, .transaction, .hostCounts]
  | .loadAgeing => [.strings, .notices, .command]
  | .readString | .readFloor | .readView | .readWithdrawals | .readVisit | .unknownCommand => [.command]
  | .forgetStation => [.peers, .notices, .withdrawals, .command]
  | .readCounters =>
    [.portA, .portB, .ownQueue, .intake, .hostCounts, .command, .reset, .transaction, .freeCount]
  | .reqBypass => .command :: readyPieces
  | .reqReturn => [.sequencer, .requests, .lamp, .command]
  | .reqTest => [.claimIds, .slot, .ownQueue, .job, .command]
  | .abortTest => .command :: abortPieces
  | .openVisit => [.claimIds, .slot, .ownQueue, .visits, .lamp, .notices, .command]
  | .isolate | .restore => [.strings, .visits, .command]
  | .replace => [.strings, .notices, .visits, .command]
  | .note => [.visits, .command]
  | .closeVisit => .command :: settlePieces
  | .measWrite _ | .cmdWrite _ | .replyRead | .noticeRead | .statusRead | .badTransaction _
  | .transactionEndsEarly | .transactionBegins _ => portPieces
  | .measTakeIn => intakePieces
  | .takeInEnd => [.intake]
  | .symbolReceived _ _ | .lineBreak _ => linkPieces
  | .frameCompleted _ => framePieces
  | .transmitNextFrame _ => loopPieces
  | .inFlightTagExpiry _ => [.inFlight]
  | .statusPeriod => []
  | .peerStale _ | .peerLost _ => [.peers, .notices]
  | .provisionalHoldExpiry _ _ => [.withdrawals]
  | .claimTimerExpiry => settlePieces
  | .retryTimerExpiry => .claimIds :: settlePieces
  | .withdrawalOverdue _ => [.withdrawals, .notices]
  | .ageingTick | .dayBoundary => [.strings, .notices, .ticks]
  | .testLimitExpiry => testEndPieces
  | .hostStale | .unsupervised => dogPieces
  | .ssFbRise | .ssFbFall | .mbsClosedRise | .mbsClosedFall => forcedPieces
  | .invOkRise | .invOkFall | .confirmTimeout => transferPieces
  | .autoRetransfer | .syncFail => [.sequencer, .requests, .lamp, .notices]
  | .zcInvEdge => [.phase]
  | .zcBypEdge => phasePieces
  | .phaseCounterWrap => .clock :: .peers :: phasePieces
  | .keyOnFall | .keyOnRise | .visitOverdue | .visitLong => [.visits, .notices]

section
variable {s t : State}

theorem markOverdue_moves (s : State) (w : Withdrawal) :
    Moves g [.withdrawals, .notices] s (s.markOverdue w) := by
  refine moves_then (updateEntries_moves s ?_ ?_ ?_ ?_) (notify_moves ..) rfl rfl <;> simp

theorem execWithdrawalOverdue_answers {c : Nat} (h : execWithdrawalOverdue c s = .next t) :
    s.Answers (Moves g [.withdrawals, .notices]) t := by
  refine event_answers h fun _ _ => ?_
  split
  · exact markOverdue_moves ..
  · exact moves_refl ..

theorem attemptFails_moves (s : State) : Moves g [.startup] s s.attemptFails := by
  unfold State.attemptFails
  exact moves_ite (onStartup_moves ..) (onStartup_moves ..)

theorem execJoin_answers (h : execJoin s = .next t) :
    s.Answers (Moves g (.command :: joinPieces)) t := by
  refine command_answers h fun r d _ _ _ => ?_
  split
  · exact .mono (answer_moves ..) rfl
  · exact .mono (answer_moves ..) rfl
  · exact moves_then (joinFloor_moves _) (answer_moves ..) rfl rfl
  · exact .mono (answer_moves ..) rfl

theorem execReset_answers (h : execReset s = .next t) :
    s.Answers (Moves g [.command, .reset, .transaction, .hostCounts]) t :=
  command_answers h fun _ _ _ _ _ =>
    moves_then (answer_moves ..) (onHost_moves _ ⟨rfl, rfl, rfl⟩) rfl rfl

theorem loadString_moves (hg : g.renewed = true) (s : State) (k : Nat) (r : List Byte) :
    Moves g [.strings, .notices] s (s.loadString k r) :=
  onString_recompute_moves s k (by intro _ h; exact h) fun hr => absurd (hr.symm.trans hg) (by decide)

theorem execLoadAgeing_answers (hg : g.renewed = true) (h : execLoadAgeing s = .next t) :
    s.Answers (Moves g [.strings, .notices, .command]) t := by
  refine command_answers h fun r d _ _ _ => ?_
  have hans : ∀ (u : State) c l, Moves g [.strings, .notices, .command] u (u.answer c l) :=
    fun u c l => .mono (answer_moves ..) rfl
  simp only
  split
  · exact hans ..
  · exact hans ..
  · exact hans ..
  · split
    · exact hans ..
    · exact moves_ite (hans ..) (moves_ite (hans ..)
        (moves_then (loadString_moves hg ..) (answer_moves ..) rfl rfl))

theorem execReadString_answers (h : execReadString s = .next t) : s.Answers (Moves g [.command]) t := by
  refine command_answers h fun r d _ _ _ => ?_
  refine moves_ite ?_ (answer_moves ..)
  split <;> exact answer_moves ..

theorem execReadFloor_answers (h : execReadFloor s = .next t) : s.Answers (Moves g [.command]) t :=
  command_answers h fun _ _ _ _ _ => whenJoined_moves _ (fun _ => answer_moves ..) rfl

theorem execReadView_answers (h : execReadView s = .next t) : s.Answers (Moves g [.command]) t :=
  command_answers h fun _ _ _ _ _ =>
    whenJoined_moves _ (fun _ => moves_ite (answer_moves ..) (answer_moves ..)) rfl

theorem execReadWithdrawals_answers (h : execReadWithdrawals s = .next t) :
    s.Answers (Moves g [.command]) t :=
  command_answers h fun _ _ _ _ _ =>
    whenJoined_moves _ (fun _ => moves_ite (answer_moves ..) (answer_moves ..)) rfl

theorem execReadVisit_answers (h : execReadVisit s = .next t) : s.Answers (Moves g [.command]) t :=
  command_answers h fun _ _ _ _ _ =>
    whenJoined_moves _ (fun _ => moves_ite (answer_moves ..) (moves_ite
      (moves_ite (answer_moves ..) (answer_moves ..)) (answer_moves ..))) rfl

theorem execUnknownCommand_answers (h : execUnknownCommand s = .next t) :
    s.Answers (Moves g [.command]) t :=
  command_answers h fun _ _ _ _ _ => answer_moves ..

theorem execForgetStation_answers (h : execForgetStation s = .next t) :
    s.Answers (Moves g [.peers, .notices, .withdrawals, .command]) t := by
  refine command_answers h fun _ _ _ _ _ => whenJoined_moves _ (fun _ => ?_) rfl
  exact moves_ite (.mono (answer_moves ..) rfl) (moves_ite (.mono (answer_moves ..) rfl)
    (moves_then (forget_moves ..) (answer_moves ..) rfl rfl))

theorem execReadCounters_answers (h : execReadCounters s = .next t) :
    s.Answers (Moves g (rowPieces .readCounters)) t := by
  refine command_answers h fun r d _ _ _ => moves_ite (.mono (answer_moves ..) rfl) ?_
  simp only
  generalize s.withStatusDue false = v
  have h1 : Moves g (rowPieces .readCounters) v
      ((v.answer .ok v.counterBytes).withFreeCount (v.freeCount + 1)) := by
    have hans := answer_moves (g := g) v .ok v.counterBytes
    have hfree : (v.answer .ok v.counterBytes).freeCount = v.freeCount :=
      (moves_frame hans).kept .freeCount (by decide)
    refine moves_then hans (.draws ?_ ?_) rfl rfl
    · constructor; intro p hp; cases p <;> simp_all [Piece.kept]
    · rw [hfree]; exact Nat.le_succ _
  exact moves_ite (moves_then h1 (clearCounts_moves _) rfl rfl) h1

theorem execReqBypass_answers (h : execReqBypass s = .next t) :
    s.Answers (Moves g (.command :: readyPieces)) t := by
  refine command_answers h fun r d _ _ _ => whenJoined_moves _ (fun _ => ?_) rfl
  have hans : ∀ (u : State) c l, Moves g (.command :: readyPieces) u (u.answer c l) :=
    fun u c l => .mono (answer_moves ..) rfl
  refine moves_ite (hans ..) (moves_ite (hans ..) (moves_ite (hans ..) (moves_ite (hans ..)
    (moves_ite (hans ..) ?_))))
  exact moves_then (moves_then (enterSyncWait_moves ..) (testReady_moves _) (d := readyPieces) rfl rfl)
    (answer_moves ..) rfl rfl

theorem execReqReturn_answers (h : execReqReturn s = .next t) :
    s.Answers (Moves g [.sequencer, .requests, .lamp, .command]) t := by
  refine command_answers h fun r d _ _ _ => whenJoined_moves _ (fun _ => ?_) rfl
  have hans : ∀ (u : State) c l, Moves g [.sequencer, .requests, .lamp, .command] u (u.answer c l) :=
    fun u c l => .mono (answer_moves ..) rfl
  exact moves_ite (hans ..) (moves_ite (hans ..) (moves_ite (hans ..) (moves_ite (hans ..)
    (moves_ite (moves_then (startReturn_moves ..) (answer_moves ..) rfl rfl) (hans ..)))))

theorem claimTest_moves (s : State) (k target limit : Nat) (hidle : s.job.state = .idle) :
    Moves g [.claimIds, .slot, .ownQueue, .job, .command] s (s.claimTest k target limit) := by
  have h1 := requestClaim_moves (g := g) s .ageing .test (.string k) limit
  unfold State.claimTest
  simp only
  split
  · exact moves_then h1 (answer_moves ..) rfl rfl
  · exact moves_then h1 (answer_moves ..) rfl rfl
  · refine moves_then (moves_then h1 (withJob_moves _ (.inl ⟨?_, by simp⟩))
      (d := [.claimIds, .slot, .ownQueue, .job]) rfl rfl) (answer_moves ..) rfl rfl
    rw [show _ = s.job from (moves_frame h1).kept .job (by decide), hidle]
    decide

/-- A request that meets no obstacle meets an IDLE job. -/
theorem idle_of_testObstacle {s : State} {k : Nat} {r : StringRec} (h : s.testObstacle k r = none) :
    s.job.state = .idle := by
  unfold State.testObstacle at h
  split at h
  · simp at h
  · split at h
    · simp at h
    · rename_i hjob
      exact not_not.mp hjob

theorem execReqTest_answers {s t : State} (h : execReqTest s = .next t) :
    s.Answers (Moves g [.claimIds, .slot, .ownQueue, .job, .command]) t := by
  refine command_answers h fun r d _ _ _ => whenJoined_moves _ (fun _ => ?_) rfl
  have hans : ∀ (u : State) c l, Moves g [.claimIds, .slot, .ownQueue, .job, .command] u (u.answer c l) :=
    fun u c l => .mono (answer_moves ..) rfl
  simp only
  split
  · exact hans ..
  · refine moves_ite (hans ..) (moves_ite (hans ..) (moves_ite (hans ..) ?_))
    split
    · exact hans ..
    · exact claimTest_moves _ _ _ _ (idle_of_testObstacle ‹_›)

theorem execAbortTest_answers (h : execAbortTest s = .next t) :
    s.Answers (Moves g (.command :: abortPieces)) t := by
  refine command_answers h fun r d _ _ _ => whenJoined_moves _ (fun _ => ?_) rfl
  have habort : ∀ u : State, Moves g (.command :: abortPieces) u ((u.abortTest .host).answer .ok []) :=
    fun u => moves_then (abortTest_moves ..) (answer_moves ..) rfl rfl
  split
  · exact .mono (answer_moves ..) rfl
  · exact moves_ite (.mono (answer_moves ..) rfl) (habort _)
  · exact habort _

theorem execOpenVisit_answers (h : execOpenVisit s = .next t) :
    s.Answers (Moves g (rowPieces .openVisit)) t := by
  refine command_answers h fun r d _ _ _ => whenJoined_moves _ (fun _ => ?_) rfl
  have hans : ∀ (u : State) c l, Moves g (rowPieces .openVisit) u (u.answer c l) :=
    fun u c l => .mono (answer_moves ..) rfl
  split
  · exact hans ..
  · refine moves_ite (hans ..) (moves_ite (hans ..) ?_)
    split
    · exact hans ..
    · rename_i hcurrent
      refine moves_ite (.mono (openCabinet_moves ..) rfl) (moves_ite (hans ..)
        (.mono (openString_moves _ _ _ _ (by simpa using hcurrent)) rfl))

theorem execIsolate_answers (h : execIsolate s = .next t) :
    s.Answers (Moves g [.strings, .visits, .command]) t :=
  command_answers h fun _ _ _ _ _ => whenJoined_moves _
    (fun _ => visitAction_moves _ _ _ _ _ _ (setStringState_moves ..) rfl rfl rfl) rfl

theorem execReplace_answers (hg : g.renewed = true) (h : execReplace s = .next t) :
    s.Answers (Moves g [.strings, .notices, .visits, .command]) t :=
  command_answers h fun _ _ _ _ _ => whenJoined_moves _
    (fun _ => visitAction_moves _ _ _ _ _ _ (replaceString_moves hg ..) rfl rfl rfl) rfl

theorem execRestore_answers (h : execRestore s = .next t) :
    s.Answers (Moves g [.strings, .visits, .command]) t :=
  command_answers h fun _ _ _ _ _ => whenJoined_moves _
    (fun _ => visitAction_moves _ _ _ _ _ _ (restoreString_moves ..) rfl rfl rfl) rfl

theorem execNote_answers (h : execNote s = .next t) : s.Answers (Moves g [.visits, .command]) t :=
  command_answers h fun _ _ _ _ _ => whenJoined_moves _
    (fun _ => visitAction_moves _ _ _ _ _ _ (moves_refl _ [] _) rfl rfl rfl) rfl

theorem execCloseVisit_answers (h : execCloseVisit s = .next t) :
    s.Answers (Moves g (.command :: settlePieces)) t := by
  refine command_answers h fun r d _ _ _ => whenJoined_moves _ (fun _ => ?_) rfl
  have hans : ∀ (u : State) c l, Moves g (.command :: settlePieces) u (u.answer c l) :=
    fun u c l => .mono (answer_moves ..) rfl
  refine moves_ite (hans ..) ?_
  split
  · exact hans ..
  · refine moves_ite (hans ..) (moves_ite (hans ..) (moves_ite (cancelVisit_moves ..) ?_))
    split
    · exact hans ..
    · exact moves_then (closeVisit_moves ..) (answer_moves ..) rfl rfl

theorem execMeasWrite_answers {b : List Byte} (h : execMeasWrite b s = .next t) :
    s.Answers (Moves g portPieces) t :=
  event_answers h fun _ _ => .trans (opened_moves ..) (moves_ite (endEarly_moves _) (measWritten_moves ..))

theorem execCmdWrite_answers {b : List Byte} (h : execCmdWrite b s = .next t) :
    s.Answers (Moves g portPieces) t :=
  event_answers h fun _ _ => .trans (opened_moves ..) (moves_ite (endEarly_moves _) (cmdWritten_moves ..))

theorem execBadTransaction_answers {b : Byte} (h : execBadTransaction b s = .next t) :
    s.Answers (Moves g portPieces) t :=
  event_answers h fun _ _ => .trans (moves_then (endEarly_moves _) (onHost_moves _ ⟨rfl, rfl, rfl⟩) rfl rfl)
    (closeRead_moves ..)

theorem execMeasTakeIn_answers (hg : g.sampled = true) (h : execMeasTakeIn s = .next t) :
    s.Answers (Moves g intakePieces) t := by
  refine event_answers h fun _ _ => ?_
  split
  · exact examine_moves hg ..
  · exact moves_refl ..

theorem execTakeInEnd_answers (h : execTakeInEnd s = .next t) : s.Answers (Moves g [.intake]) t := by
  refine event_answers h fun _ _ => ?_
  split
  · exact .trans (onIntake_moves ..) (onIntake_moves ..)
  · exact moves_refl ..

theorem execSymbolReceived_answers {p : Port} {y : Symbol} (h : execSymbolReceived p y s = .next t) :
    s.Answers (Moves g linkPieces) t :=
  event_answers h fun _ _ => moves_ite (takeSymbol_moves ..)
    (.mono (onPort_moves_of_fwd _ p (by intro; rfl)) rfl)

theorem execLineBreak_answers {p : Port} (h : execLineBreak p s = .next t) :
    s.Answers (Moves g linkPieces) t :=
  event_answers h fun _ _ => moves_ite (linkDown_moves ..)
    (.mono (onPort_moves_of_fwd _ p (by intro; rfl)) rfl)

/-- A frame completed at port `p`, where it does not bring the own claim a grant unless `g`. -/
theorem execFrameCompleted_answers {p : Port} (h : execFrameCompleted p s = .next t)
    (hg : g.granted = true ∨ ∀ b rest, (s.port p).completed = b :: rest → ¬ (s.handed p rest).bringsGrant b) :
    s.Answers (Moves g framePieces) t := by
  refine event_answers h fun _ _ => ?_
  split
  · rename_i b rest hb
    exact moves_then (onPort_moves_of_fwd _ p (by intro; rfl))
      (checkFrame_moves _ p b (hg.imp_right fun hn => hn b rest hb)) rfl rfl
  · exact moves_refl ..

theorem execInvOkRise_answers (h : execInvOkRise s = .next t) :
    ∃ s', s.ChangesOnly [.pins] s' ∧ s'.Answers (Moves g transferPieces) t :=
  lineEvent_answers h fun _ => moves_ite (.mono (followRetransfer_moves _) rfl) (moves_refl ..)

theorem execInvOkFall_answers (h : execInvOkFall s = .next t) :
    ∃ s', s.ChangesOnly [.pins] s' ∧ s'.Answers (Moves g transferPieces) t :=
  lineEvent_answers h fun _ => moves_ite (moves_ite (failTransfer_moves ..)
    (.mono (followRetransfer_moves _) rfl)) (moves_refl ..)

theorem execZcBypEdge_answers (h : execZcBypEdge s = .next t) : s.Answers (Moves g phasePieces) t := by
  refine event_answers h fun _ _ => ?_
  have h1 : ∀ (u : State) f, Moves g phasePieces u (State.onValidity u (u.onPhase f)) :=
    fun u f => moves_then (onPhase_moves ..) (onValidity_moves ..) rfl rfl
  exact moves_ite (.trans (h1 ..) (evalCycle_moves _)) (h1 ..)

theorem execKeyOnFall_answers (h : execKeyOnFall s = .next t) :
    ∃ s', s.ChangesOnly [.pins] s' ∧ s'.Answers (Moves g [.visits, .notices]) t := by
  refine lineEvent_answers h fun _ => ?_
  split
  · exact keyOut_moves ..
  · exact moves_refl ..

theorem execKeyOnRise_answers (h : execKeyOnRise s = .next t) :
    ∃ s', s.ChangesOnly [.pins] s' ∧ s'.Answers (Moves g [.visits, .notices]) t := by
  refine lineEvent_answers h fun _ => ?_
  split
  · exact moves_ite (keyOut_moves ..) (moves_refl ..)
  · exact moves_refl ..

end

/-- What every row answers but those that reset the part and the completion of the image's read. -/
theorem exec_answers {i : Instr} {s t : State} (hi : i ∉ resettingRows)
    (himage : ∀ b, i ≠ .imageReadComplete b) (hg : g.granted = true ∨ ∀ p, i ≠ .frameCompleted p)
    (h : exec i s = .next t) (hrenew : g.renewed = true ∨ i ∉ [.loadAgeing, .replace] := by exact .inl rfl)
    (hsample : g.sampled = true ∨ i ≠ .measTakeIn := by exact .inl rfl) :
    ∃ s', s.ChangesOnly [.pins] s' ∧ s'.Answers (Moves g (rowPieces i)) t := by
  have same : ∀ {m}, s.Answers m t → ∃ s', s.ChangesOnly [.pins] s' ∧ s'.Answers m t :=
    fun ha => ⟨s, changesOnly_refl .., ha⟩
  cases i with
  | powerOn | powerOff | resetNFall | resetNRise | resetTakesEffect => exact absurd (by decide) hi
  | imageReadComplete b => exact absurd rfl (himage b)
  | imageReadFailed => exact same (event_answers h fun _ _ => attemptFails_moves _)
  | imageReadRetry => exact same (event_answers h fun _ _ => onStartup_moves ..)
  | startWindowExpiry => exact same (event_answers h fun _ _ => joinFloor_moves _)
  | join => exact same (execJoin_answers h)
  | reset => exact same (execReset_answers h)
  | loadAgeing => exact same (execLoadAgeing_answers (hrenew.resolve_right fun hn => hn (by decide)) h)
  | readString => exact same (execReadString_answers h)
  | readFloor => exact same (execReadFloor_answers h)
  | readView => exact same (execReadView_answers h)
  | readWithdrawals => exact same (execReadWithdrawals_answers h)
  | forgetStation => exact same (execForgetStation_answers h)
  | readCounters => exact same (execReadCounters_answers h)
  | reqBypass => exact same (execReqBypass_answers h)
  | reqReturn => exact same (execReqReturn_answers h)
  | reqTest => exact same (execReqTest_answers h)
  | abortTest => exact same (execAbortTest_answers h)
  | openVisit => exact same (execOpenVisit_answers h)
  | isolate => exact same (execIsolate_answers h)
  | replace => exact same (execReplace_answers (hrenew.resolve_right fun hn => hn (by decide)) h)
  | restore => exact same (execRestore_answers h)
  | note => exact same (execNote_answers h)
  | closeVisit => exact same (execCloseVisit_answers h)
  | readVisit => exact same (execReadVisit_answers h)
  | unknownCommand => exact same (execUnknownCommand_answers h)
  | measWrite b => exact same (execMeasWrite_answers h)
  | measTakeIn => exact same (execMeasTakeIn_answers (hsample.resolve_right fun hn => hn rfl) h)
  | takeInEnd => exact same (execTakeInEnd_answers h)
  | cmdWrite b => exact same (execCmdWrite_answers h)
  | replyRead => exact same (event_answers h fun _ _ => .trans (opened_moves ..) (replyTaken_moves _))
  | noticeRead => exact same (event_answers h fun _ _ => .trans (opened_moves ..) (noticeTaken_moves _))
  | statusRead => exact same (event_answers h fun _ _ => .trans (opened_moves ..) (statusTaken_moves _))
  | badTransaction b => exact same (execBadTransaction_answers h)
  | symbolReceived p y => exact same (execSymbolReceived_answers h)
  | lineBreak p => exact same (execLineBreak_answers h)
  | frameCompleted p =>
    exact same (execFrameCompleted_answers h (.inl (hg.resolve_right fun hn => hn p rfl)))
  | transmitNextFrame p => exact same (event_answers h fun _ hc => transmit_moves _ p hc)
  | inFlightTagExpiry n => exact same (event_answers h fun _ _ => endFlight_moves ..)
  | statusPeriod => exact same (event_answers h fun _ _ => markStatus_moves _)
  | peerStale n => exact same (event_answers h fun _ _ => movePeer_moves _ n (by decide))
  | peerLost n => exact same (event_answers h fun _ _ => movePeer_moves _ n (by decide))
  | provisionalHoldExpiry o c => exact same (event_answers h fun _ _ => removeEntries_moves ..)
  | claimTimerExpiry => exact same (event_answers h fun _ _ => claimExpires_moves _)
  | retryTimerExpiry => exact same (event_answers h fun _ _ => retryExpires_moves _)
  | withdrawalOverdue c => exact same (execWithdrawalOverdue_answers h)
  | ageingTick => exact same (event_answers h fun _ _ => wholeTick_moves _)
  | dayBoundary => exact same (event_answers h fun _ _ => wholeTick_moves _)
  | testLimitExpiry => exact same (event_answers h fun _ _ => endTest_moves ..)
  | hostStale => exact same (event_answers h fun _ _ => goStale_moves _)
  | unsupervised => exact same (event_answers h fun _ _ => goUnsupervised_moves _)
  | ssFbRise => exact lineEvent_answers h fun _ => onSwitch_moves _ (switchToBypass_moves _)
  | ssFbFall =>
    exact lineEvent_answers h fun _ => onSwitch_moves _ (.mono (switchToInverter_moves _) rfl)
  | mbsClosedRise => exact lineEvent_answers h fun _ => onSwitch_moves _ (maintCloses_moves _)
  | mbsClosedFall => exact lineEvent_answers h fun _ => onSwitch_moves _ (maintOpens_moves _)
  | invOkRise => exact execInvOkRise_answers h
  | invOkFall => exact execInvOkFall_answers h
  | autoRetransfer =>
    exact same (event_answers h fun _ _ => moves_then (startReturn_moves ..) (notify_moves ..) rfl rfl)
  | syncFail =>
    exact same (event_answers h fun _ _ => moves_then (goOnline_moves _) (notify_moves ..) rfl rfl)
  | confirmTimeout => exact same (event_answers h fun _ _ => failTransfer_moves ..)
  | zcInvEdge => exact same (event_answers h fun _ _ => onPhase_moves ..)
  | zcBypEdge => exact same (execZcBypEdge_answers h)
  | phaseCounterWrap =>
    exact same (event_answers h fun _ _ => moves_then (advance_moves _) (wrapCounter_moves _) rfl rfl)
  | keyOnFall => exact execKeyOnFall_answers h
  | keyOnRise => exact execKeyOnRise_answers h
  | visitOverdue => exact same (event_answers h fun _ hc => raiseLevel_moves _ _ hc)
  | visitLong => exact same (event_answers h fun _ hc => raiseLevel_moves _ _ hc)
  | transactionEndsEarly => exact same (event_answers h fun _ _ => endEarly_moves _)
  | transactionBegins k =>
    exact same (event_answers h fun _ _ => .trans (endEarly_moves _) (openTxn_moves ..))

/-- A row's whole answer as one movement, the end of its event included. -/
theorem answers_moves {f : List Piece} {s t : State} (h : s.Answers (Moves g f) t) :
    Moves g (f ++ finishPieces) s t := by
  obtain rfl | ⟨_, u, hu, rfl⟩ := h
  · exact moves_refl ..
  · refine .trans (.mono (withStatusDue_moves s false) rfl) (moves_then hu (finish_moves ..) ?_ ?_) <;>
      simp +contextual [List.all_eq_true]

/-- The pins and the pieces of a row and of an event's end: all that a row may change. -/
theorem exec_moves {i : Instr} {s t : State} (hi : i ∉ resettingRows)
    (himage : ∀ b, i ≠ .imageReadComplete b) (hg : g.granted = true ∨ ∀ p, i ≠ .frameCompleted p)
    (h : exec i s = .next t) (hrenew : g.renewed = true ∨ i ∉ [.loadAgeing, .replace] := by exact .inl rfl)
    (hsample : g.sampled = true ∨ i ≠ .measTakeIn := by exact .inl rfl) : Moves g (.pins :: (rowPieces i ++ finishPieces)) s t := by
  obtain ⟨s', hs, ha⟩ := exec_answers hi himage hg h hrenew hsample
  exact moves_then (.plain hs rfl) (answers_moves ha) (by simp)
    (by simp +contextual [List.all_eq_true])

/-! ### A step is a row, a microsecond, or nothing -/

/-- A step leaves the state, or executes a row or lets a microsecond pass on a state that differs in the
queue and the count of free values alone. -/
theorem step_cases {s t : State} (h : step s = .next t) :
    t = s ∨ ∃ l n, t = ((s.withPending l).withFreeCount n).advance
      ∨ ∃ i, exec i ((s.withPending l).withFreeCount n) = .next t := by
  unfold step at h
  split at h
  · rename_i i rest _
    exact .inr ⟨rest, s.freeCount, .inr ⟨i, h⟩⟩
  · have hoption : ∃ n, s.nextOption.2 = (s.withPending s.pending).withFreeCount n := by
      unfold State.nextOption
      split
      · exact ⟨s.freeCount, rfl⟩
      · exact ⟨s.freeCount, rfl⟩
      · exact ⟨s.freeCount + 1, rfl⟩
    obtain ⟨n, hn⟩ := hoption
    unfold idle at h
    rw [hn] at h
    split at h
    · split at h
      · exact .inr ⟨_, n, .inr ⟨_, h⟩⟩
      · exact .inr ⟨_, n, .inl (Host.Outcome.next.inj h).symm⟩
    · exact .inl (Host.Outcome.next.inj h).symm

/-- What holds after every row and every microsecond from a state that meets `P` holds after every step,
where `P` speaks neither of the queue nor of the count of free values. -/
theorem step_gives {P Q : State → Prop} {s t : State} (hs : P s) (h : step s = .next t)
    (hqueue : ∀ u l n, P u → P ((u.withPending l).withFreeCount n)) (hsame : P s → Q s)
    (hadvance : ∀ u, P u → Q u.advance) (hexec : ∀ i u v, P u → exec i u = .next v → Q v) : Q t := by
  obtain rfl | ⟨l, n, rfl | ⟨i, hi⟩⟩ := step_cases h
  · exact hsame hs
  · exact hadvance _ (hqueue s l n hs)
  · exact hexec i _ t (hqueue s l n hs) hi

end Sys2Proof.Machine


/-! PROOFS. Every row answers; the reset rows, the image's read, the step on an empty queue; and the laws of
the notice queue, the output lines, the tables and the own withdrawals, each kept by every step. -/

namespace Sys2Proof.Machine

-- One proof after another: side by side they ask for more thread stacks than there is memory for.
set_option Elab.async false

/-! ### Every row answers a next state -/

theorem command_completes (s : State) (row : Instr) (body : List Byte → State → State) :
    ∃ t, s.command row body = .next t := by
  unfold State.command
  split <;> exact ⟨_, rfl⟩

theorem lineEvent_completes (s : State) (c : Bool) (set : Pins → Pins) (body : State → State) :
    ∃ t, s.lineEvent c set body = .next t := by
  unfold State.lineEvent
  split <;> exact ⟨_, rfl⟩

theorem exec_completes (i : Instr) (s : State) : ∃ t, exec i s = .next t := by
  cases i with
  | join | reset | loadAgeing | readString | readFloor | readView | readWithdrawals | forgetStation
  | readCounters | reqBypass | reqReturn | reqTest | abortTest | openVisit | isolate | replace | restore
  | note | closeVisit | readVisit | unknownCommand => exact command_completes ..
  | ssFbRise | ssFbFall | mbsClosedRise | mbsClosedFall | invOkRise | invOkFall | keyOnFall
  | keyOnRise => exact lineEvent_completes ..
  | _ => exact ⟨_, rfl⟩

/-! ### The rows outside `exec_answers` -/

/-- A row that resets the part changes nothing, or brings every block to its reset state. -/
theorem exec_reset {i : Instr} {s t : State} (hi : i ∈ resettingRows) (h : exec i s = .next t) :
    t = s ∨ ∃ p b, t = (s.resetAll.withPins p).withPower b := by
  have ite_cases : ∀ {c : Prop} [Decidable c] {u v : State},
      (Host.Outcome.next (if c then u else v) : Host.Outcome State Fault Refusal) = .next t →
      t = u ∨ t = v := fun {c} _ {u v} h => by
    have h := Host.Outcome.next.inj h
    by_cases hc : c
    · exact .inl (by rw [← h, if_pos hc])
    · exact .inr (by rw [← h, if_neg hc])
  simp only [resettingRows, List.mem_cons, List.not_mem_nil, or_false] at hi
  obtain rfl | rfl | rfl | rfl | rfl := hi
  · exact (ite_cases h).imp_right fun ht => ⟨s.pins, true, ht⟩
  · exact (ite_cases h).symm.imp_right fun ht => ⟨s.pins, false, ht⟩
  · exact (ite_cases h).symm.imp_right fun ht => ⟨{ s.pins with resetN := false }, s.power, ht⟩
  · exact (ite_cases h).imp_right fun ht => ⟨{ s.pins with resetN := true }, s.power, ht⟩
  · exact (ite_cases h).symm.imp_right fun ht => ⟨s.pins, s.power, ht⟩

/-- What the completion of a read may do: the three pieces it forms, and `found`. -/
structure State.ReadsImage (s t : State) : Prop where
  frame : s.ChangesOnly [.startup, .image, .strings, .sequencer] t
  position : t.seq.state = s.seq.state
  before : s.startup.state = .loading
  after : t.joined = false

theorem configFault_image (s : State) (r : FaultReason) (n : Nat) (h : s.startup.state = .loading) :
    s.ReadsImage (s.configFault r n) :=
  ⟨changesOnly_mono (moves_frame (onStartup_moves (g := .all) s _)) rfl, rfl, h, rfl⟩

theorem attemptFails_image (s : State) (h : s.startup.state = .loading) :
    s.ReadsImage s.attemptFails := by
  unfold State.attemptFails
  split
  · exact configFault_image s _ _ h
  · refine ⟨changesOnly_mono (moves_frame (onStartup_moves (g := .all) s _)) rfl, rfl, h, ?_⟩
    simp [State.joined, State.onStartup, h]

theorem enterWindow_image (s : State) (i : Image) (h : s.startup.state = .loading) :
    s.ReadsImage (s.enterWindow i) := by
  refine ⟨?_, rfl, h, rfl⟩
  constructor; intro p hp
  cases p <;> simp_all [Piece.kept, State.enterWindow, State.onStartup, State.onSeq]

theorem imageRead_image (s : State) (b : List Byte) (h : s.startup.state = .loading) :
    s.ReadsImage (s.imageRead b) := by
  unfold State.imageRead
  split
  · exact attemptFails_image s h
  · split
    · exact configFault_image s _ _ h
    · exact enterWindow_image s _ h

theorem exec_image {b : List Byte} {s t : State} (h : exec (.imageReadComplete b) s = .next t) :
    t = s ∨ s.ReadsImage t := by
  have ha : s.Answers State.ReadsImage t := event_answers h fun _ hc =>
    imageRead_image _ b (by simpa [State.reading] using (Bool.and_eq_true_iff.mp hc).1)
  obtain rfl | ⟨_, u, hu, rfl⟩ := ha
  · exact .inl rfl
  · rw [finish_beforeJoin hu.after]
    exact .inr ⟨changesOnly_then (withStatusDue_frame s false) hu.frame rfl rfl, hu.position, hu.before,
      hu.after⟩

/-- A law is kept by every row where it holds of a part in reset, lies outside what a read of the image
forms, and goes along with `Moves`. -/
theorem exec_keeps {P : State → Prop} {i : Instr} {s t : State} (hs : P s) (h : exec i s = .next t)
    (hreset : ∀ p b, P ((s.resetAll.withPins p).withPower b)) (himage : s.ReadsImage t → P t)
    (hmoves : ∀ f, Moves .all f s t → P t) : P t := by
  by_cases hr : i ∈ resettingRows
  · obtain rfl | ⟨p, b, rfl⟩ := exec_reset hr h
    · exact hs
    · exact hreset p b
  · by_cases hb : ∃ b, i = .imageReadComplete b
    · obtain ⟨b, rfl⟩ := hb
      obtain rfl | hread := exec_image h
      · exact hs
      · exact himage hread
    · exact hmoves _ (exec_moves hr (fun b hib => hb ⟨b, hib⟩) (.inl rfl) h)

/-- Settles O3: no row stops the part, and `Moves` touches neither the queue nor lowers the count. -/
theorem everyCommandCompletes : Obligations.EveryCommandCompletes := by
  intro i s
  obtain ⟨t, ht⟩ := exec_completes i s
  refine ⟨t, ht, ?_⟩
  exact exec_keeps (P := fun t => t.pending = s.pending ∧ s.freeCount ≤ t.freeCount) ⟨rfl, le_rfl⟩ ht
    (fun _ _ => ⟨rfl, le_rfl⟩)
    (fun hr => ⟨hr.frame.kept .queue (by decide), (hr.frame.kept .freeCount (by decide)).ge⟩)
    (fun _ hm => ⟨moves_pending hm, moves_freeCount hm⟩)

/-! ### Steps, resets and the values of reset (tier 1) -/

/-- Settles O1: by the definition of a step. -/
theorem stepRunsTheFront : Obligations.StepRunsTheFront := by
  intro c rest s h
  simp only [step, h]

theorem resetDue_iff (s : State) : s.resetDue = true ↔
    s.host.resetNow = true ∨ ∃ d, s.host.resetAt = some d ∧ d ≤ s.now := by
  unfold State.resetDue State.isDue
  cases s.host.resetAt <;> simp

/-- Settles O4: each of the five rows resets every block, or finds its change made already. -/
theorem resetRows : Obligations.ResetRows := by
  intro s
  have hoff : ∀ h : s.host.resetNow = false, (∀ d, s.host.resetAt = some d → s.now < d) →
      s.resetDue = false := fun h hd => by
    rw [Bool.eq_false_iff, Ne, resetDue_iff]
    rintro (hn | ⟨d, hat, hle⟩)
    · simp [h] at hn
    · exact absurd (hd d hat) (by omega)
  refine ⟨fun h => ?_, fun h => ?_, fun h => ?_, fun h => ?_, fun hr hd => ?_, fun h hd => ?_, fun h => ?_,
    fun h => ?_, fun h => ?_, fun h => ?_⟩
  · simp only [exec, execPowerOn, h]; rfl
  · simp only [exec, execPowerOff, h]; rfl
  · simp only [exec, execResetNFall, h]; rfl
  · simp only [exec, execResetNRise, h]; rfl
  · simp only [exec, execResetTakesEffect, hr, (resetDue_iff s).mpr hd]; rfl
  · simp only [exec, execResetTakesEffect, hoff h hd, Bool.and_false]; rfl
  · simp only [exec, execPowerOn, h]; rfl
  · simp only [exec, execPowerOff, h]; rfl
  · simp only [exec, execResetNFall, h]; rfl
  · simp only [exec, execResetNRise, h]; rfl

/-- Settles O5: the reset state is one literal, and each value is read off it. -/
theorem resetValues : Obligations.ResetValues := by
  unfold Obligations.ResetValues
  decide

/-- Settles O6: the reset state is one literal, of which each law is evaluated. -/
theorem resetMeetsTheLaws : Obligations.ResetMeetsTheLaws := by
  unfold Obligations.ResetMeetsTheLaws
  decide

/-! ### The step on an empty queue -/

theorem options_ne_nil (s : State) : s.options ≠ [] := by
  unfold State.options
  cases h : s.dueNow <;> simp

/-- The next option is one of the options, drawn where there are several. -/
theorem nextOption_cases (s : State) : s.nextOption.1 ∈ s.options
    ∧ ∃ n, (n = s.freeCount ∨ n = s.freeCount + 1) ∧ s.nextOption.2 = s.withFreeCount n := by
  unfold State.nextOption
  split
  · exact absurd ‹_› (options_ne_nil s)
  · rename_i x hx
    exact ⟨by simp [hx], s.freeCount, .inl rfl, rfl⟩
  · rename_i x l _ hx
    refine ⟨?_, s.freeCount + 1, .inr rfl, rfl⟩
    have hlt : Config.choice s.freeCount % (x :: l).length < (x :: l).length :=
      Nat.mod_lt _ (by simp)
    rw [hx, List.getD_eq_getElem _ _ hlt]
    exact List.getElem_mem _

theorem nextOption_of_single {s : State} {x : Option Instr} (h : s.options = [x]) :
    s.nextOption = (x, s) := by simp [State.nextOption, h]

theorem step_idle {s : State} (h : s.pending = []) : step s = idle s := by simp only [step, h]

/-- The age of a peer's entry after a microsecond (R58). -/
theorem advance_age {s : State} {n : Nat} (hn : n ∈ stations) (hlen : s.view.peers.length = 16)
    (h : (s.peer n).state ≠ .absent) : (s.advance.peer n).age
      = if (s.us + 1) % 1000 = 0 then min 65535 ((s.peer n).age + 1) else (s.peer n).age := by
  have hlt : n - 1 < s.view.peers.length := by
    simp [stations] at hn; omega
  unfold State.advance State.peer at *
  split
  · simp only [State.onView, withView_view, withUs_view]
    rw [List.getD_eq_getElem _ _ hlt] at h
    rw [List.getD_eq_getElem _ _ (by simpa using hlt), List.getD_eq_getElem _ _ hlt, List.getElem_map]
    simp [PeerEntry.older, h, satAdd]
  · rfl

/-- Settles O2: the options are never empty, and the next one is among them. -/
theorem idleStep : Obligations.IdleStep := by
  intro s hpending
  rw [step_idle hpending]
  refine ⟨fun hr => ?_, fun hr hnow hmay hc => ?_, fun hr i hi => ?_, fun hr => ?_, ?_,
    fun n hn hlen h => advance_age hn hlen h⟩
  · simp [idle, hr]
  · have hopt : s.options = [none] := by simp [State.options, hnow, hmay, hc]
    simp [idle, hr, nextOption_of_single hopt]
  · simp [idle, hr, nextOption_of_single hi]
  · obtain ⟨hmem, n, hn, hdraw⟩ := nextOption_cases s
    refine ⟨_, hmem, n, hn, fun ho => ?_, fun i ho => ?_⟩
    · simp [idle, hr, ho, hdraw]
    · simp [idle, hr, ho, hdraw]
  · unfold State.advance
    split <;> rfl

/-! ### The notice queue and the output lines -/

/-- The UNSUPERVISED line is asserted exactly in its stage (R171). -/
def State.supervisedOk (s : State) : Prop := s.outs.unsupervised = (s.dog.stage == .unsupervised)

theorem linesOk_iff (s : State) : s.linesOk = true ↔
    s.requestsOk ∧ s.lampOk ∧ s.dischOk ∧ s.supervisedOk := by
  simp [State.linesOk, State.requestsOk, State.lampOk, State.dischOk, State.supervisedOk, and_assoc]

theorem supervisedOk_of_frame {f : List Piece} {s t : State} (h : s.ChangesOnly f t)
    (hl : f.contains .unsupervisedLine = false) (hd : f.contains .watchdog = false) :
    t.supervisedOk ↔ s.supervisedOk := by
  have hline : t.outs.unsupervised = s.outs.unsupervised :=
    h.kept .unsupervisedLine (by simpa using hl)
  have hdog : t.dog = s.dog := h.kept .watchdog (by simpa using hd)
  simp only [State.supervisedOk, hline, hdog]

/-- The rows that move the watchdog. -/
def dogRows : List Instr := [.startWindowExpiry, .join, .measTakeIn, .hostStale, .unsupervised]

theorem rowPieces_watchdog {i : Instr} (h : i ∉ dogRows) :
    (rowPieces i).contains .unsupervisedLine = false ∧ (rowPieces i).contains .watchdog = false := by
  cases i with
  | startWindowExpiry | join | measTakeIn | hostStale | unsupervised => exact absurd (by decide) h
  | _ => exact ⟨rfl, rfl⟩

theorem feedDog_supervised {s : State} (h : s.supervisedOk) : s.feedDog.supervisedOk := by
  unfold State.feedDog
  split
  · rfl
  · exact h

theorem supervisedOk_of_moves {g : Allows} {f : List Piece} {s t : State} (h : Moves g f s t)
    (hs : s.supervisedOk) (hl : f.contains .unsupervisedLine = false := by rfl)
    (hd : f.contains .watchdog = false := by rfl) : t.supervisedOk :=
  (supervisedOk_of_frame (moves_frame h) hl hd).mpr hs

theorem takeFrame_supervised (f : MeasFrame) {s : State} (h : s.supervisedOk) :
    (s.takeFrame f).supervisedOk := by
  have hfed : ∀ (t : State) (i : Intake → Intake), t.supervisedOk → (t.onIntake i).feedDog.supervisedOk :=
    fun t i ht => feedDog_supervised (supervisedOk_of_moves (onIntake_moves (g := .all) t i) ht)
  unfold State.takeFrame
  simp only
  split
  · refine supervisedOk_of_moves (raise_moves (g := .all) ..) ?_
    refine supervisedOk_of_moves (evalMargin_moves (g := .all) _) ?_
    refine supervisedOk_of_moves (handOver_moves (g := .all) rfl ..) ?_
    exact hfed _ _ (supervisedOk_of_moves (sinceTakeIn_moves (g := .all) s) h)
  · exact supervisedOk_of_moves (handOver_moves (g := .all) rfl ..) (hfed _ _ h)

theorem examine_supervised {s : State} (i : Nat) (h : s.supervisedOk) : (s.examine i).supervisedOk := by
  have hrole : ∀ r, (s.setRole i r).supervisedOk :=
    fun r => supervisedOk_of_moves (onIntake_moves (g := .all) ..) h
  unfold State.examine
  simp only
  split
  · split
    · exact supervisedOk_of_moves (onIntake_moves (g := .all) ..) (hrole _)
    · exact takeFrame_supervised _ (hrole _)
  · exact hrole _

/-- The watchdog enters HOST_STALE from WATCHING, where its line is released already. -/
theorem goStale_supervised {s : State} (hw : s.dog.stage = .watching) (h : s.supervisedOk) :
    s.goStale.supervisedOk := by
  unfold State.goStale
  simp only
  refine supervisedOk_of_moves (dogNotice_moves (g := .all) ..) ?_
  refine supervisedOk_of_moves (evalMargin_moves (g := .all) _) ?_
  refine supervisedOk_of_moves (abortTest_moves (g := .all) ..) ?_
  refine supervisedOk_of_moves (onIntake_moves (g := .all) ..) ?_
  refine supervisedOk_of_moves (formAllAvail_moves (g := .all) _) ?_
  rw [State.supervisedOk, hw] at h
  exact h

theorem goUnsupervised_supervised (s : State) : s.goUnsupervised.supervisedOk := by
  unfold State.goUnsupervised
  refine supervisedOk_of_moves (dogNotice_moves (g := .all) ..) ?_
  exact supervisedOk_of_moves (evalMargin_moves (g := .all) _) rfl

/-- Before JOIN the watchdog is OFF and the line released, as JOIN finds them. -/
theorem joinFloor_supervised {s : State} (hoff : s.dog.stage ≠ .unsupervised) (h : s.supervisedOk) :
    s.joinFloor.supervisedOk := by
  unfold State.joinFloor
  refine supervisedOk_of_moves (markStatus_moves (g := .all) _) ?_
  refine supervisedOk_of_moves (onSeq_moves (g := .all) _ rfl) ?_
  refine supervisedOk_of_moves (onIntake_moves (g := .all) ..) ?_
  refine supervisedOk_of_moves (mapRecords_moves (g := .all) _ _ fun _ _ _ => goes_of_figures rfl) ?_
  refine supervisedOk_of_moves (withTicks_moves (g := .all) ..) ?_
  have h0 := moves_then (onStartup_moves (g := .all) s fun u =>
    { u with state := .joined, windowEnds := none }) (takePosition_moves _) (d := .startup :: takeUpPieces)
    rfl rfl
  have h1 := moves_then h0 (evalMargin_moves _) (d := .startup :: takeUpPieces ++ evalPieces) rfl rfl
  rw [State.supervisedOk, withDog_outs]
  have hline := (moves_frame h1).kept .unsupervisedLine (by decide)
  refine hline.trans (h.trans ?_)
  simp [hoff]

/-- The blocks that act from JOIN on are in their reset state. -/
structure State.Untouched (s : State) : Prop where
  view : s.view = State.reset.view
  claims : s.claims = State.reset.claims
  job : s.job = State.reset.job
  ticks : s.ticks = State.reset.ticks
  dog : s.dog = State.reset.dog
  visit : s.visit = State.reset.visit
  seq : { s.seq with found := .inverter, bypOk := false } = State.reset.seq
  notices : s.host.notices = []
  overflow : s.host.overflow = 0
  irq : s.host.irq = false
  queue : s.loop.queue = []
  inFlight : s.loop.inFlight = []
  tagCounter : s.loop.tagCounter = 0
  ownDrops : s.loop.ownDrops = 0
  baseline : s.intake.baselineNext = false
  strings : ∀ r ∈ s.strings, r.state = .inService

theorem beforeJoinOk_iff {s : State} : s.beforeJoinOk = true ↔ (s.joined = false → s.Untouched) := by
  by_cases hj : s.joined = true
  · simp [State.beforeJoinOk, hj]
  · have hf : s.joined = false := by simpa using hj
    simp only [State.beforeJoinOk, hf, Bool.false_or, Bool.and_eq_true, beq_iff_eq, List.isEmpty_iff,
      Bool.not_eq_true', List.all_eq_true, forall_const]
    constructor
    · rintro ⟨⟨⟨⟨⟨⟨⟨⟨⟨⟨⟨⟨⟨⟨⟨h1, h2⟩, h3⟩, h4⟩, h5⟩, h6⟩, h7⟩, h8⟩, h9⟩, h10⟩, h11⟩, h12⟩, h13⟩, h14⟩,
        h15⟩, h16⟩
      exact ⟨h1, h2, h3, h4, h5, h6, h7, h8, h9, h10, h11, h12, h13, h14, h15, h16⟩
    · rintro ⟨h1, h2, h3, h4, h5, h6, h7, h8, h9, h10, h11, h12, h13, h14, h15, h16⟩
      exact ⟨⟨⟨⟨⟨⟨⟨⟨⟨⟨⟨⟨⟨⟨⟨h1, h2⟩, h3⟩, h4⟩, h5⟩, h6⟩, h7⟩, h8⟩, h9⟩, h10⟩, h11⟩, h12⟩, h13⟩, h14⟩,
        h15⟩, h16⟩

theorem finish_supervised {s0 s : State} (h : s.supervisedOk) : (State.finish s0 s).supervisedOk :=
  supervisedOk_of_moves (finish_moves (g := .all) s0 s) h

theorem answers_supervised {s t : State} (hs : s.supervisedOk)
    (h : s.Answers (fun _ u => u.supervisedOk) t) : t.supervisedOk := by
  obtain rfl | ⟨_, u, hu, rfl⟩ := h
  · exact hs
  · exact finish_supervised hu

theorem exec_supervised {i : Instr} {s t : State} (hb : s.beforeJoinOk = true) (hs : s.supervisedOk)
    (h : exec i s = .next t) : t.supervisedOk := by
  have hoff : s.startup.state ≠ .joined → s.dog.stage ≠ .unsupervised := fun hj => by
    rw [(beforeJoinOk_iff.mp hb (by simpa [State.joined] using hj)).dog]; decide
  by_cases hi : i ∈ dogRows
  · simp only [dogRows, List.mem_cons, List.not_mem_nil, or_false] at hi
    obtain rfl | rfl | rfl | rfl | rfl := hi
    · refine answers_supervised hs (event_answers h fun _ hc => joinFloor_supervised (hoff ?_) hs)
      simp only [State.inWindow, Bool.and_eq_true, beq_iff_eq] at hc
      simp [hc.1]
    · refine answers_supervised hs (command_answers h fun r d _ _ _ => ?_)
      have hans : ∀ u c l, State.supervisedOk u → (State.answer u c l).supervisedOk :=
        fun u c l hu => supervisedOk_of_moves (answer_moves (g := .all) u c l) hu
      split
      · exact hans _ _ _ hs
      · exact hans _ _ _ hs
      · rename_i hwindow
        exact hans _ _ _ (joinFloor_supervised (hoff (by simp_all)) hs)
      · exact hans _ _ _ hs
    · refine answers_supervised hs (event_answers h fun _ _ => ?_)
      split
      · exact examine_supervised _ hs
      · exact hs
    · refine answers_supervised hs (event_answers h fun _ hc => goStale_supervised ?_ hs)
      simp only [Bool.and_eq_true, beq_iff_eq] at hc
      exact hc.1.2
    · exact answers_supervised hs (event_answers h fun _ _ => goUnsupervised_supervised _)
  · by_cases hr : i ∈ resettingRows
    · obtain rfl | ⟨p, b, rfl⟩ := exec_reset hr h
      · exact hs
      · rfl
    · by_cases hb : ∃ b, i = .imageReadComplete b
      · obtain ⟨b, rfl⟩ := hb
        obtain rfl | hread := exec_image h
        · exact hs
        · exact (supervisedOk_of_frame hread.frame rfl rfl).mpr hs
      · obtain ⟨s', hp, ha⟩ := exec_answers (g := .all) hr (fun b hib => hb ⟨b, hib⟩) (.inl rfl) h
        have hs' : s'.supervisedOk := (supervisedOk_of_frame hp rfl rfl).mpr hs
        obtain ⟨hline, hdog⟩ := rowPieces_watchdog hi
        obtain rfl | ⟨_, u, hu, rfl⟩ := ha
        · exact hs'
        · exact finish_supervised (supervisedOk_of_moves hu hs' hline hdog)

theorem exec_noticesOk {i : Instr} {s t : State} (hs : s.noticesOk = true) (h : exec i s = .next t) :
    t.noticesOk = true :=
  exec_keeps (P := fun u => u.noticesOk = true) hs h (fun _ _ => rfl)
    (fun hr => (noticesOk_of_kept (hr.frame.kept .notices (by decide))).trans hs)
    fun _ hm => moves_noticesOk hm hs

theorem exec_requestsOk {i : Instr} {s t : State} (hs : s.requestsOk) (h : exec i s = .next t) :
    t.requestsOk := by
  refine exec_keeps hs h (fun _ _ => ⟨rfl, rfl⟩) (fun hr => ?_) fun _ hm => moves_requestsOk hm hs
  obtain ⟨hb, hi⟩ := hr.frame.kept .requests (by decide)
  simpa [State.requestsOk, hb, hi, hr.position] using hs

theorem exec_lampOk {i : Instr} {s t : State} (hs : s.lampOk) (h : exec i s = .next t) : t.lampOk := by
  refine exec_keeps hs h (fun _ _ => rfl) (fun hr => ?_) fun _ hm => moves_lampOk hm hs
  have hline : t.outs.mbsPermit = s.outs.mbsPermit := hr.frame.kept .lamp (by decide)
  have hvisit := cabinetVisitOpen_of_kept (hr.frame.kept .visits (by decide))
  simpa [State.lampOk, State.permitNow, hline, hvisit, hr.position] using hs

theorem exec_dischOk {i : Instr} {s t : State} (hs : s.dischOk) (h : exec i s = .next t) : t.dischOk :=
  exec_keeps hs h (fun _ _ => rfl)
    (fun hr => (dischOk_of_kept (hr.frame.kept .dischReq (by decide))
      (hr.frame.kept .job (by decide))).mpr hs) fun _ hm => moves_dischOk hm hs

theorem exec_linesOk {i : Instr} {s t : State} (hb : s.beforeJoinOk = true) (hs : s.linesOk = true)
    (h : exec i s = .next t) : t.linesOk = true := by
  obtain ⟨hreq, hlamp, hdisch, hsup⟩ := (linesOk_iff s).mp hs
  exact (linesOk_iff t).mpr
    ⟨exec_requestsOk hreq h, exec_lampOk hlamp h, exec_dischOk hdisch h, exec_supervised hb hsup h⟩

/-- Time alone changes the clock and the ages of the peers' entries. -/
theorem advance_frame (s : State) : s.ChangesOnly [.clock, .peers] s.advance :=
  moves_frame (advance_moves (g := .all) s)

theorem advance_linesOk {s : State} (hs : s.linesOk = true) : s.advance.linesOk = true := by
  obtain ⟨hreq, hlamp, hdisch, hsup⟩ := (linesOk_iff s).mp hs
  have hm := advance_moves (g := .all) s
  exact (linesOk_iff _).mpr ⟨moves_requestsOk hm hreq, moves_lampOk hm hlamp, moves_dischOk hm hdisch,
    supervisedOk_of_moves hm hsup⟩

/-- Settles O54: notices join one by one within their places, a line moves only together with its state,
and the watchdog's line with its stage. -/
theorem queueAndLinesKept : Obligations.QueueAndLinesKept := by
  refine ⟨fun s t hs h => ?_, fun s t hs hb h => ?_⟩
  · exact step_gives (P := fun u => u.noticesOk = true) (Q := fun u => u.noticesOk = true) hs h
      (fun _ _ _ hu => hu) id
      (fun u hu => (noticesOk_of_kept ((advance_frame u).kept .notices (by decide))).trans hu)
      fun i u v hu hv => exec_noticesOk hu hv
  · exact step_gives (P := fun u => u.linesOk = true ∧ u.beforeJoinOk = true)
      (Q := fun u => u.linesOk = true) ⟨hs, hb⟩ h (fun _ _ _ hu => hu) And.left
      (fun u hu => advance_linesOk hu.1) fun i u v hu hv => exec_linesOk hu.2 hu.1 hv

end Sys2Proof.Machine


/-! PROOFS. The start-up controller and the configuration: which rows move them, and what JOIN makes of
them. -/

namespace Sys2Proof.Machine

-- One proof after another: side by side they ask for more thread stacks than there is memory for.
set_option Elab.async false

variable {g : Allows}

/-- What JOIN may change beside the start-up state. -/
def joinedPieces : List Piece := [.watchdog, .ticks, .intake] ++ takeUpPieces ++ evalPieces

theorem joinFloor_moves_of_startup (s : State) : Moves g joinedPieces
    (s.onStartup (fun u => { u with state := .joined, windowEnds := none })) s.joinFloor := by
  unfold State.joinFloor
  refine moves_then (f := joinedPieces) ?_ (markStatus_moves _) rfl rfl
  refine moves_then (f := joinedPieces) ?_ (onSeq_moves _ rfl) rfl rfl
  refine moves_then (f := joinedPieces) ?_ (onIntake_moves ..) rfl rfl
  refine moves_then (f := joinedPieces) ?_ (mapRecords_moves _ _ fun _ _ _ => goes_of_figures rfl) rfl rfl
  refine moves_then (f := joinedPieces) ?_ (withTicks_moves ..) rfl rfl
  refine moves_then (f := joinedPieces) ?_ (withDog_moves ..) rfl rfl
  refine moves_then (f := joinedPieces) ?_ (evalMargin_moves _) rfl rfl
  exact .mono (takePosition_moves _) rfl

theorem joinFloor_startup (s : State) :
    s.joinFloor.startup = { s.startup with state := .joined, windowEnds := none } :=
  (moves_frame (joinFloor_moves_of_startup (g := .all) s)).kept .startup (by decide)

theorem finish_startup (s0 s : State) : (State.finish s0 s).startup = s.startup :=
  (moves_frame (finish_moves (g := .all) s0 s)).kept .startup (by decide)

/-- The rows that move the start-up state without loading a configuration. -/
def startRows : List Instr := [.imageReadFailed, .imageReadRetry, .startWindowExpiry, .join]

theorem rowPieces_image (i : Instr) (h : ∀ b, i ≠ .imageReadComplete b) :
    (rowPieces i).contains .image = false := by
  cases i with
  | imageReadComplete b => exact absurd rfl (h b)
  | _ => rfl

theorem rowPieces_startup {i : Instr} (h : i ∉ startRows) (hb : ∀ b, i ≠ .imageReadComplete b) :
    (rowPieces i).contains .startup = false := by
  cases i with
  | imageReadComplete b => exact absurd rfl (hb b)
  | imageReadFailed | imageReadRetry | startWindowExpiry | join => exact absurd (by decide) h
  | _ => rfl

/-- A piece that is no line and that neither the row nor an event's end touches is kept. -/
theorem exec_kept {i : Instr} {s t : State} (hi : i ∉ resettingRows)
    (himage : ∀ b, i ≠ .imageReadComplete b) (h : exec i s = .next t) {p : Piece}
    (hp : (rowPieces i).contains p = false)
    (he : (Piece.pins :: finishPieces).contains p = false := by rfl) : p.kept s t := by
  refine (moves_frame (exec_moves (g := .all) hi himage (.inl rfl) h)).kept p ?_
  simp at hp he ⊢
  tauto

theorem exec_image_kept {i : Instr} {s t : State} (hi : i ∉ resettingRows)
    (himage : ∀ b, i ≠ .imageReadComplete b) (h : exec i s = .next t) : t.image = s.image :=
  exec_kept hi himage h (p := .image) (rowPieces_image i himage)

theorem exec_startup_kept {i : Instr} {s t : State} (hi : i ∉ resettingRows) (hs : i ∉ startRows)
    (himage : ∀ b, i ≠ .imageReadComplete b) (h : exec i s = .next t) : t.startup = s.startup :=
  exec_kept hi himage h (p := .startup) (rowPieces_startup hs himage)

theorem imageReadFailed_startup {s t : State} (h : exec .imageReadFailed s = .next t) :
    t = s ∨ s.startup.state = .loading ∧ (t.startup.state = .loading ∨ t.startup.state = .configFault) := by
  have ha : s.Answers (fun v u => v.startup.state = .loading
      ∧ (u.startup.state = .loading ∨ u.startup.state = .configFault)) t :=
    event_answers h fun _ hc => by
      have hl : s.startup.state = .loading := by
        simpa using (Bool.and_eq_true_iff.mp hc).1
      refine ⟨hl, ?_⟩
      unfold State.attemptFails
      split
      · exact .inr rfl
      · exact .inl hl
  exact ha.imp_right fun ⟨_, u, hu, ht⟩ => by rwa [ht, finish_startup]

theorem imageReadRetry_startup {s t : State} (h : exec .imageReadRetry s = .next t) :
    t = s ∨ s.startup.state = .loading ∧ t.startup.state = .loading := by
  have ha : s.Answers (fun v u => v.startup.state = .loading ∧ u.startup.state = .loading) t :=
    event_answers h fun _ hc => by
      have hl : s.startup.state = .loading := by simpa using (Bool.and_eq_true_iff.mp hc).1
      exact ⟨hl, hl⟩
  exact ha.imp_right fun ⟨_, u, hu, ht⟩ => by rwa [ht, finish_startup]

/-- What the two ways into JOINED do to the start-up controller. -/
def State.joins (s t : State) : Prop := s.startup.state = .startWindow
  ∧ t.startup = { s.startup with state := .joined, windowEnds := none }

theorem startWindowExpiry_startup {s t : State} (h : exec .startWindowExpiry s = .next t) :
    t = s ∨ s.joins t := by
  have ha : s.Answers State.joins t := event_answers h fun _ hc =>
    ⟨by simpa [State.inWindow] using (Bool.and_eq_true_iff.mp hc).1, joinFloor_startup _⟩
  exact ha.imp_right fun ⟨_, u, ⟨hw, hu⟩, ht⟩ => ⟨hw, by rw [ht, finish_startup]; exact hu⟩

theorem answer_startup (s : State) (c : ReplyCode) (l : List Byte) : (s.answer c l).startup = s.startup :=
  (answer_frame s c l).kept .startup (by decide)

theorem join_startup {s t : State} (h : exec .join s = .next t) : t.startup = s.startup ∨ s.joins t := by
  have ha : s.Answers (fun v u => u.startup = v.startup ∨ v.joins u) t :=
    command_answers h fun r d _ _ _ => by
      split
      · exact .inl (answer_startup ..)
      · exact .inl (answer_startup ..)
      · exact .inr ⟨‹_›, (answer_startup ..).trans (joinFloor_startup _)⟩
      · exact .inl (answer_startup ..)
  obtain rfl | ⟨_, u, hu, rfl⟩ := ha
  · exact .inl rfl
  · unfold State.joins
    rw [finish_startup]
    exact hu

/-- What every row that resets nothing does to the start-up state. -/
theorem exec_startup {i : Instr} {s t : State} (hi : i ∉ resettingRows) (h : exec i s = .next t) :
    t.startup = s.startup
    ∨ s.startup.state = .loading ∧ (t.startup.state = .loading ∧ i = .imageReadRetry
        ∨ t.startup.state ≠ .joined ∧ t.startup.state ≠ .startWindow ∧ i = .imageReadFailed
        ∨ t.startup.state ≠ .joined ∧ ∃ b, i = .imageReadComplete b)
    ∨ s.joins t ∧ (i = .join ∨ i = .startWindowExpiry) := by
  by_cases hb : ∃ b, i = .imageReadComplete b
  · obtain ⟨b, rfl⟩ := hb
    obtain rfl | hr := exec_image h
    · exact .inl rfl
    · refine .inr (.inl ⟨hr.before, .inr (.inr ⟨fun hj => ?_, b, rfl⟩)⟩)
      have := hr.after
      simp [State.joined, hj] at this
  · have himage : ∀ b, i ≠ .imageReadComplete b := fun b hib => hb ⟨b, hib⟩
    by_cases hs : i ∈ startRows
    · simp only [startRows, List.mem_cons, List.not_mem_nil, or_false] at hs
      obtain rfl | rfl | rfl | rfl := hs
      · obtain rfl | ⟨hl, ht⟩ := imageReadFailed_startup h
        · exact .inl rfl
        · exact .inr (.inl ⟨hl, .inr (.inl (by obtain ht | ht := ht <;> simp [ht]))⟩)
      · obtain rfl | ⟨hl, ht⟩ := imageReadRetry_startup h
        · exact .inl rfl
        · exact .inr (.inl ⟨hl, .inl ⟨ht, rfl⟩⟩)
      · obtain rfl | ht := startWindowExpiry_startup h
        · exact .inl rfl
        · exact .inr (.inr ⟨ht, .inr rfl⟩)
      · exact (join_startup h).imp_right fun ht => .inr ⟨ht, .inl rfl⟩
    · exact .inl (exec_startup_kept hi hs himage h)

/-- Settles O7: the frame of each row, and the five rows whose frame holds the start-up state one by one. -/
theorem onlyAResetLeaves : Obligations.OnlyAResetLeaves := by
  intro i s t hi h
  have himage : s.startup.state ≠ .loading ∨ (∀ b, i ≠ .imageReadComplete b) → t.image = s.image := by
    intro hc
    by_cases hb : ∃ b, i = .imageReadComplete b
    · obtain ⟨b, rfl⟩ := hb
      obtain rfl | hr := exec_image h
      · rfl
      · exact absurd hr.before (hc.resolve_right fun hn => hn b rfl)
    · exact exec_image_kept hi (fun b hib => hb ⟨b, hib⟩) h
  have hstart := exec_startup hi h
  refine ⟨fun hs => ?_, fun hs => ?_, fun hs => ?_, fun hs => ?_, fun hs => himage (.inl hs)⟩
  · obtain ht | ⟨hl, _⟩ | ⟨⟨hw, _⟩, _⟩ := hstart
    · exact ht
    · simp [hs] at hl
    · simp [hs] at hw
  · obtain ht | ⟨hl, _⟩ | ⟨⟨hw, _⟩, _⟩ := hstart
    · exact ht
    · simp [hs] at hl
    · simp [hs] at hw
  · obtain ht | ⟨hl, _⟩ | ⟨⟨_, ht⟩, hrow⟩ := hstart
    · exact .inl ht
    · simp [hs] at hl
    · exact .inr ⟨hrow, ht⟩
  · obtain ht | ⟨_, ⟨ht, rfl⟩ | ⟨hj, hw, rfl⟩ | ⟨hj, b, rfl⟩⟩ | ⟨⟨hw, _⟩, _⟩ := hstart
    · rw [ht]
      exact ⟨by simp [hs], fun hb => ⟨himage (.inr hb), by simp [hs], fun _ => ⟨hs, fun _ => rfl⟩⟩⟩
    · exact ⟨by simp [ht], fun hb => ⟨himage (.inr hb), by simp [ht],
        fun _ => ⟨ht, fun hn => absurd rfl hn⟩⟩⟩
    · exact ⟨hj, fun hb => ⟨himage (.inr hb), hw, fun hn => absurd rfl hn⟩⟩
    · exact ⟨hj, fun hb => absurd rfl (hb b)⟩
    · simp [hs] at hw

end Sys2Proof.Machine


/-! PROOFS. Before JOIN: the blocks that act from JOIN on stay in their reset state, whatever comes. -/

namespace Sys2Proof.Machine

-- One proof after another: side by side they ask for more thread stacks than there is memory for.
set_option Elab.async false

/-! ### Operations before JOIN -/

/-- The pieces of the blocks that act from JOIN on, with those that hold a part of one. -/
def actingPieces : List Piece :=
  [.peers, .statusTimer, .margin, .duplicate, .withdrawals, .claimIds, .slot, .job, .ticks, .watchdog,
   .visits, .sequencer, .notices, .ownQueue, .inFlight, .intake, .strings]

section
variable {s t : State}

theorem untouched_of_frame {f : List Piece} (hu : s.Untouched) (h : s.ChangesOnly f t)
    (hf : f.all (fun p => !actingPieces.contains p) = true := by rfl) : t.Untouched := by
  have kept : ∀ p ∈ actingPieces, p.kept s t := fun p hp => h.kept p fun hpf => by
    have := List.all_eq_true.mp hf p hpf
    simp [hp] at this
  have hpeers : t.view.peers = s.view.peers := kept .peers (by decide)
  obtain ⟨hseq, hat⟩ := kept .statusTimer (by decide)
  obtain ⟨hmargin, hfigures⟩ := kept .margin (by decide)
  have hduplicate : t.view.duplicate = s.view.duplicate := kept .duplicate (by decide)
  obtain ⟨hlist, hlost, hincomplete⟩ := kept .withdrawals (by decide)
  have hid : t.claims.lastId = s.claims.lastId := kept .claimIds (by decide)
  have hslot : t.claims.slot = s.claims.slot := kept .slot (by decide)
  obtain ⟨hnotices, hoverflow, hirq⟩ := kept .notices (by decide)
  obtain ⟨hqueue, htag, hdrops⟩ := kept .ownQueue (by decide)
  have hflight : t.loop.inFlight = s.loop.inFlight := kept .inFlight (by decide)
  have hintake : t.intake = s.intake := kept .intake (by decide)
  have hstrings : t.strings = s.strings := kept .strings (by decide)
  have hsequencer : t.seq = s.seq := kept .sequencer (by decide)
  have hview : t.view = s.view := by
    cases hv : t.view; cases hw : s.view; simp_all
  have hclaims : t.claims = s.claims := by
    cases hv : t.claims; cases hw : s.claims; simp_all
  exact { view := hview.trans hu.view, claims := hclaims.trans hu.claims
          job := (kept .job (by decide)).trans hu.job, ticks := (kept .ticks (by decide)).trans hu.ticks
          dog := (kept .watchdog (by decide)).trans hu.dog
          visit := (kept .visits (by decide)).trans hu.visit
          seq := by rw [hsequencer]; exact hu.seq
          notices := hnotices.trans hu.notices, overflow := hoverflow.trans hu.overflow
          irq := hirq.trans hu.irq, queue := hqueue.trans hu.queue
          inFlight := hflight.trans hu.inFlight, tagCounter := htag.trans hu.tagCounter
          ownDrops := hdrops.trans hu.ownDrops, baseline := by rw [hintake]; exact hu.baseline
          strings := by rw [hstrings]; exact hu.strings }

theorem untouched_withStatusDue (hu : s.Untouched) (b : Bool) : (s.withStatusDue b).Untouched :=
  untouched_of_frame hu (withStatusDue_frame s b)

theorem untouched_answer (hu : s.Untouched) (c : ReplyCode) (l : List Byte) : (s.answer c l).Untouched :=
  untouched_of_frame hu (answer_frame s c l)

/-- The host port beside its notices. -/
theorem untouched_onHost (hu : s.Untouched) {f : HostPort → HostPort}
    (hn : (f s.host).notices = s.host.notices := by rfl)
    (ho : (f s.host).overflow = s.host.overflow := by rfl)
    (hi : (f s.host).irq = s.host.irq := by rfl) : (s.onHost f).Untouched :=
  { hu with notices := hn.trans hu.notices, overflow := ho.trans hu.overflow, irq := hi.trans hu.irq }

theorem untouched_onIntake (hu : s.Untouched) {f : Intake → Intake}
    (hf : (f s.intake).baselineNext = s.intake.baselineNext := by rfl) : (s.onIntake f).Untouched :=
  { hu with baseline := hf.trans hu.baseline }

theorem untouched_onPort (hu : s.Untouched) (p : Port) (f : PortState → PortState) :
    (s.onPort p f).Untouched := by
  cases p <;> exact { hu with }

theorem untouched_withStrings (hu : s.Untouched) {l : List StringRec}
    (h : ∀ r ∈ l, r.state = .inService) : (s.withStrings l).Untouched :=
  { hu with strings := h }

/-- `found` and BYP_OK are what the sequencer forms before JOIN. -/
theorem untouched_onSeq (hu : s.Untouched) {f : Sequencer → Sequencer}
    (hf : { f s.seq with found := .inverter, bypOk := false }
      = { s.seq with found := .inverter, bypOk := false } := by rfl) : (s.onSeq f).Untouched :=
  { hu with seq := hf.trans hu.seq }

theorem untouched_onString (hu : s.Untouched) (k : Nat) {f : StringRec → StringRec}
    (hf : ∀ r, (f r).state = r.state) : (s.onString k f).Untouched := by
  refine untouched_withStrings hu fun r hr => ?_
  obtain ⟨j, hj, rfl⟩ := List.getElem_of_mem hr
  rw [List.getElem_modify]
  split
  · rw [hf]; exact hu.strings _ (List.getElem_mem _)
  · exact hu.strings _ (List.getElem_mem _)

theorem untouched_seq_state (hu : s.Untouched) : s.seq.state = .online := congrArg Sequencer.state hu.seq

theorem untouched_xfer (hu : s.Untouched) : s.seq.xfer = none := congrArg Sequencer.xfer hu.seq

theorem untouched_slot (hu : s.Untouched) : s.claims.slot = .free := congrArg Claims.slot hu.claims

theorem untouched_list (hu : s.Untouched) : s.claims.list = [] := congrArg Claims.list hu.claims

theorem untouched_current (hu : s.Untouched) : s.visit.current = none := congrArg Visits.current hu.visit

theorem untouched_jobState (hu : s.Untouched) : s.job.state = .idle := congrArg TestJob.state hu.job

theorem raise_beforeJoin (hj : s.joined = false) (k : NoticeKind) (a b c d : Half) :
    s.raise k a b c d = s := by simp [State.raise, hj]

theorem notify_beforeJoin (hj : s.joined = false) (k : NoticeKind) (a b c d : Int) :
    s.notify k a b c d = s := raise_beforeJoin hj ..

theorem evalMargin_beforeJoin (hj : s.joined = false) : s.evalMargin = s := by simp [State.evalMargin, hj]

theorem untouched_recompute (hu : s.Untouched) (hj : s.joined = false) (k : Nat) :
    (s.recompute k).Untouched := by
  unfold State.recompute
  split
  · rename_i r hr
    have hset : ∀ x ∈ s.strings.set k (r.recompute (s.params k) s.hostSilent), x.state = .inService := by
      intro x hx
      obtain hx | rfl := List.mem_or_eq_of_mem_set hx
      · exact hu.strings x hx
      · exact hu.strings r (List.mem_of_getElem? hr)
    simp only
    split
    · exact untouched_withStrings hu hset
    · rw [notify_beforeJoin (by exact hj)]
      exact untouched_withStrings hu hset
  · exact hu

theorem untouched_endEarly (hu : s.Untouched) : s.endEarly.Untouched := by
  have htxn : (s.onHost (fun h => { h with txn := none })).Untouched := untouched_onHost hu
  unfold State.endEarly
  split
  · exact hu
  · simp only
    split
    · split
      · exact untouched_onIntake (untouched_onIntake htxn)
      · exact untouched_onIntake htxn
    · exact untouched_onHost htxn
    · exact untouched_onHost hu
    · exact untouched_onHost hu
    · exact untouched_onHost hu

theorem untouched_openTxn (hu : s.Untouched) (k : TxnKind) : (s.openTxn k).Untouched := by
  have htxn : ∀ t : Txn, (s.onHost (fun h => { h with txn := some t })).Untouched :=
    fun _ => untouched_onHost hu
  unfold State.openTxn
  simp only
  split
  · exact untouched_onIntake (htxn _)
  all_goals exact htxn _

theorem untouched_opened (hu : s.Untouched) (k : TxnKind) : (s.opened k).Untouched := by
  unfold State.opened
  split
  · exact hu
  · exact untouched_openTxn hu k

theorem untouched_measWritten (hu : s.Untouched) (b : List Byte) : (s.measWritten b).Untouched := by
  unfold State.measWritten
  split
  · exact untouched_onIntake (untouched_onHost hu)
  · exact untouched_onHost hu
  all_goals exact hu

theorem untouched_cmdWritten (hu : s.Untouched) (b : List Byte) : (s.cmdWritten b).Untouched := by
  unfold State.cmdWritten
  refine untouched_onHost hu ?_ ?_ ?_ <;> split <;> rfl

theorem untouched_replyTaken (hu : s.Untouched) : s.replyTaken.Untouched := by
  unfold State.replyTaken
  split
  · exact untouched_onHost (s := s.closeRead _) (untouched_onHost hu)
  · exact untouched_onHost hu
  all_goals exact hu

theorem untouched_closeRead (hu : s.Untouched) (b : List Byte) : (s.closeRead b).Untouched :=
  untouched_onHost hu

theorem untouched_noticeTaken (hu : s.Untouched) : s.noticeTaken.Untouched := by
  unfold State.noticeTaken
  split
  · rename_i n _
    have hempty : (s.closeRead (noticeRecord (some n))).host.notices.drop 1 = [] := by
      rw [show (s.closeRead _).host.notices = s.host.notices from rfl, hu.notices]; rfl
    exact { untouched_closeRead hu (noticeRecord (some n)) with
      notices := hempty, irq := congrArg (fun l : List Notice => !l.isEmpty) hempty }
  · exact untouched_onHost hu
  all_goals exact hu

theorem untouched_statusTaken (hu : s.Untouched) : s.statusTaken.Untouched := by
  unfold State.statusTaken
  split
  · rename_i w _
    have hzero : (s.closeRead w.bytes).host.overflow - w.overflow = 0 := by
      rw [show (s.closeRead _).host.overflow = s.host.overflow from rfl, hu.overflow]; simp
    exact { untouched_closeRead hu w.bytes with overflow := hzero }
  all_goals exact hu

theorem untouched_testReady (hu : s.Untouched) : s.testReady = s := by
  unfold State.testReady
  rw [if_neg]
  simp [untouched_seq_state hu]

theorem untouched_formBypOk (hu : s.Untouched) : s.formBypOk.Untouched := by
  have h : (s.onSeq (fun q => { q with bypOk := s.bypOkNow })).Untouched := untouched_onSeq hu
  rw [State.formBypOk, untouched_testReady h]
  exact h

theorem untouched_onValidity (hu : s.Untouched) (s0 : State) : (State.onValidity s0 s).Untouched := by
  unfold State.onValidity
  split
  · exact hu
  · exact untouched_formBypOk hu

theorem untouched_advance (hu : s.Untouched) : s.advance.Untouched := by
  have hclock : (s.withUs (s.us + 1)).Untouched := { hu with }
  unfold State.advance
  simp only
  split
  · refine { hclock with view := ?_ }
    show { s.view with peers := s.view.peers.map PeerEntry.older } = State.reset.view
    rw [hu.view]; rfl
  · exact hclock

theorem untouched_linkDown (hu : s.Untouched) (hj : s.joined = false) (p : Port) (c : DownCause) :
    (s.linkDown p c).Untouched := by
  have hflight : ∀ n, (s.endFlight n).Untouched := fun n =>
    { hu with inFlight := by simp [State.endFlight, State.onLoop, hu.inFlight] }
  have hend : ∀ u : State, u.Untouched → u.joined = false →
      ((u.onPort p PortState.goDown).notify .linkDown (portCode p) c.code
        ((u.onPort p PortState.goDown).port p).lost
        (upCode ((u.onPort p PortState.goDown).port (otherPort p)).up)).Untouched := by
    intro u hu hj
    rw [notify_beforeJoin (by cases p <;> exact hj)]
    exact untouched_onPort hu p _
  unfold State.linkDown
  simp only
  split
  · exact hend _ (hflight _) hj
  · exact hend _ hu hj

theorem untouched_takeSymbol (hu : s.Untouched) (hj : s.joined = false) (p : Port) (y : Symbol) :
    (s.takeSymbol p y).Untouched := by
  have hport := untouched_onPort hu p
  have hjoined : ∀ f, (s.onPort p f).joined = false := fun f => by cases p <;> exact hj
  unfold State.takeSymbol
  split
  · split
    · simp only
      split
      · rw [State.linkUp, notify_beforeJoin (by cases p <;> exact hj)]
        exact untouched_onPort (hport _) p _
      · exact hport _
    · split
      · simp only
        split
        · exact untouched_linkDown (hport _) (hjoined _) p _
        · exact hport _
      · exact hport _
  · exact hport _

theorem untouched_forward (hu : s.Untouched) (p : Port) (b : List Byte) : (s.forward p b).Untouched := by
  have hby : ∀ p q, (s.forwardBy p q b).Untouched := fun p q => by
    unfold State.forwardBy
    split <;> exact untouched_onPort hu ..
  unfold State.forward
  split <;> exact hby ..

theorem untouched_checkFrame (hu : s.Untouched) (hj : s.joined = false) (p : Port) (b : List Byte) :
    (s.checkFrame p b).Untouched := by
  unfold State.checkFrame
  split
  · exact hu
  · split
    · rw [State.handleFrame, if_pos (by simp [hj])]
      exact untouched_forward hu p b
    · exact untouched_onPort hu p _

theorem untouched_transmit (hu : s.Untouched) (p : Port) : (s.transmit p).Untouched := by
  unfold State.transmit
  split
  · exact untouched_onPort hu p _
  · rw [hu.queue]; exact hu

theorem untouched_takeString (hu : s.Untouched) (hj : s.joined = false) (f : MeasFrame) (base : Bool)
    (dt k : Nat) : (s.takeString f base dt k).Untouched ∧ (s.takeString f base dt k).joined = false := by
  unfold State.takeString
  simp only
  rw [if_neg (by simp [hj])]
  refine ⟨untouched_onString (untouched_onString (untouched_onIntake hu) k fun r => ?_) k fun r => ?_, hj⟩
  · unfold StringRec.takeFlags
    split
    · rfl
    · split <;> rfl
  · unfold StringRec.formAvail StringRec.takeTemp
    simp only [Bool.false_eq_true, if_false]
    split <;> rfl

theorem untouched_handOver (hu : s.Untouched) (hj : s.joined = false) (f : MeasFrame) (base : Bool)
    (dt : Nat) : (s.handOver f base dt).Untouched := by
  have hfold : ∀ (l : List Nat) (u : State), u.Untouched → u.joined = false →
      (l.foldl (State.takeString f base dt) u).Untouched
      ∧ (l.foldl (State.takeString f base dt) u).joined = false := by
    intro l
    induction l with
    | nil => exact fun u hu hj => ⟨hu, hj⟩
    | cons k l ih =>
      intro u hu hj
      obtain ⟨hk, hjk⟩ := untouched_takeString hu hj f base dt k
      exact ih _ hk hjk
  obtain ⟨hs, hjs⟩ := hfold (List.range s.strings.length) s hu hj
  unfold State.handOver
  simp only
  rw [if_neg (by simp [hj]), evalMargin_beforeJoin hjs]
  exact untouched_formBypOk hs

theorem untouched_takeFrame (hu : s.Untouched) (hj : s.joined = false) (f : MeasFrame) :
    (s.takeFrame f).Untouched := by
  have hfed : ∀ i, (s.onIntake i).feedDog = s.onIntake i := fun i => if_neg (by
    rw [show (s.onIntake i).joined = s.joined from rfl, hj]; decide)
  unfold State.takeFrame
  simp only
  rw [if_neg (by simp [State.hostSilent, hu.dog, State.reset]), hfed]
  exact untouched_handOver (untouched_onIntake hu) hj f _ _

theorem untouched_examine (hu : s.Untouched) (hj : s.joined = false) (i : Nat) : (s.examine i).Untouched := by
  have hrole : ∀ r, (s.setRole i r).Untouched := fun _ => untouched_onIntake hu
  unfold State.examine
  simp only
  split
  · split
    · exact untouched_onIntake (hrole _)
    · exact untouched_takeFrame (hrole _) hj _
  · exact hrole _

theorem untouched_imageRead (hu : s.Untouched) (b : List Byte) : (s.imageRead b).Untouched := by
  have hstart : ∀ f, (s.onStartup f).Untouched := fun f => { hu with }
  unfold State.imageRead
  split
  · unfold State.attemptFails
    split <;> exact hstart _
  · split
    · exact hstart _
    · have hbuilt : ∀ r ∈ (imageOf b).strings.map builtRecord, r.state = .inService := fun r hr => by
        obtain ⟨p, _, rfl⟩ := List.mem_map.mp hr
        rfl
      have himage : ∀ f, ((s.onStartup f).withImage (some (imageOf b))).Untouched := fun f =>
        { hstart f with }
      unfold State.enterWindow
      exact untouched_onSeq (untouched_withStrings (himage _) hbuilt)

theorem untouched_loadString (hu : s.Untouched) (hj : s.joined = false) (k : Nat) (r : List Byte) :
    (s.loadString k r).Untouched :=
  untouched_recompute (untouched_onString hu k (by intro; rfl)) hj k

/-! ### The rows before JOIN -/

/-- The end of an event before JOIN is that of its body; one that joined is JOINED. -/
theorem answers_untouched (hu : s.Untouched)
    (h : s.Answers (fun _ u => u.joined = true ∨ u.Untouched) t) : t.joined = true ∨ t.Untouched := by
  obtain rfl | ⟨_, u, hd, rfl⟩ := h
  · exact .inr hu
  · by_cases hj : u.joined = true
    · exact .inl (by simpa only [State.joined, finish_startup] using hj)
    · rw [finish_beforeJoin (by simpa using hj)]
      exact hd

theorem event_untouched {c : Bool} {body : State → State} (hu : s.Untouched)
    (h : s.event c body = .next t)
    (hb : c = true → (s.withStatusDue false).Untouched → (body (s.withStatusDue false)).Untouched) :
    t.joined = true ∨ t.Untouched :=
  answers_untouched hu (event_answers h fun _ hc => .inr (hb hc (untouched_withStatusDue hu false)))

theorem command_untouched {row : Instr} {body : List Byte → State → State} (hu : s.Untouched)
    (h : s.command row body = .next t)
    (hb : ∀ r, (s.withStatusDue false).Untouched → (body r (s.withStatusDue false)).Untouched) :
    t.joined = true ∨ t.Untouched :=
  answers_untouched hu (command_answers h fun r _ _ _ _ => .inr (hb r (untouched_withStatusDue hu false)))

/-- A command taken in JOINED only is answered NOT_JOINED. -/
theorem command_untouched_of_whenJoined {row : Instr} {body : List Byte → State → State} (hj : s.joined = false)
    (hu : s.Untouched) (h : s.command row (fun r s => s.whenJoined (body r)) = .next t) :
    t.joined = true ∨ t.Untouched :=
  command_untouched hu h fun r hu => by
    rw [State.whenJoined, if_neg (by rw [show (s.withStatusDue false).joined = s.joined from rfl, hj]; decide)]
    exact untouched_answer hu ..

theorem event_untouched_of_false {c : Bool} {body : State → State} (hu : s.Untouched)
    (h : s.event c body = .next t) (hc : c = false) : t.joined = true ∨ t.Untouched :=
  event_untouched hu h fun hct => by simp [hc] at hct

theorem lineEvent_untouched {c : Bool} {set : Pins → Pins} {body : State → State} (hu : s.Untouched)
    (h : s.lineEvent c set body = .next t) (hb : ∀ u : State, u.Untouched → u.startup = s.startup →
      (body u).Untouched) : t.joined = true ∨ t.Untouched := by
  have hpins : (s.onPins set).Untouched := { hu with }
  unfold State.lineEvent at h
  split at h
  · exact event_untouched hpins h fun _ hu => hb _ hu rfl
  · rw [← Host.Outcome.next.inj h]; exact .inr hu

theorem untouched_onSwitch (hu : s.Untouched) (hj : s.joined = false) (body : State → State) :
    (s.onSwitch body).Untouched := by
  unfold State.onSwitch
  split
  · exact hu
  · exact hu
  · exact untouched_onSeq hu
  · simp_all [State.joined]

/-- Whatever row comes before JOIN, it joins or leaves the acting blocks in their reset state. -/
theorem exec_untouched {i : Instr} (hi : i ∉ resettingRows) (hj : s.joined = false) (hu : s.Untouched)
    (h : exec i s = .next t) : t.joined = true ∨ t.Untouched := by
  have hstart : ∀ (u : State) f, u.Untouched → (u.onStartup f).Untouched := fun u f hu => { hu with }
  cases i with
  | powerOn | powerOff | resetNFall | resetNRise | resetTakesEffect => exact absurd (by decide) hi
  | imageReadComplete b => exact event_untouched hu h fun _ hu => untouched_imageRead hu b
  | imageReadFailed =>
    exact event_untouched hu h fun _ hu => by
      unfold State.attemptFails
      split <;> exact hstart _ _ hu
  | imageReadRetry => exact event_untouched hu h fun _ hu => hstart _ _ hu
  | startWindowExpiry =>
    refine answers_untouched hu (event_answers h fun _ _ => .inl ?_)
    simp [State.joined, joinFloor_startup]
  | join =>
    refine answers_untouched hu (command_answers h fun r _ _ _ _ => ?_)
    have hans := untouched_answer (untouched_withStatusDue hu false)
    split
    · exact .inr (hans _ _)
    · exact .inr (hans _ _)
    · exact .inl (by simp [State.joined, answer_startup, joinFloor_startup])
    · exact .inr (hans _ _)
  | reset => exact command_untouched hu h fun _ hu => untouched_onHost (untouched_answer hu ..)
  | loadAgeing =>
    refine command_untouched hu h fun r hu => ?_
    have hans := fun c l => untouched_answer hu c l
    simp only
    split
    · exact hans _ _
    · exact hans _ _
    · exact hans _ _
    · split
      · exact hans _ _
      · split
        · exact hans _ _
        · split
          · exact hans _ _
          · exact untouched_answer (untouched_loadString hu hj _ r) ..
  | readString =>
    refine command_untouched hu h fun r hu => ?_
    split
    · split <;> exact untouched_answer hu ..
    · exact untouched_answer hu ..
  | readCounters =>
    refine command_untouched hu h fun r hu => ?_
    have hread : ∀ c l n, ((State.answer (s.withStatusDue false) c l).withFreeCount n).Untouched :=
      fun c l n => { untouched_answer hu c l with }
    simp only
    split
    · exact untouched_answer hu ..
    · split
      · exact { hread _ _ _ with ownDrops := rfl }
      · exact hread _ _ _
  | readFloor | readView | readWithdrawals | forgetStation | reqBypass | reqReturn | reqTest | abortTest
  | openVisit | isolate | replace | restore | note | closeVisit | readVisit =>
    exact command_untouched_of_whenJoined hj hu h
  | unknownCommand => exact command_untouched hu h fun _ hu => untouched_answer hu ..
  | measWrite b =>
    refine event_untouched hu h fun _ hu => ?_
    have ho := untouched_opened hu .measWrite
    simp only
    split
    · exact untouched_endEarly ho
    · exact untouched_measWritten ho b
  | cmdWrite b =>
    refine event_untouched hu h fun _ hu => ?_
    have ho := untouched_opened hu .cmdWrite
    simp only
    split
    · exact untouched_endEarly ho
    · exact untouched_cmdWritten ho b
  | measTakeIn =>
    refine event_untouched hu h fun _ hu => ?_
    split
    · exact untouched_examine hu hj _
    · exact hu
  | takeInEnd =>
    refine event_untouched hu h fun _ hu => ?_
    split
    · exact untouched_onIntake (s := State.setRole _ _ _) (untouched_onIntake hu)
    · exact hu
  | replyRead => exact event_untouched hu h fun _ hu => untouched_replyTaken (untouched_opened hu _)
  | noticeRead => exact event_untouched hu h fun _ hu => untouched_noticeTaken (untouched_opened hu _)
  | statusRead => exact event_untouched hu h fun _ hu => untouched_statusTaken (untouched_opened hu _)
  | badTransaction b =>
    exact event_untouched hu h fun _ hu => untouched_closeRead (untouched_onHost (untouched_endEarly hu)) _
  | transactionEndsEarly => exact event_untouched hu h fun _ hu => untouched_endEarly hu
  | transactionBegins k => exact event_untouched hu h fun _ hu => untouched_openTxn (untouched_endEarly hu) k
  | symbolReceived p y =>
    refine event_untouched hu h fun _ hu => ?_
    split
    · exact untouched_takeSymbol hu hj p y
    · exact untouched_onPort hu p _
  | lineBreak p =>
    refine event_untouched hu h fun _ hu => ?_
    split
    · exact untouched_linkDown hu hj p _
    · exact untouched_onPort hu p _
  | frameCompleted p =>
    refine event_untouched hu h fun _ hu => ?_
    split
    · exact untouched_checkFrame (untouched_onPort hu p _) (by cases p <;> exact hj) p _
    · exact hu
  | transmitNextFrame p => exact event_untouched hu h fun _ hu => untouched_transmit hu p
  | inFlightTagExpiry n =>
    exact event_untouched_of_false hu h (by simp [State.flightDue, hu.inFlight])
  | statusPeriod | hostStale | unsupervised | ageingTick | dayBoundary =>
    exact event_untouched_of_false hu h (by simp [hj])
  | peerStale n | peerLost n => exact event_untouched_of_false hu h (by simp [State.silentFor, hj])
  | provisionalHoldExpiry o c | withdrawalOverdue c => exact event_untouched_of_false hu h (by simp [hj])
  | claimTimerExpiry =>
    exact event_untouched_of_false hu h (by simp [State.claimDue, untouched_slot hu])
  | retryTimerExpiry =>
    exact event_untouched_of_false hu h (by simp [State.retryDue, untouched_slot hu])
  | testLimitExpiry => exact event_untouched_of_false hu h (by simp [untouched_jobState hu])
  | ssFbRise | ssFbFall | mbsClosedRise | mbsClosedFall =>
    exact lineEvent_untouched hu h fun u hu hs =>
      untouched_onSwitch hu (by simpa only [State.joined, hs] using hj) _
  | invOkRise | invOkFall =>
    refine lineEvent_untouched hu h fun u hu hs => ?_
    rw [if_neg (by simpa only [State.joined, hs, Bool.not_eq_true] using hj)]
    exact hu
  | keyOnFall | keyOnRise =>
    refine lineEvent_untouched hu h fun u hu hs => ?_
    simp only [untouched_current hu]
    exact hu
  | autoRetransfer | syncFail => exact event_untouched_of_false hu h (by simp [untouched_seq_state hu])
  | confirmTimeout => exact event_untouched_of_false hu h (by simp [State.confirmDue, untouched_xfer hu])
  | zcInvEdge =>
    exact event_untouched hu h fun _ hu => untouched_of_frame hu (moves_frame (onPhase_moves (g := .all) _ _))
  | zcBypEdge =>
    refine event_untouched hu h fun _ hu => ?_
    have hphase : ∀ (u : State) f, u.Untouched → (u.onPhase f).Untouched := fun u f hu => { hu with }
    have hv := fun s0 f => untouched_onValidity (hphase _ f hu) s0
    simp only
    split
    · rw [State.evalCycle, if_neg]
      · exact hphase _ _ (hv _ _)
      · rw [show ∀ u : State, u.joined = (u.startup.state == .joined) from fun _ => rfl,
          (moves_frame (onValidity_moves (g := .all) ..)).kept .startup (by decide)]
        exact Bool.eq_false_iff.mp hj
    · exact hv _ _
  | phaseCounterWrap =>
    refine event_untouched hu h fun _ hu => ?_
    have hphase : ∀ (u : State) f, u.Untouched → (u.onPhase f).Untouched := fun u f hu => { hu with }
    have ha := untouched_advance hu
    have hjoined : (s.withStatusDue false).advance.joined = false := by
      have : (s.withStatusDue false).advance.startup = s.startup :=
        (advance_frame (s.withStatusDue false)).kept .startup (by decide)
      simpa only [State.joined, this] using hj
    unfold State.wrapCounter
    simp only
    rw [if_neg (by simp [hjoined])]
    exact untouched_onValidity (hphase _ _ ha) _
  | visitOverdue | visitLong =>
    exact event_untouched_of_false hu h (by simp [State.levelDue, untouched_current hu])

end

end Sys2Proof.Machine


/-! PROOFS. What every step keeps of the configuration, of the blocks before JOIN, and of the tables. -/

namespace Sys2Proof.Machine

-- One proof after another: side by side they ask for more thread stacks than there is memory for.
set_option Elab.async false

/-! ### The blocks before JOIN -/

theorem joined_of_startup {s t : State} (h : t.startup = s.startup) : t.joined = s.joined := by
  simp only [State.joined, h]

/-- JOINED is left by a reset alone. -/
theorem exec_joined {i : Instr} {s t : State} (hi : i ∉ resettingRows) (hj : s.joined = true)
    (h : exec i s = .next t) : t.joined = true := by
  obtain ht | ⟨hl, _⟩ | ⟨⟨hw, _⟩, _⟩ := exec_startup hi h
  · rw [joined_of_startup ht, hj]
  · simp [State.joined, hl] at hj
  · simp [State.joined, hw] at hj

theorem exec_beforeJoinOk {i : Instr} {s t : State} (hs : s.beforeJoinOk = true) (h : exec i s = .next t) :
    t.beforeJoinOk = true := by
  by_cases hi : i ∈ resettingRows
  · obtain rfl | ⟨p, b, rfl⟩ := exec_reset hi h
    · exact hs
    · exact beforeJoinOk_iff.mpr fun _ =>
        ⟨rfl, rfl, rfl, rfl, rfl, rfl, rfl, rfl, rfl, rfl, rfl, rfl, rfl, rfl, rfl, by
          simp [State.resetAll, State.reset]⟩
  · refine beforeJoinOk_iff.mpr fun hjt => ?_
    by_cases hj : s.joined = true
    · simp [exec_joined hi hj h] at hjt
    · have hj : s.joined = false := by simpa using hj
      exact (exec_untouched hi hj (beforeJoinOk_iff.mp hs hj) h).resolve_left (by simp [hjt])

theorem advance_beforeJoinOk {s : State} (hs : s.beforeJoinOk = true) : s.advance.beforeJoinOk = true := by
  refine beforeJoinOk_iff.mpr fun hj => untouched_advance (beforeJoinOk_iff.mp hs ?_)
  rwa [joined_of_startup ((advance_frame s).kept .startup (by decide))] at hj

/-! ### The configuration -/

/-- A configuration is held: `s` is in START_WINDOW or JOINED. -/
def State.configured (s : State) : Bool := s.inWindow || s.joined

theorem configOk_iff (s : State) : s.configOk = true ↔
    (s.configured = true → ∃ i, s.image = some i ∧ i.inRanges = true ∧ s.strings.length = i.stringCount)
    ∧ (s.configured = false → s.image = none ∧ s.strings = []) := by
  unfold State.configOk State.configured
  cases s.inWindow || s.joined <;> cases s.image <;> simp

theorem configOk_congr {s t : State} (hc : t.configured = s.configured) (hi : t.image = s.image)
    (hl : t.strings.length = s.strings.length) (hs : s.configOk = true) : t.configOk = true := by
  rw [configOk_iff] at hs ⊢
  rw [hc, hi, hl]
  exact ⟨hs.1, fun h => ⟨(hs.2 h).1, List.eq_nil_of_length_eq_zero (by rw [hl, (hs.2 h).2]; rfl)⟩⟩

/-- An image with no fault is in its ranges, with a block for each of its strings (R191, R195). -/
theorem inRanges_of_imageFault {b : List Byte} (h : imageFault b = none) : (imageOf b).inRanges = true := by
  unfold imageFault at h
  split at h
  · simp at h
  · split at h
    · simp at h
    · split at h
      · simp at h
      · rename_i hfind
        have hall : ∀ c ∈ imageChecks (imageOf b), c.2 = true := by
          simpa [List.find?_eq_none] using hfind
        have hcount : byteAt b 24 ≤ 4 := by
          have := hall (20, inRange (imageOf b).stringCount 0 4) (by simp [imageChecks])
          simpa [inRange, imageOf] using this
        simp only [Image.inRanges, Bool.and_eq_true, List.all_eq_true, beq_iff_eq]
        exact ⟨fun c hc => hall c hc, by simp [imageOf, hcount]⟩

/-- The completion of a read loads a configuration in its ranges, or none. -/
theorem imageRead_configOk {s : State} (b : List Byte) (hl : s.startup.state = .loading)
    (hs : s.configOk = true) : (s.imageRead b).configOk = true := by
  have hold : s.configured = false := by simp [State.configured, State.inWindow, State.joined, hl]
  have hfail : ∀ f : StartUp → StartUp, (f s.startup).state = .loading ∨ (f s.startup).state = .configFault →
      (s.onStartup f).configOk = true := fun f hf => by
    refine configOk_congr (s := s) ?_ rfl rfl hs
    rw [hold]
    obtain hf | hf := hf <;> simp [State.configured, State.inWindow, State.joined, State.onStartup, hf]
  unfold State.imageRead
  split
  · unfold State.attemptFails
    split
    · exact hfail _ (.inr rfl)
    · exact hfail _ (.inl hl)
  · split
    · exact hfail _ (.inr rfl)
    · rename_i hfault
      have hranges := inRanges_of_imageFault hfault
      refine (configOk_iff _).mpr ⟨fun _ => ⟨imageOf b, rfl, hranges, ?_⟩, fun hc => ?_⟩
      · have := (Bool.and_eq_true_iff.mp hranges).2
        simpa [State.enterWindow, State.onSeq] using this
      · simp [State.configured, State.inWindow, State.enterWindow, State.onStartup, State.onSeq] at hc

theorem exec_configOk {i : Instr} {s t : State} (hs : s.configOk = true) (h : exec i s = .next t) :
    t.configOk = true := by
  by_cases hi : i ∈ resettingRows
  · obtain rfl | ⟨p, b, rfl⟩ := exec_reset hi h
    · exact hs
    · rfl
  · by_cases hb : ∃ b, i = .imageReadComplete b
    · obtain ⟨b, rfl⟩ := hb
      have ha : s.Answers (fun _ u => u.configOk = true ∧ u.joined = false) t :=
        event_answers h fun _ hc => by
          have hl : s.startup.state = .loading := by
            simpa using (Bool.and_eq_true_iff.mp hc).1
          exact ⟨imageRead_configOk b hl hs, (imageRead_image (s.withStatusDue false) b hl).after⟩
      obtain rfl | ⟨_, u, ⟨hu, hj⟩, rfl⟩ := ha
      · exact hs
      · rwa [finish_beforeJoin hj]
    · have himage : ∀ b, i ≠ .imageReadComplete b := fun b hib => hb ⟨b, hib⟩
      have hkept := configOk_congr (t := t) (hi := exec_image_kept hi himage h)
        (hl := moves_strings_length (exec_moves (g := .all) hi himage (.inl rfl) h)) (hs := hs)
      refine hkept ?_
      unfold State.configured State.inWindow State.joined
      obtain ht | ⟨hl, ⟨ht, _⟩ | ⟨hj, hw, _⟩ | ⟨_, b, hib⟩⟩ | ⟨⟨hw, ht⟩, _⟩ := exec_startup hi h
      · rw [ht]
      · rw [ht, hl]
      · rw [hl, beq_eq_false_iff_ne.mpr hw, beq_eq_false_iff_ne.mpr hj]
        rfl
      · exact absurd hib (himage b)
      · simp [ht, hw]

theorem advance_configOk {s : State} (hs : s.configOk = true) : s.advance.configOk = true := by
  have hf := advance_frame s
  have hstart : s.advance.startup = s.startup := hf.kept .startup (by decide)
  exact configOk_congr (by simp only [State.configured, State.inWindow, State.joined, hstart])
    (hf.kept .image (by decide)) (congrArg _ (hf.kept .strings (by decide))) hs

/-- Settles O60: a configuration comes in by its read alone, and before JOIN every row leaves the acting
blocks in their reset state. -/
theorem beforeJoinKept : Obligations.BeforeJoinKept := fun _ _ hc hb h =>
  step_gives (P := fun u => u.configOk = true ∧ u.beforeJoinOk = true)
    (Q := fun u => u.configOk = true ∧ u.beforeJoinOk = true) ⟨hc, hb⟩ h (fun _ _ _ hu => hu) id
    (fun _ hu => ⟨advance_configOk hu.1, advance_beforeJoinOk hu.2⟩)
    fun _ _ _ hu hv => ⟨exec_configOk hu.1 hv, exec_beforeJoinOk hu.2 hv⟩

/-! ### The withdrawal list -/

theorem listOk_iff (s : State) : s.listOk = true ↔
    (s.claims.list.filter (fun w => w.owner != s.own)).length ≤ 29
    ∧ (∀ w ∈ s.claims.list, w.owner = s.own → w.active = true)
    ∧ (s.joined = false → s.claims.list = [] ∧ s.claims.slot = .free) := by
  simp only [State.listOk, State.peerEntries, State.ownWithdrawals, Bool.and_eq_true, Nat.ble_eq,
    List.all_eq_true, List.mem_filter, beq_iff_eq, Bool.or_eq_true, List.isEmpty_iff, and_imp, and_assoc,
    or_iff_not_imp_left, Bool.not_eq_true]

/-- Where the list is empty, an own number read from the image changes nothing in it. -/
theorem exec_listOk {i : Instr} {s t : State} (hs : s.listOk = true) (hb : s.beforeJoinOk = true)
    (h : exec i s = .next t) : t.listOk = true := by
  have hbefore : t.joined = false → t.claims.list = [] ∧ t.claims.slot = .free := fun hj =>
    have hu := beforeJoinOk_iff.mp (exec_beforeJoinOk hb h) hj
    ⟨untouched_list hu, untouched_slot hu⟩
  obtain ⟨hroom, hactive, hempty⟩ := (listOk_iff s).mp hs
  refine (listOk_iff t).mpr ?_
  suffices hl : (t.claims.list.filter (fun w => w.owner != t.own)).length ≤ 29
      ∧ (∀ w ∈ t.claims.list, w.owner = t.own → w.active = true) from ⟨hl.1, hl.2, hbefore⟩
  refine exec_keeps (P := fun t => (t.claims.list.filter (fun w => w.owner != t.own)).length ≤ 29
      ∧ (∀ w ∈ t.claims.list, w.owner = t.own → w.active = true)) ⟨hroom, hactive⟩ h ?_ ?_ ?_
  · exact fun p b => ⟨Nat.zero_le _, by simp [State.resetAll, State.reset]⟩
  · intro hr
    obtain ⟨hlist, _⟩ := hr.frame.kept .withdrawals (by decide)
    have hnil : t.claims.list = [] := hlist.trans (hempty (by simp [State.joined, hr.before])).1
    simp [hnil]
  · intro f hm
    have he := moves_entries hm
    rw [moves_own hm]
    exact ⟨he.room hroom, he.active hactive⟩

theorem advance_listOk {s : State} (hs : s.listOk = true) : s.advance.listOk = true := by
  have hf := advance_frame s
  obtain ⟨hlist, _⟩ := hf.kept .withdrawals (by decide)
  have hown : s.advance.own = s.own := own_of_kept (hf.kept .image (by decide))
  have hslot : s.advance.claims.slot = s.claims.slot := hf.kept .slot (by decide)
  rw [listOk_iff] at hs ⊢
  rwa [hlist, hown, hslot, joined_of_startup (hf.kept .startup (by decide))]

theorem exec_tableOk {i : Instr} {s t : State} (hs : s.tableOk = true) (h : exec i s = .next t) :
    t.tableOk = true :=
  exec_keeps (P := fun u => u.tableOk = true) hs h (fun _ _ => rfl)
    (fun hr => (tableOk_of_kept (hr.frame.kept .peers (by decide))).trans hs)
    fun _ hm => moves_tableOk hm hs

theorem exec_loopOk {i : Instr} {s t : State} (hs : s.loopOk = true) (h : exec i s = .next t) :
    t.loopOk = true :=
  exec_keeps (P := fun u => u.loopOk = true) hs h (fun _ _ => rfl)
    (fun hr => (loopOk_of_kept hr.frame (by decide)).trans hs)
    fun _ hm => moves_loopOk hm hs

/-! ### An admission's level -/

theorem exec_admissionOk {i : Instr} {s t : State} (hs : s.admissionOk = true) (h : exec i s = .next t) :
    t.admissionOk = true :=
  exec_keeps (P := fun u => u.admissionOk = true) hs h (fun _ _ => rfl)
    (fun hr => (admissionOk_of_kept (hr.frame.kept .visits (by decide))).trans hs)
    fun _ hm => moves_admissionOk hm hs

theorem step_admissionOk {s t : State} (hs : s.admissionOk = true) (h : step s = .next t) :
    t.admissionOk = true :=
  step_gives (P := fun u => u.admissionOk = true) (Q := fun u => u.admissionOk = true) hs h
    (fun _ _ _ hu => hu) id
    (fun u hu => (admissionOk_of_kept ((advance_frame u).kept .visits (by decide))).trans hu)
    fun _ _ _ hu hv => exec_admissionOk hu hv

end Sys2Proof.Machine


/-! PROOFS. The three measurement buffers: how many stand in each role, and which one an open MEAS_WRITE
writes into. -/

namespace Sys2Proof.Machine

-- One proof after another: side by side they ask for more thread stacks than there is memory for.
set_option Elab.async false

/-! ### Counting roles -/

/-- The number of buffers of `l` in role `r`. -/
def roleCount (l : List Buffer) (r : BufferRole) : Nat := (l.filter (fun b => b.role == r)).length

@[simp] theorem roleCount_nil (r : BufferRole) : roleCount [] r = 0 := rfl

theorem roleCount_cons (c : Buffer) (l : List Buffer) (r : BufferRole) :
    roleCount (c :: l) r = roleCount l r + if c.role = r then 1 else 0 := by
  by_cases h : c.role = r <;> simp [roleCount, h]

/-- A buffer that takes the place of another takes its count from one role to its own. -/
theorem roleCount_set {l : List Buffer} {i : Nat} {c : Buffer} (h : l[i]? = some c) (x : Buffer)
    (r : BufferRole) : roleCount (l.set i x) r + (if c.role = r then 1 else 0)
      = roleCount l r + if x.role = r then 1 else 0 := by
  induction l generalizing i with
  | nil => simp at h
  | cons b l ih =>
    cases i with
    | zero =>
      have hbc : b = c := by simpa using h
      rw [List.set_cons_zero, roleCount_cons, roleCount_cons, hbc]
      omega
    | succ i =>
      have := ih (by simpa using h)
      rw [List.set_cons_succ, roleCount_cons, roleCount_cons]
      omega

theorem roleCount_sum (l : List Buffer) : roleCount l .free + roleCount l .writing + roleCount l .ready
    + roleCount l .inUse = l.length := by
  induction l with
  | nil => rfl
  | cons b l ih =>
    simp only [roleCount_cons, List.length_cons]
    cases b.role <;> simp <;> omega

/-- A READY frame that is superseded leaves its buffer FREE. -/
def Buffer.supersede (c : Buffer) : Buffer := if c.role = .ready then { c with role := .free } else c

theorem roleCount_supersede_ready (l : List Buffer) : roleCount (l.map Buffer.supersede) .ready = 0 := by
  induction l with
  | nil => rfl
  | cons b l ih =>
    have hb : b.supersede.role ≠ .ready := by
      unfold Buffer.supersede
      split
      · exact BufferRole.noConfusion
      · assumption
    rw [List.map_cons, roleCount_cons, ih, if_neg hb]

theorem roleCount_supersede {r : BufferRole} (hr : r ≠ .ready) (hf : r ≠ .free) (l : List Buffer) :
    roleCount (l.map Buffer.supersede) r = roleCount l r := by
  induction l with
  | nil => rfl
  | cons b l ih =>
    have hb : b.supersede.role = r ↔ b.role = r := by
      unfold Buffer.supersede
      split
      · rename_i hb
        simp [hb, hr.symm, hf.symm]
      · rfl
    rw [List.map_cons, roleCount_cons, roleCount_cons, ih, if_congr hb rfl rfl]

theorem exists_of_roleCount_pos {l : List Buffer} {r : BufferRole} (h : 0 < roleCount l r) :
    ∃ i c, l.findIdx? (fun b => b.role == r) = some i ∧ l[i]? = some c ∧ c.role = r := by
  obtain ⟨b, hb⟩ := List.exists_mem_of_length_pos h
  obtain ⟨hmem, hrole⟩ := List.mem_filter.mp hb
  obtain ⟨i, hi⟩ := Option.isSome_iff_exists.mp
    (show (l.findIdx? (fun b => b.role == r)).isSome = true by
      simpa [List.findIdx?_isSome] using ⟨b, hmem, by simpa using hrole⟩)
  obtain ⟨hlt, hp, _⟩ := List.findIdx?_eq_some_iff_getElem.mp hi
  exact ⟨i, l[i], hi, List.getElem?_eq_getElem hlt, by simpa using hp⟩

theorem getElem_of_bufferIn {s : State} {r : BufferRole} {i : Nat} (h : s.bufferIn r = some i) :
    ∃ c, s.intake.buffers[i]? = some c ∧ c.role = r := by
  obtain ⟨hlt, hp, _⟩ := List.findIdx?_eq_some_iff_getElem.mp h
  exact ⟨_, List.getElem?_eq_getElem hlt, by simpa using hp⟩

theorem roleCount_eq_zero_of_hasBuffer {s : State} {r : BufferRole} (h : s.hasBuffer r = false) :
    roleCount s.intake.buffers r = 0 := by
  simpa [State.hasBuffer, roleCount, List.filter_eq_nil_iff] using h

theorem setRole_buffers {s : State} {i : Nat} {c : Buffer} (h : s.intake.buffers[i]? = some c)
    (r : BufferRole) : (s.setRole i r).intake.buffers = s.intake.buffers.set i { c with role := r } := by
  obtain ⟨hlt, rfl⟩ := List.getElem?_eq_some_iff.mp h
  exact List.modify_eq_set_get _ hlt

/-! ### The law -/

/-- An open MEAS_WRITE. -/
def State.writes (s : State) : Prop := ∃ b, s.host.txn = some (.measWrite b)

/-- What `buffersOk` says. -/
structure State.Buffers (s : State) : Prop where
  three : s.intake.buffers.length = 3
  ready : roleCount s.intake.buffers .ready ≤ 1
  inUse : roleCount s.intake.buffers .inUse ≤ 1
  writing : s.writes → roleCount s.intake.buffers .writing = 1
  idle : ¬ s.writes → roleCount s.intake.buffers .writing = 0
  target : ∀ b, s.host.txn = some (.measWrite b) →
    ∃ i c, b = some i ∧ s.intake.buffers[i]? = some c ∧ c.role = .writing

theorem buffersOk_iff (s : State) : s.buffersOk = true ↔ s.Buffers := by
  have hcount : ∀ r, s.buffersIn r = roleCount s.intake.buffers r := fun _ => rfl
  unfold State.buffersOk
  simp only [hcount, Bool.and_eq_true, beq_iff_eq, Nat.ble_eq]
  constructor
  · rintro ⟨⟨⟨h3, hr⟩, hi⟩, hw⟩
    split at hw
    · rename_i b htxn
      obtain ⟨hone, ht⟩ := Bool.and_eq_true_iff.mp hw
      obtain ⟨i, rfl, hrole⟩ := (Option.any_eq_true ..).mp ht
      obtain ⟨c, hc, hrole⟩ := Option.map_eq_some_iff.mp (by simpa using hrole)
      exact ⟨h3, hr, hi, fun _ => by simpa using hone, fun hn => absurd ⟨_, htxn⟩ hn,
        fun b hb => ⟨i, c, by simpa using hb.symm.trans htxn, hc, hrole⟩⟩
    all_goals
      rename_i htxn
      have hno : ¬ s.writes := fun ⟨b, hb⟩ => by simp [htxn] at hb
      exact ⟨h3, hr, hi, fun h => absurd h hno, fun _ => by simpa using hw,
        fun b hb => absurd ⟨b, hb⟩ hno⟩
  · intro h
    refine ⟨⟨⟨h.three, h.ready⟩, h.inUse⟩, ?_⟩
    split
    · rename_i b htxn
      obtain ⟨i, c, rfl, hc, hrole⟩ := h.target b htxn
      simp [h.writing ⟨_, htxn⟩, hc, hrole]
    all_goals
      rename_i htxn
      simpa using h.idle fun ⟨b, hb⟩ => by simp [htxn] at hb

/-- The law looks at the buffers and the open transaction alone. -/
theorem buffers_congr {s t : State} (hs : s.Buffers) (hb : t.intake.buffers = s.intake.buffers)
    (ht : t.host.txn = s.host.txn) : t.Buffers := by
  have hw : t.writes ↔ s.writes := by simp only [State.writes, ht]
  exact ⟨by rw [hb, hs.three], by rw [hb]; exact hs.ready, by rw [hb]; exact hs.inUse,
    fun h => by rw [hb]; exact hs.writing (hw.mp h), fun h => by rw [hb]; exact hs.idle (mt hw.mpr h),
    fun b h => by rw [hb]; exact hs.target b (ht ▸ h)⟩

/-- With no MEAS_WRITE open before or after, the transaction does not matter. -/
theorem buffers_of_idle {s t : State} (hs : s.Buffers) (hb : t.intake.buffers = s.intake.buffers)
    (hno : ¬ s.writes) (htno : ¬ t.writes) : t.Buffers :=
  ⟨by rw [hb, hs.three], by rw [hb]; exact hs.ready, by rw [hb]; exact hs.inUse, fun h => absurd h htno,
    fun _ => by rw [hb]; exact hs.idle hno, fun b h => absurd ⟨b, h⟩ htno⟩

/-- A buffer that is not WRITING changes its role to another than WRITING. -/
theorem buffers_setRole {s : State} {i : Nat} {c : Buffer} {r : BufferRole} (hs : s.Buffers)
    (hc : s.intake.buffers[i]? = some c) (hw : c.role ≠ .writing) (hr : r = .free ∨ r = .inUse
      ∧ roleCount s.intake.buffers .inUse = 0) : (s.setRole i r).Buffers := by
  have hset := setRole_buffers hc r
  have hcount := fun x => roleCount_set hc { c with role := r } x
  have hready := hcount .ready
  have hinUse := hcount .inUse
  have hwriting := hcount .writing
  have hrw : r ≠ .writing := by obtain rfl | ⟨rfl, _⟩ := hr <;> decide
  have hrr : r ≠ .ready := by obtain rfl | ⟨rfl, _⟩ := hr <;> decide
  simp only [hw, hrw, hrr, if_false, Nat.add_zero] at hready hinUse hwriting
  have hwrites : (s.setRole i r).writes ↔ s.writes := Iff.rfl
  refine ⟨by rw [hset, List.length_set, hs.three], ?_, ?_, fun h => ?_, fun h => ?_, fun b h => ?_⟩
  · rw [hset]; have := hs.ready; omega
  · rw [hset]
    have := hs.inUse
    obtain rfl | ⟨rfl, h0⟩ := hr <;> simp at hinUse <;> omega
  · rw [hset, hwriting]; exact hs.writing h
  · rw [hset, hwriting]; exact hs.idle h
  · obtain ⟨j, d, rfl, hj, hd⟩ := hs.target b h
    refine ⟨j, d, rfl, ?_, hd⟩
    have hij : i ≠ j := by rintro rfl; exact hw (by rw [hc] at hj; simp_all)
    rw [hset, List.getElem?_set_ne hij, hj]

/-! ### The host port's operations -/

theorem endEarly_txn (s : State) : s.endEarly.host.txn = none := by
  unfold State.endEarly
  split
  · assumption
  · simp only
    split
    · split <;> rfl
    all_goals rfl

theorem endEarly_buffers {s : State} (hs : s.Buffers) : s.endEarly.Buffers := by
  have hclosed : ¬ s.endEarly.writes := fun ⟨b, hb⟩ => by rw [endEarly_txn] at hb; cases hb
  unfold State.endEarly at hclosed ⊢
  split
  · exact hs
  · rename_i t htxn
    simp only [htxn] at hclosed
    split at hclosed
    · obtain ⟨i, c, rfl, hc, hrole⟩ := hs.target _ htxn
      have hset := setRole_buffers (s := s.onHost (fun h => { h with txn := none })) hc .free
      have hcount := fun x => roleCount_set hc { c with role := .free } x
      have hready := hcount .ready
      have hinUse := hcount .inUse
      have hwriting := hcount .writing
      have h1 := hs.writing ⟨_, htxn⟩
      have h2 := hs.ready
      have h3 := hs.inUse
      simp [hrole] at hready hinUse hwriting
      refine ⟨?_, ?_, ?_, fun h => absurd h hclosed, fun _ => ?_, fun b h => absurd ⟨b, h⟩ hclosed⟩
      all_goals
        simp only [State.onIntake, withIntake_intake] at hset ⊢
        rw [hset]
      · rw [List.length_set]; exact hs.three
      · exact hready ▸ h2
      · exact hinUse ▸ h3
      · show roleCount (s.intake.buffers.set i _) .writing = 0
        omega
    all_goals
      have hno : ¬ s.writes := fun ⟨b, hb⟩ => by rw [htxn] at hb; cases hb
      exact buffers_of_idle hs rfl hno hclosed

theorem openTxn_buffers {s : State} (hs : s.Buffers) (hno : s.host.txn = none) (k : TxnKind) :
    (s.openTxn k).Buffers := by
  have hidle : ¬ s.writes := fun ⟨b, hb⟩ => by rw [hno] at hb; cases hb
  cases k with
  | measWrite =>
    have h0 := hs.idle hidle
    have hsum := roleCount_sum s.intake.buffers
    have h1 := hs.ready
    have h2 := hs.inUse
    have h3 := hs.three
    obtain ⟨i, c, hi, hc, hrole⟩ := exists_of_roleCount_pos (l := s.intake.buffers) (r := .free) (by omega)
    have hopen : s.openTxn .measWrite
        = (s.onHost (fun h => { h with txn := some (.measWrite (some i)) })).setRole i .writing := by
      simp only [State.openTxn, State.bufferIn, hi]
    have hset := setRole_buffers
      (s := s.onHost (fun h => { h with txn := some (.measWrite (some i)) })) hc .writing
    have hcount := fun x => roleCount_set hc { c with role := .writing } x
    have hready := hcount .ready
    have hinUse := hcount .inUse
    have hwriting := hcount .writing
    simp [hrole] at hready hinUse hwriting
    have hw : (s.openTxn .measWrite).host.txn = some (.measWrite (some i)) := by rw [hopen]; rfl
    rw [← hopen] at hset
    have hset : (s.openTxn .measWrite).intake.buffers = s.intake.buffers.set i { c with role := .writing } :=
      hset
    refine ⟨by rw [hset, List.length_set, h3], by rw [hset]; omega, by rw [hset]; omega,
      fun _ => by rw [hset]; omega, fun hn => absurd ⟨_, hw⟩ hn, fun b hb => ⟨i, { c with role := .writing },
        by simpa using hb.symm.trans hw, ?_, rfl⟩⟩
    rw [hset, List.getElem?_set_self (List.getElem?_eq_some_iff.mp hc).1]
  | cmdWrite | replyRead | noticeRead | statusRead =>
    exact buffers_of_idle hs rfl hidle (fun ⟨b, hb⟩ => by simp [State.openTxn, State.onHost] at hb)

theorem opened_buffers {s : State} (hs : s.Buffers) (k : TxnKind) : (s.opened k).Buffers := by
  unfold State.opened
  split
  · exact hs
  · rename_i hnone
    exact openTxn_buffers hs (by simpa using hnone) k

/-- The transaction a completion ends is of its kind. -/
theorem opened_kind {s : State} {k : TxnKind} (h : s.mayComplete k = true) :
    ∃ t, (s.opened k).host.txn = some t ∧ t.kind = k := by
  unfold State.mayComplete at h
  unfold State.opened
  split at h
  · rename_i hnone
    simp only [hnone, Option.isSome_none, Bool.false_eq_true, if_false]
    cases k with
    | measWrite =>
      refine ⟨.measWrite (s.bufferIn .free), ?_, rfl⟩
      unfold State.openTxn
      simp only
      split <;> simp_all [State.setRole, State.onIntake, State.onHost]
    | cmdWrite | replyRead | noticeRead | statusRead => exact ⟨_, rfl, rfl⟩
  · rename_i t htxn
    rw [if_pos (by simp [htxn])]
    exact ⟨t, htxn, by simpa using h⟩

theorem not_writes_of_kind {s : State} {t : Txn} (h : s.host.txn = some t) (hk : t.kind ≠ .measWrite) :
    ¬ s.writes := fun ⟨b, hb⟩ => by
  rw [h] at hb
  cases hb
  exact hk rfl

theorem measWritten_buffers {s : State} (hs : s.Buffers) (b : List Byte) : (s.measWritten b).Buffers := by
  unfold State.measWritten
  split
  · rename_i i htxn
    obtain ⟨j, c, hj, hc, hrole⟩ := hs.target _ htxn
    obtain rfl : i = j := by simpa using hj
    have hmap : (s.intake.buffers.map Buffer.supersede)[i]? = some c := by
      rw [List.getElem?_map, hc]; simp [Buffer.supersede, hrole]
    have hcount := fun x => roleCount_set hmap ⟨.ready, b.take 40⟩ x
    have hready := hcount .ready
    have hinUse := hcount .inUse
    have hwriting := hcount .writing
    have h1 := hs.writing ⟨_, htxn⟩
    have h3 := hs.inUse
    simp [roleCount_supersede_ready, roleCount_supersede, hrole] at hready hinUse hwriting
    refine ⟨?_, ?_, ?_, fun ⟨b, hb⟩ => (by cases hb), fun _ => ?_, fun b hb => (by cases hb)⟩
    · simp [State.onIntake, State.onHost, hs.three]
    · exact hready.le
    · exact hinUse ▸ h3
    · show roleCount ((s.intake.buffers.map Buffer.supersede).set i _) .writing = 0
      omega
  · rename_i htxn
    obtain ⟨_, _, hn, _⟩ := hs.target _ htxn
    cases hn
  all_goals exact hs

/-- A completion that closes a transaction other than a MEAS_WRITE. -/
theorem closed_buffers {s t : State} (hs : s.Buffers) {x : Txn} (hx : s.host.txn = some x)
    (hk : x.kind ≠ .measWrite) (hb : t.intake.buffers = s.intake.buffers) (ht : t.host.txn = none) :
    t.Buffers :=
  buffers_of_idle hs hb (not_writes_of_kind hx hk) fun ⟨b, h⟩ => by rw [ht] at h; cases h

theorem cmdWritten_txn (s : State) (b : List Byte) : (s.cmdWritten b).host.txn = none := by
  unfold State.cmdWritten State.onHost
  simp only [withHost_host]
  split <;> rfl

theorem replyTaken_buffers {s : State} (hs : s.Buffers) : s.replyTaken.Buffers := by
  unfold State.replyTaken
  split
  · exact closed_buffers hs ‹_› (by simp [Txn.kind]) rfl rfl
  · exact closed_buffers hs ‹_› (by simp [Txn.kind]) rfl rfl
  all_goals exact hs

theorem noticeTaken_buffers {s : State} (hs : s.Buffers) : s.noticeTaken.Buffers := by
  unfold State.noticeTaken
  split
  · exact closed_buffers hs ‹_› (by simp [Txn.kind]) rfl rfl
  · exact closed_buffers hs ‹_› (by simp [Txn.kind]) rfl rfl
  all_goals exact hs

theorem statusTaken_buffers {s : State} (hs : s.Buffers) : s.statusTaken.Buffers := by
  unfold State.statusTaken
  split
  · exact closed_buffers hs ‹_› (by simp [Txn.kind]) rfl rfl
  all_goals exact hs

/-! ### The intake -/

/-- `t` has the buffers and the open transaction of `s`. -/
def State.SameBuffers (s t : State) : Prop :=
  t.intake.buffers = s.intake.buffers ∧ t.host.txn = s.host.txn

theorem sameBuffers_trans {s t u : State} (h : s.SameBuffers t) (k : t.SameBuffers u) : s.SameBuffers u :=
  ⟨k.1.trans h.1, k.2.trans h.2⟩

theorem sameBuffers_of_frame {s t : State} {f : List Piece} (h : s.ChangesOnly f t)
    (hi : f.contains .intake = false := by rfl) (ht : f.contains .transaction = false := by rfl) :
    s.SameBuffers t :=
  ⟨congrArg _ (h.kept .intake (by simpa using hi)), (h.kept .transaction (by simpa using ht)).1⟩

theorem sameBuffers_of_moves {s t : State} {f : List Piece} (h : Moves .all f s t)
    (hi : f.contains .intake = false := by rfl) (ht : f.contains .transaction = false := by rfl) :
    s.SameBuffers t := sameBuffers_of_frame (moves_frame h) hi ht

theorem takeString_buffers (f : MeasFrame) (base : Bool) (dt : Nat) (s : State) (k : Nat) :
    s.SameBuffers (s.takeString f base dt k) := by
  have hsample : ∀ i r, (∀ x : Intake, (i x).buffers = x.buffers) →
      s.SameBuffers ((s.onIntake i).onString k r) := fun i r hi => ⟨hi _, rfl⟩
  cases hj : s.joined with
  | true =>
    rw [takeString_joined hj]
    exact sameBuffers_trans (hsample _ _ (by intro; rfl)) (sameBuffers_of_moves (afterCount_moves ..))
  | false =>
    rw [takeString_unjoined hj]
    exact hsample _ _ (by intro; rfl)

theorem handOver_buffers (f : MeasFrame) (base : Bool) (dt : Nat) (s : State) :
    s.SameBuffers (s.handOver f base dt) := by
  have hfold : ∀ (l : List Nat) (u : State), u.SameBuffers (l.foldl (State.takeString f base dt) u) := by
    intro l
    induction l with
    | nil => exact fun u => ⟨rfl, rfl⟩
    | cons k l ih => exact fun u => sameBuffers_trans (takeString_buffers f base dt u k) (ih _)
  unfold State.handOver
  simp only
  have hend : ∀ u : State, u.SameBuffers u.evalMargin.formBypOk := fun u =>
    sameBuffers_trans (sameBuffers_of_moves (evalMargin_moves u)) (sameBuffers_of_moves (formBypOk_moves _))
  refine sameBuffers_trans (sameBuffers_trans (hfold (List.range s.strings.length) s) ?_) (hend _)
  split <;> exact ⟨rfl, rfl⟩

theorem takeFrame_buffers (f : MeasFrame) (s : State) : s.SameBuffers (s.takeFrame f) := by
  have hfed : ∀ u : State, u.SameBuffers ((u.onIntake (Intake.takeFigures f s.cfg.pRated s.us)).feedDog) :=
    fun u => sameBuffers_trans (t := u.onIntake _) ⟨rfl, rfl⟩ (sameBuffers_of_moves (feedDog_moves _))
  unfold State.takeFrame
  simp only
  split
  · refine sameBuffers_trans (sameBuffers_of_moves (sinceTakeIn_moves s)) (sameBuffers_trans (hfed _) ?_)
    exact sameBuffers_trans (handOver_buffers ..) (sameBuffers_trans
      (sameBuffers_of_moves (evalMargin_moves _)) (sameBuffers_of_moves (raise_moves ..)))
  · exact sameBuffers_trans (hfed s) (handOver_buffers ..)

theorem examine_buffers {s : State} {i : Nat} (hs : s.Buffers) (hi : s.bufferIn .ready = some i)
    (hno : s.hasBuffer .inUse = false) : (s.examine i).Buffers := by
  obtain ⟨c, hc, hrole⟩ := getElem_of_bufferIn hi
  have hw : c.role ≠ .writing := by simp [hrole]
  have hfree : (s.setRole i .free).Buffers := buffers_setRole hs hc hw (.inl rfl)
  have huse : (s.setRole i .inUse).Buffers :=
    buffers_setRole hs hc hw (.inr ⟨rfl, roleCount_eq_zero_of_hasBuffer hno⟩)
  unfold State.examine
  simp only
  split
  · split
    · exact buffers_congr hfree rfl rfl
    · obtain ⟨hb, ht⟩ := takeFrame_buffers (measOf (s.intake.buffers.getD i ⟨.free, []⟩).bytes)
        (s.setRole i .inUse)
      exact buffers_congr huse hb ht
  · exact hfree

/-! ### Every row -/

/-- The rows that touch the intake or a transaction. -/
def bufferRows (i : Instr) : Bool :=
  (rowPieces i).contains .intake || (rowPieces i).contains .transaction

theorem answers_buffers {s t : State} (hs : s.Buffers) (h : s.Answers (fun _ u => u.Buffers) t) :
    t.Buffers := by
  obtain rfl | ⟨_, u, hu, rfl⟩ := h
  · exact hs
  · obtain ⟨hb, ht⟩ := sameBuffers_of_moves (finish_moves (g := .all) s u)
    exact buffers_congr hu hb ht

theorem event_buffers {s t : State} {c : Bool} {body : State → State} (hs : s.Buffers)
    (h : s.event c body = .next t)
    (hb : c = true → (s.withStatusDue false).Buffers → (body (s.withStatusDue false)).Buffers) :
    t.Buffers :=
  answers_buffers hs (event_answers h fun _ hc => hb hc (buffers_congr hs rfl rfl))

theorem answer_buffers (s : State) (c : ReplyCode) (l : List Byte) : s.SameBuffers (s.answer c l) :=
  sameBuffers_of_frame (answer_frame s c l)

theorem joinFloor_buffers (s : State) : s.SameBuffers s.joinFloor := by
  have h : ∀ u : State, u.SameBuffers u.takePosition.evalMargin := fun u =>
    sameBuffers_trans (sameBuffers_of_moves (takePosition_moves u)) (sameBuffers_of_moves (evalMargin_moves _))
  exact sameBuffers_trans (h (s.onStartup (fun u => { u with state := .joined, windowEnds := none })))
    ⟨rfl, rfl⟩

theorem goStale_buffers (s : State) : s.SameBuffers s.goStale := by
  have h : ∀ u : State, u.SameBuffers (((u.abortTest .stale).evalMargin).dogNotice .hostStale) := fun u =>
    sameBuffers_trans (sameBuffers_of_moves (abortTest_moves ..)) (sameBuffers_trans
      (sameBuffers_of_moves (evalMargin_moves _)) (sameBuffers_of_moves (dogNotice_moves ..)))
  obtain ⟨hb, ht⟩ := h (((s.withDog ⟨.hostStale, some (s.now + s.cfg.hostTimeout)⟩).formAllAvail).onIntake
    (fun i => { i with baselineNext := true }))
  exact ⟨hb, ht⟩

theorem goUnsupervised_buffers (s : State) : s.SameBuffers s.goUnsupervised := by
  have h : ∀ u : State, u.SameBuffers (u.evalMargin.dogNotice .unsupervised) := fun u =>
    sameBuffers_trans (sameBuffers_of_moves (evalMargin_moves u)) (sameBuffers_of_moves (dogNotice_moves ..))
  obtain ⟨hb, ht⟩ := h ((s.withDog ⟨.unsupervised, none⟩).onOuts (fun o => { o with unsupervised := true }))
  exact ⟨hb, ht⟩

theorem exec_buffers {i : Instr} {s t : State} (hs : s.Buffers) (h : exec i s = .next t) : t.Buffers := by
  have same : ∀ {u v : State}, u.Buffers → u.SameBuffers v → v.Buffers :=
    fun hu hv => buffers_congr hu hv.1 hv.2
  have hanswer := fun (u : State) (hu : u.Buffers) c l => same hu (answer_buffers u c l)
  have hdue : (s.withStatusDue false).Buffers := buffers_congr hs rfl rfl
  by_cases hr : i ∈ resettingRows
  · obtain rfl | ⟨p, b, rfl⟩ := exec_reset hr h
    · exact hs
    · exact (buffersOk_iff _).mp rfl
  · by_cases hb : ∃ b, i = .imageReadComplete b
    · obtain ⟨b, rfl⟩ := hb
      obtain rfl | hread := exec_image h
      · exact hs
      · exact same hs (sameBuffers_of_frame hread.frame)
    · by_cases hrow : bufferRows i = true
      · cases i with
        | startWindowExpiry => exact event_buffers hs h fun _ hs => same hs (joinFloor_buffers _)
        | join =>
          refine answers_buffers hs (command_answers h fun r _ _ _ _ => ?_)
          split
          · exact hanswer _ hdue _ _
          · exact hanswer _ hdue _ _
          · exact hanswer _ (same hdue (joinFloor_buffers _)) _ _
          · exact hanswer _ hdue _ _
        | reset =>
          exact answers_buffers hs (command_answers h fun r _ _ _ _ =>
            buffers_congr (hanswer _ hdue _ _) rfl rfl)
        | readCounters =>
          refine answers_buffers hs (command_answers h fun r _ _ _ _ => ?_)
          simp only
          split
          · exact hanswer _ hdue _ _
          · split
            · exact buffers_congr (hanswer _ hdue _ _) rfl rfl
            · exact buffers_congr (hanswer _ hdue _ _) rfl rfl
        | measWrite b =>
          refine event_buffers hs h fun _ hs => ?_
          have ho := opened_buffers hs .measWrite
          simp only
          split
          · exact endEarly_buffers ho
          · exact measWritten_buffers ho b
        | cmdWrite b =>
          refine event_buffers hs h fun hc hs => ?_
          have ho := opened_buffers hs .cmdWrite
          obtain ⟨x, hx, hk⟩ := opened_kind (s := s.withStatusDue false) hc
          simp only
          split
          · exact endEarly_buffers ho
          · exact closed_buffers ho hx (by simp [hk]) rfl (cmdWritten_txn _ b)
        | replyRead => exact event_buffers hs h fun _ hs => replyTaken_buffers (opened_buffers hs _)
        | noticeRead => exact event_buffers hs h fun _ hs => noticeTaken_buffers (opened_buffers hs _)
        | statusRead => exact event_buffers hs h fun _ hs => statusTaken_buffers (opened_buffers hs _)
        | badTransaction b =>
          exact event_buffers hs h fun _ hs =>
            buffers_congr (endEarly_buffers hs) rfl (endEarly_txn _).symm
        | transactionEndsEarly => exact event_buffers hs h fun _ hs => endEarly_buffers hs
        | transactionBegins k =>
          exact event_buffers hs h fun _ hs => openTxn_buffers (endEarly_buffers hs) (endEarly_txn _) k
        | measTakeIn =>
          refine event_buffers hs h fun hc hs => ?_
          split
          · rename_i i hi
            have hno : s.hasBuffer .inUse = false := by simpa using (Bool.and_eq_true_iff.mp hc).2
            exact examine_buffers hs hi hno
          · exact hs
        | takeInEnd =>
          refine event_buffers hs h fun _ hs => ?_
          split
          · rename_i i hi
            obtain ⟨c, hc, hrole⟩ := getElem_of_bufferIn hi
            exact buffers_congr (buffers_setRole hs hc (by simp [hrole]) (.inl rfl)) rfl rfl
          · exact hs
        | hostStale => exact event_buffers hs h fun _ hs => same hs (goStale_buffers _)
        | unsupervised => exact event_buffers hs h fun _ hs => same hs (goUnsupervised_buffers _)
        | _ => exact absurd hrow Bool.false_ne_true
      · obtain ⟨hi, ht⟩ : (rowPieces i).contains .intake = false
            ∧ (rowPieces i).contains .transaction = false := by
          simpa only [bufferRows, Bool.or_eq_true, not_or, Bool.not_eq_true] using hrow
        have himage : ∀ b, i ≠ .imageReadComplete b := fun b hib => hb ⟨b, hib⟩
        exact same hs ⟨congrArg _ (exec_kept hr himage h (p := .intake) hi),
          (exec_kept hr himage h (p := .transaction) ht).1⟩

theorem advance_buffers {s : State} (hs : s.Buffers) : s.advance.Buffers := by
  obtain ⟨hb, ht⟩ := sameBuffers_of_frame (advance_frame s)
  exact buffers_congr hs hb ht

theorem step_buffersOk {s t : State} (hs : s.buffersOk = true) (h : step s = .next t) :
    t.buffersOk = true :=
  (buffersOk_iff t).mpr <| step_gives (P := State.Buffers) (Q := State.Buffers) ((buffersOk_iff s).mp hs) h
    (fun _ _ _ hu => buffers_congr hu rfl rfl) id (fun _ hu => advance_buffers hu)
    fun _ _ _ hu hv => exec_buffers hu hv

/-- Settles O57: the tables and the list go along with `Moves`, and each operation on a buffer keeps the
counts of the roles. -/
theorem tablesKept : Obligations.TablesKept := by
  refine ⟨fun s t ht hl hw hb h => ?_, fun s t => step_buffersOk, rfl, fun s hs => ?_⟩
  · refine step_gives (P := fun u => u.tableOk = true ∧ u.loopOk = true ∧ u.listOk = true
        ∧ u.beforeJoinOk = true) (Q := fun u => u.tableOk = true ∧ u.loopOk = true ∧ u.listOk = true)
      ⟨ht, hl, hw, hb⟩ h (fun _ _ _ hu => hu) (fun ⟨ht, hl, hw, _⟩ => ⟨ht, hl, hw⟩)
      (fun u ⟨ht, hl, hw, _⟩ => ?_) fun i u v ⟨ht, hl, hw, hb⟩ hv =>
        ⟨exec_tableOk ht hv, exec_loopOk hl hv, exec_listOk hw hb hv⟩
    have hm := advance_moves (g := .all) u
    exact ⟨moves_tableOk hm ht, moves_loopOk hm hl, advance_listOk hw⟩
  · have hs := (buffersOk_iff s).mp hs
    have hle : roleCount s.intake.buffers .writing ≤ 1 := by
      by_cases hw : s.writes
      · exact (hs.writing hw).le
      · rw [hs.idle hw]; exact Nat.zero_le 1
    refine ⟨hs.three, hle, hs.ready, hs.inUse, ⟨fun h1 => ?_, hs.writing⟩, hs.target⟩
    by_contra hn
    have h1 : roleCount s.intake.buffers .writing = 1 := h1
    rw [hs.idle hn] at h1
    cases h1

end Sys2Proof.Machine


/-! PROOFS. Where an own entry that is not forced comes from: outside the return of its claim the own list
only loses entries, or gains forced ones. -/

namespace Sys2Proof.Machine

-- One proof after another: side by side they ask for more thread stacks than there is memory for.
set_option Elab.async false

/-! ### Operations that only take entries out of the list -/

/-- The list of `t` holds entries of `s` alone, as they were. -/
def State.Drops (s t : State) : Prop := t.claims.list.Sublist s.claims.list

section
variable {s t u : State}

theorem drops_trans (h : s.Drops t) (k : t.Drops u) : s.Drops u := List.Sublist.trans k h

theorem list_of_frame {f : List Piece} (h : s.ChangesOnly f t)
    (hf : f.contains .withdrawals = false := by rfl) : t.claims.list = s.claims.list :=
  (h.kept .withdrawals (by simpa using hf)).1

theorem drops_of_frame {f : List Piece} (h : s.ChangesOnly f t)
    (hf : f.contains .withdrawals = false := by rfl) : s.Drops t := by
  unfold State.Drops
  rw [list_of_frame h hf]

theorem release_drops (s : State) (c : WKind → Bool) : s.Drops (s.release c) := by
  have hremoved : ∀ p, s.Drops (s.removeEntries p) := fun p => by
    rw [State.Drops, removeEntries_list]; exact List.filter_sublist
  have hsent : ∀ (u : State) i r, u.Drops (u.sendDrop i r) := fun u i r =>
    drops_of_frame (sendDrop_frame u i r)
  unfold State.release
  split
  · exact drops_trans (t := State.sendDrop _ _ _) (drops_trans (hremoved _) (hsent ..))
      (drops_of_frame (markStatus_frame _))
  · exact List.Sublist.refl _

theorem endTest_drops (s : State) (v : Verdict) : s.Drops (s.endTest v) := by
  unfold State.endTest
  refine drops_trans (drops_trans (drops_trans (drops_trans (drops_trans (drops_trans ?_
    (release_drops _ WKind.isTest)) (drops_of_frame (onString_frame ..)))
    (drops_of_frame (withJob_frame ..))) (drops_of_frame (verdictEffects_frame ..)))
    (drops_of_frame (onString_frame ..))) (drops_of_frame (testEndNotice_frame ..))
  exact drops_trans (drops_of_frame (dischReq_frame ..)) (drops_of_frame (setStringState_frame ..))

theorem reportTest_drops (s : State) (f : Final) : s.Drops (s.reportTest f) := by
  unfold State.reportTest
  have hdenied : ∀ (u : State) o a b, u.Drops (u.testDenied o a b) := fun u o a b =>
    drops_of_frame (testDenied_frame ..)
  split
  · split
    · exact hdenied ..
    · split
      · split
        · exact drops_of_frame (startTest_frame ..)
        · exact drops_trans (release_drops ..) (hdenied ..)
      · exact hdenied ..
  · exact List.Sublist.refl _

theorem reportSeq_drops (s : State) (i : Nat) (f : Final) : s.Drops (s.reportSeq i f) := by
  have hseq : ∀ (u : State) g, u.Drops (u.onSeq g) := fun u g => drops_of_frame (onSeq_frame ..)
  have hresult : ∀ (u : State) a b c d, u.Drops (u.transferResult a b c d) := fun u a b c d =>
    drops_of_frame (notify_frame ..)
  have honline : ∀ u : State, u.Drops u.goOnline := fun u => drops_of_frame (goOnline_frame u)
  unfold State.reportSeq
  split
  · exact drops_trans (hseq ..) (hresult ..)
  · simp only
    split
    · split
      · exact drops_trans (drops_trans (hseq ..) (drops_of_frame (goto_frame ..)))
          (drops_of_frame (startXfer_frame ..))
      · exact drops_trans (drops_trans (drops_trans (hseq ..) (release_drops ..)) (honline _)) (hresult ..)
    · exact drops_trans (drops_trans (hseq ..) (honline _)) (hresult ..)

theorem report_drops (s : State) (q : Request) (f : Final) : s.Drops (s.report q f) := by
  unfold State.report
  split
  · exact reportSeq_drops ..
  · exact reportTest_drops ..
  · exact drops_of_frame (reportVisit_frame ..)

theorem giveUp_drops (s : State) (w : Requester) : s.Drops (s.giveUp w) := by
  unfold State.giveUp
  split
  · split
    · exact drops_of_frame (setSlot_frame ..)
    · exact List.Sublist.refl _
  · split
    · exact drops_trans (drops_of_frame (setSlot_frame ..)) (report_drops ..)
    · exact List.Sublist.refl _
  · exact List.Sublist.refl _

theorem abortTest_drops (s : State) (c : AbortCause) : s.Drops (s.abortTest c) := by
  unfold State.abortTest
  split
  · exact endTest_drops ..
  · split
    · exact drops_trans (drops_of_frame (withJob_frame ..)) (giveUp_drops ..)
    · exact List.Sublist.refl _
  · exact List.Sublist.refl _

theorem marginStep_drops (s : State) : s.Drops s.marginStep := by
  unfold State.marginStep
  simp only
  split
  · exact List.Sublist.refl _
  · split
    · exact drops_trans (drops_of_frame (marginNotice_frame ..)) (abortTest_drops ..)
    · exact drops_of_frame (marginNotice_frame ..)

theorem evalMargin_drops (s : State) : s.Drops s.evalMargin := by
  unfold State.evalMargin
  split
  · simp only
    split
    · exact marginStep_drops s
    · exact drops_trans (marginStep_drops s) (marginStep_drops _)
  · exact List.Sublist.refl _

theorem finish_drops (s0 s : State) : s.Drops (State.finish s0 s) := by
  unfold State.finish
  simp only
  split
  · exact drops_trans (evalMargin_drops s) (drops_of_frame (queueStatus_frame _))
  · exact evalMargin_drops s

/-! ### The return of the own claim -/

/-- What the obligation asks of the frame `b` that made the own entry `w`. -/
def State.returnedAs (s : State) (b : List Byte) (w : Withdrawal) : Prop :=
  (∃ q tag d, s.claims.slot = .inFlight q w.claimId tag d ∧ frTag b = tag ∧ q.givenUp = false
    ∧ w.kind = q.kind ∧ w.scope = q.scope)
  ∧ claimObjections b = 0
  ∧ (∀ n ∈ s.peerNumbers, (s.peer n).state = .present → maskHas (frVisited b) n = true)
  ∧ s.cfg.quorum ≤ maskCount (frVisited b) + 1

/-- A mask with a station added is not empty. -/
theorem maskAdd_pos (m n : Nat) (h : m ≠ 0) : maskAdd m n ≠ 0 := by
  unfold maskAdd
  split
  · exact h
  · exact Nat.ne_of_gt (Nat.add_pos_left (Nat.pos_of_ne_zero h) _)

theorem foldl_maskAdd_eq_zero {l : List Nat} (h : l.foldl maskAdd 0 = 0) : l = [] := by
  cases l with
  | nil => rfl
  | cons n l =>
    have hpos : maskAdd 0 n ≠ 0 := by simp [maskAdd, maskHas]
    have hfold : ∀ (l : List Nat) m, m ≠ 0 → l.foldl maskAdd m ≠ 0 := by
      intro l
      induction l with
      | nil => exact fun m hm => hm
      | cons a l ih => exact fun m hm => ih _ (maskAdd_pos m a hm)
    exact absurd h (hfold l _ hpos)

/-- No PRESENT peer is missing from a mask exactly where each has its bit set. -/
theorem missingPeers_eq_zero (s : State) (m : Nat) : s.missingPeers m = 0 ↔
    ∀ n ∈ s.peerNumbers, (s.peer n).state = .present → maskHas m n = true := by
  have hlist : (s.peersIn .present).filter (fun n => !maskHas m n) = [] ↔
      ∀ n ∈ s.peerNumbers, (s.peer n).state = .present → maskHas m n = true := by
    simp only [State.peersIn, List.filter_eq_nil_iff, List.mem_filter, beq_iff_eq, and_imp]
    refine forall₂_congr fun n _ => ?_
    cases maskHas m n <;> simp
  rw [← hlist]
  exact ⟨foldl_maskAdd_eq_zero, fun h => by unfold State.missingPeers; rw [h]; rfl⟩

/-- A return that does not fail was unobjected, heard, and by a quorum (R81). -/
theorem returnFailure_none {s : State} {q : Request} {b : List Byte} (h : s.returnFailure q b = none) :
    claimObjections b = 0
    ∧ (∀ n ∈ s.peerNumbers, (s.peer n).state = .present → maskHas (frVisited b) n = true)
    ∧ s.cfg.quorum ≤ maskCount (frVisited b) + 1 := by
  unfold State.returnFailure at h
  split at h
  · split at h <;> cases h
  · split at h
    · cases h
    · rename_i hobj hheard
      obtain ⟨hmissing, hquorum⟩ := not_or.mp hheard
      exact ⟨not_not.mp hobj, (missingPeers_eq_zero s _).mp (not_not.mp hmissing), by omega⟩

theorem settleFailed_drops (s : State) (q : Request) (id : Nat) (f : Final) :
    s.Drops (s.settleFailed q id f) := by
  have hs1 : s.Drops ((s.setSlot .free).sendDrop id .failed) :=
    drops_trans (drops_of_frame (setSlot_frame s .free)) (drops_of_frame (sendDrop_frame ..))
  have hfinal : ∀ (u : State) x, u.Drops (u.finalOutcome q x) := fun u x =>
    drops_trans (drops_of_frame (setSlot_frame u .free)) (report_drops ..)
  have hretry : ∀ (u : State) x, u.Drops (u.retryOrEnd q x) := fun u x => by
    unfold State.retryOrEnd
    split
    · exact hfinal ..
    · split
      · exact hfinal ..
      · exact drops_of_frame (setSlot_frame ..)
  unfold State.settleFailed
  simp only
  split
  · exact drops_trans hs1 (hretry ..)
  · exact drops_trans hs1 (hretry ..)
  · exact drops_trans hs1 (hretry ..)
  all_goals exact drops_trans hs1 (hfinal ..)

/-- The one way in which an own entry that is not forced joins the list. -/
theorem claimReturned_entry {w : Withdrawal} (b : List Byte)
    (hw : w ∈ (s.claimReturned b).claims.list) (hnew : w ∉ s.claims.list) : s.returnedAs b w := by
  unfold State.claimReturned at hw
  split at hw
  · rename_i q id tag d hslot
    split at hw
    · split at hw
      · rename_i htag _ hok
        unfold State.settleGranted at hw
        simp only at hw
        split at hw
        · refine absurd (report_drops _ q _ |>.subset hw) fun hw => hnew ?_
          rwa [list_of_frame (sendDrop_frame ..), list_of_frame (sendGrant_frame ..)] at hw
        · rename_i hgiven
          have hw := (report_drops _ q _).subset hw
          rw [list_of_frame (sendGrant_frame ..)] at hw
          obtain hw | hw := List.mem_append.mp hw
          · exact absurd hw hnew
          · obtain rfl := List.mem_singleton.mp hw
            exact ⟨⟨q, tag, d, hslot, htag, by simpa using hgiven, rfl, rfl⟩, returnFailure_none hok⟩
      · exact absurd ((settleFailed_drops ..).subset hw) hnew
    · exact absurd hw hnew
  · exact absurd hw hnew
  · exact absurd hw hnew

theorem forward_list (s : State) (p : Port) {b : List Byte} (hb : 11 ≤ b.length) :
    (s.forward p b).claims.list = s.claims.list :=
  list_of_frame (moves_frame (forward_moves (g := .all) s p hb))

/-- What the completion of a frame that brings a grant makes of the list. -/
theorem checkFrame_entry {w : Withdrawal} (p : Port) {b : List Byte} (hgrant : s.bringsGrant b)
    (hw : w ∈ (s.checkFrame p b).claims.list) (hnew : w ∉ s.claims.list) :
    (s.port p).up = true ∧ frameOk b = true ∧ s.returnedAs b w := by
  unfold State.checkFrame at hw
  split at hw
  · exact absurd hw hnew
  · rename_i hup
    split at hw
    · rename_i hok
      refine ⟨by simpa using hup, hok, ?_⟩
      have hlen := length_of_frameOk hok
      unfold State.handleFrame at hw
      rw [if_pos hgrant.1] at hw
      split at hw
      · exact absurd (forward_list s p hlen ▸ hw) hnew
      · have hhome : w ∈ (s.comeHome b).claims.list → s.returnedAs b w := fun hw => by
          rw [State.comeHome, if_pos hgrant.2.1] at hw
          exact claimReturned_entry (s := s.endFlight (frTag b)) b hw hnew
        unfold State.handleOwn at hw
        split at hw
        · cases p with
          | a => exact hhome hw
          | b =>
            simp only at hw
            split at hw
            · exact absurd (forward_list s .b hlen ▸ hw) hnew
            · exact hhome hw
        · rw [forward_list _ p hlen, list_of_frame (moves_frame (foundDuplicate_moves (g := .all) ..))] at hw
          exact absurd hw hnew
    · rw [list_of_frame (onPort_frame ..)] at hw
      exact absurd hw hnew

end

/-- Settles O42: outside the return of a claim no row brings an own entry that is not forced, and where a
claim returns, the list gains the entry of its request alone. -/
theorem activeOnlyByReturn : Obligations.ActiveOnlyByReturn := by
  intro i s t w hlist h hw hown hactive hforced hnew
  obtain ⟨_, _, hempty⟩ := (listOk_iff s).mp hlist
  have moved : ∀ {f u}, Moves ⟨false, true, true⟩ f s u → w ∈ u.claims.list → w.owner = u.own → False :=
    fun {f u} hm hwu ho => by
      rw [moves_own hm] at ho
      obtain ⟨x, hx, hxo, hxi, _⟩ := (moves_entries hm).unforced rfl w hwu ho hforced
      exact hnew x hx (hxo.trans ho.symm) hxi
  have hfresh : t = s → False := fun ht => by subst ht; exact hnew w hw rfl rfl
  by_cases hr : i ∈ resettingRows
  · obtain ht | ⟨p, b, rfl⟩ := exec_reset hr h
    · exact (hfresh ht).elim
    · simp [State.resetAll, State.reset] at hw
  by_cases hb : ∃ b, i = .imageReadComplete b
  · obtain ⟨b, rfl⟩ := hb
    obtain ht | hread := exec_image h
    · exact (hfresh ht).elim
    · rw [list_of_frame hread.frame, (hempty (by simp [State.joined, hread.before])).1] at hw
      cases hw
  have himage : ∀ b, i ≠ .imageReadComplete b := fun b hib => hb ⟨b, hib⟩
  by_cases hp : ∃ p, i = .frameCompleted p
  swap
  · have hm := exec_moves (g := ⟨false, true, true⟩) hr himage (.inr fun p hip => hp ⟨p, hip⟩) h
    exact (moved hm hw hown).elim
  obtain ⟨p, rfl⟩ := hp
  by_cases hgrant : ∀ b rest, (s.port p).completed = b :: rest → ¬ (s.handed p rest).bringsGrant b
  · have hm := answers_moves (g := ⟨false, true, true⟩) (execFrameCompleted_answers h (.inr hgrant))
    exact (moved hm hw hown).elim
  push Not at hgrant
  obtain ⟨b, rest, hcompleted, hgrant⟩ := hgrant
  have ha : s.Answers (fun v u => v = s.withStatusDue false ∧ u = (s.handed p rest).checkFrame p b) t :=
    event_answers h fun _ _ => ⟨rfl, by
      rw [show ((s.withStatusDue false).port p).completed = b :: rest by cases p <;> exact hcompleted]
      rfl⟩
  obtain ht | ⟨hrun, u, ⟨_, rfl⟩, rfl⟩ := ha
  · exact (hfresh ht).elim
  have hown' : (State.finish s ((s.handed p rest).checkFrame p b)).own = (s.handed p rest).own := by
    rw [moves_own (finish_moves (g := .all) ..), moves_own (checkFrame_moves (g := .all) _ p b (.inl rfl))]
  have hs : (s.handed p rest).claims.list = s.claims.list ∧ (s.handed p rest).own = s.own := by
    cases p <;> exact ⟨rfl, rfl⟩
  have hwnew : w ∉ (s.handed p rest).claims.list := fun hin => by
    rw [hs.1] at hin
    exact hnew w hin rfl rfl
  obtain ⟨hup, hok, ⟨q, tag, d, hslot, htag, hgiven, hkind, hscope⟩, hobj, hheard, hquorum⟩ :=
    checkFrame_entry p hgrant ((finish_drops ..).subset hw) hwnew
  have hport : (s.port p).up = true := by cases p <;> exact hup
  have hview : (s.handed p rest).claims = s.claims ∧ (s.handed p rest).view = s.view
      ∧ (s.handed p rest).image = s.image := by cases p <;> exact ⟨rfl, rfl, rfl⟩
  refine ⟨p, b, rest, q, tag, d, rfl, ⟨hrun, hport, hcompleted, hok⟩, hgrant.1.trans hs.2, hgrant.2.1, ?_,
    htag, hgiven, hkind, hscope, hobj, ?_, ?_⟩
  · rw [← hview.1]; exact hslot
  · intro n hn hpresent
    refine hheard n (by simpa only [State.peerNumbers, hs.2] using hn) ?_
    simpa only [State.peer, hview.2.1] using hpresent
  · simpa only [State.cfg, hview.2.2] using hquorum

end Sys2Proof.Machine


/-! PROOFS. The floor sums forget the margin state and the ages of the entries; so what the end of an event
evaluates stands. -/

namespace Sys2Proof.Machine

-- One proof after another: side by side they ask for more thread stacks than there is memory for.
set_option Elab.async false

/-! ### What the sums depend on -/

/-- Two states whose floor sums are formed of the same values: the list, the policy, and of each entry the
state, the figures, the string reports and the three flags that R63 and R64 name. -/
structure State.SameSums (s t : State) : Prop where
  cfg : t.cfg = s.cfg
  list : t.claims.list = s.claims.list
  state : ∀ n, (t.entry n).state = (s.entry n).state
  load : ∀ n, (t.entry n).core.load = (s.entry n).core.load
  pAvail : ∀ n, (t.entry n).core.pAvail = (s.entry n).core.pAvail
  strings : ∀ n, (t.entry n).core.strings = (s.entry n).core.strings
  hostStale : ∀ n, (t.entry n).core.flags.hostStale = (s.entry n).core.flags.hostStale
  unsupervised : ∀ n, (t.entry n).core.flags.unsupervised = (s.entry n).core.flags.unsupervised
  onBypass : ∀ n, (t.entry n).core.flags.onBypass = (s.entry n).core.flags.onBypass

section
variable {s t u : State}

theorem sameSums_of_sameView (h : s.SameView t) : s.SameSums t where
  cfg := h.cfg
  list := h.list
  state n := (sameView_entry h n).1
  load n := by rw [(sameView_entry h n).2]
  pAvail n := by rw [(sameView_entry h n).2]
  strings n := by rw [(sameView_entry h n).2]
  hostStale n := by rw [(sameView_entry h n).2]
  unsupervised n := by rw [(sameView_entry h n).2]
  onBypass n := by rw [(sameView_entry h n).2]

theorem sameSums_trans (h : s.SameSums t) (k : t.SameSums u) : s.SameSums u where
  cfg := k.cfg.trans h.cfg
  list := k.list.trans h.list
  state n := (k.state n).trans (h.state n)
  load n := (k.load n).trans (h.load n)
  pAvail n := (k.pAvail n).trans (h.pAvail n)
  strings n := (k.strings n).trans (h.strings n)
  hostStale n := (k.hostStale n).trans (h.hostStale n)
  unsupervised n := (k.unsupervised n).trans (h.unsupervised n)
  onBypass n := (k.onBypass n).trans (h.onBypass n)

/-- An entry is the own one, or the stored one: what both keep every entry keeps. -/
theorem entry_congr {α : Type} (f : PeerEntry → α) (hj : t.joined = s.joined) (hown : t.own = s.own)
    (hself : f t.ownEntry = f s.ownEntry) (hpeer : ∀ n, f (t.peer n) = f (s.peer n)) (n : Nat) :
    f (t.entry n) = f (s.entry n) := by
  unfold State.entry
  rw [hj, hown]
  split
  · exact hself
  · exact hpeer n

/-- The margin state, its figures and what an evaluation raises are no part of the sums. -/
theorem sameSums_figures (s : State) (f : Figures) (m : Margin) :
    s.SameSums (s.onView (fun v => { v with figures := f, margin := m })) where
  cfg := rfl
  list := rfl
  state := entry_congr (fun e => e.state) rfl rfl rfl fun _ => rfl
  load := entry_congr (fun e => e.core.load) rfl rfl rfl fun _ => rfl
  pAvail := entry_congr (fun e => e.core.pAvail) rfl rfl rfl fun _ => rfl
  strings := entry_congr (fun e => e.core.strings) rfl rfl rfl fun _ => rfl
  hostStale := entry_congr (fun e => e.core.flags.hostStale) rfl rfl rfl fun _ => rfl
  unsupervised := entry_congr (fun e => e.core.flags.unsupervised) rfl rfl rfl fun _ => rfl
  onBypass := entry_congr (fun e => e.core.flags.onBypass) rfl rfl rfl fun _ => rfl

theorem older_core (e : PeerEntry) : e.older.core = e.core ∧ e.older.state = e.state := by
  unfold PeerEntry.older
  split <;> exact ⟨rfl, rfl⟩

theorem advance_peer (s : State) (n : Nat) :
    s.advance.peer n = s.peer n ∨ s.advance.peer n = (s.peer n).older := by
  have hget : (s.view.peers.map PeerEntry.older).getD (n - 1) PeerEntry.blank = (s.peer n).older := by
    rw [show PeerEntry.blank = PeerEntry.blank.older from rfl, List.getD_map]; rfl
  unfold State.advance
  simp only
  split
  · exact .inr hget
  · exact .inl rfl

/-- A millisecond ages the peers' entries alone. -/
theorem sameSums_advance (s : State) : s.SameSums s.advance := by
  have hf := advance_frame s
  have himage : s.advance.image = s.image := hf.kept .image (by decide)
  have hj : s.advance.joined = s.joined := joined_of_startup (hf.kept .startup (by decide))
  have hpeer : ∀ n, (s.advance.peer n).core = (s.peer n).core
      ∧ (s.advance.peer n).state = (s.peer n).state := fun n => by
    obtain h | h := advance_peer s n <;> rw [h]
    · exact ⟨rfl, rfl⟩
    · exact older_core _
  have hown : s.advance.ownCore = s.ownCore := by
    unfold State.advance
    simp only
    split <;> rfl
  have hcore : ∀ n, (s.advance.entry n).core = (s.entry n).core :=
    entry_congr (fun e => e.core) hj (own_of_kept himage) hown fun n => (hpeer n).1
  exact { cfg := by simp only [State.cfg, himage]
          list := list_of_frame hf
          state := entry_congr (fun e => e.state) hj (own_of_kept himage) rfl fun n => (hpeer n).2
          load := fun n => by rw [hcore], pAvail := fun n => by rw [hcore]
          strings := fun n => by rw [hcore], hostStale := fun n => by rw [hcore]
          unsupervised := fun n => by rw [hcore], onBypass := fun n => by rw [hcore] }

theorem sameSums_totals (h : s.SameSums t) (hs : List Hyp) : t.totals hs = s.totals hs := by
  have hcov : ∀ n, t.covered hs n = s.covered hs n := fun n => by
    simp only [State.covered, h.list, h.onBypass]
  have hstr : ∀ n k, t.stringCovered hs n k = s.stringCovered hs n k := fun n k => by
    simp only [State.stringCovered, h.list]
  have henergy : ∀ n (l : List StringReport) k, t.stringEnergy hs n k l = s.stringEnergy hs n k l := by
    intro n l
    induction l with
    | nil => intro k; rfl
    | cons r l ih => intro k; rw [State.stringEnergy, State.stringEnergy, hstr, ih]
  have hpart : ∀ n, t.contribution hs n = s.contribution hs n := fun n => by
    simp only [State.contribution, hcov, henergy, h.state, h.load, h.pAvail, h.strings, h.hostStale,
      h.unsupervised]
  have hstep : (fun (x : Totals) n => x.add (t.contribution hs n))
      = fun x n => x.add (s.contribution hs n) := by funext x n; rw [hpart]
  unfold State.totals
  rw [hstep]

theorem sameSums_policy (h : s.SameSums t) : t.policy = s.policy := by simp only [State.policy, h.cfg]

theorem sameSums_figuresNow (h : s.SameSums t) : t.figuresNow = s.figuresNow := by
  simp only [State.figuresNow, sameSums_policy h, sameSums_totals h]

theorem sameSums_marginNow (h : s.SameSums t) (hm : t.view.margin = s.view.margin) :
    t.marginNow = s.marginNow := by
  simp only [State.marginNow, sameSums_policy h, sameSums_totals h, hm]

/-! ### An evaluation stands -/

/-- What passes under the strengthened figures passes under the policy (R67). -/
theorem passes_of_strengthened {p : Policy} {t : Totals} (h : p.strengthened.passes t = true) :
    p.passes t = true := by
  simp only [Policy.passes, Policy.capacityOk, Policy.energyOk, Policy.exposureOk, Policy.strengthened,
    Bool.and_eq_true, Nat.ble_eq] at h ⊢
  obtain ⟨⟨hc, he⟩, hx⟩ := h
  have h1 : t.l * (100 + p.reserve) ≤ t.l * (100 + (p.reserve + 5)) := Nat.mul_le_mul_left _ (by omega)
  have h2 : t.l * p.autonomy ≤ t.l * (p.autonomy + 1) := Nat.mul_le_mul_left _ (by omega)
  have h3 : t.d * (p.exposure - 5) ≤ t.d * p.exposure := Nat.mul_le_mul_left _ (by omega)
  exact ⟨⟨h1.trans hc, h2.trans he⟩, hx.trans h3⟩

/-- An evaluation whose margin state is the one held, or NORMAL after DEFICIT, gives the same again. -/
theorem marginNow_again (h : s.SameSums t) (hm : t.view.margin = s.marginNow)
    (hback : s.view.margin = s.marginNow ∨ s.marginNow = .normal) : t.marginNow = s.marginNow := by
  obtain hsame | hnormal := hback
  · exact sameSums_marginNow h (hm.trans hsame.symm)
  · have hpass : s.policy.passes (s.totals []) = true := by
      unfold State.marginNow at hnormal
      split at hnormal
      · by_contra hn; simp [hn] at hnormal
      · by_cases hp : s.policy.strengthened.passes (s.totals []) = true
        · exact passes_of_strengthened hp
        · simp [hp] at hnormal
    rw [hnormal] at hm ⊢
    simp [State.marginNow, hm, sameSums_policy h, sameSums_totals h, hpass]

/-- The figures and the margin state are those of the view as it stands. -/
def State.Evaluated (s : State) : Prop := s.view.figures = s.figuresNow ∧ s.view.margin = s.marginNow

theorem evaluated_of_sameSums (h : s.SameSums t) (hm : t.view.margin = s.view.margin)
    (hf : t.view.figures = s.view.figures) (hs : s.Evaluated) : t.Evaluated :=
  ⟨by rw [hf, sameSums_figuresNow h]; exact hs.1, by rw [hm, sameSums_marginNow h hm]; exact hs.2⟩

/-- One evaluation: the margin state it gives, and the state it leaves where no test is touched. -/
theorem marginStep_margin (s : State) : s.marginStep.view.margin = s.marginNow
    ∧ s.marginStep.view.figures = s.figuresNow := by
  have habort : ∀ u : State, (u.abortTest .deficit).view.margin = u.view.margin
      ∧ (u.abortTest .deficit).view.figures = u.view.figures := fun u =>
    (abortTest_frame u .deficit).kept .margin (by decide)
  have hnotify : ∀ (u : State) k a b c d, (u.notify k a b c d).view = u.view := fun u k a b c d => by
    unfold State.notify State.raise
    split <;> rfl
  unfold State.marginStep
  simp only
  split
  · exact ⟨rfl, rfl⟩
  · split
    · rename_i hd
      rw [(habort _).1, (habort _).2]
      simp only [State.markStatus, withStatusDue_view, hnotify]
      exact ⟨rfl, rfl⟩
    · simp only [State.markStatus, withStatusDue_view, hnotify]
      exact ⟨rfl, rfl⟩

theorem sameView_notify (s : State) (k : NoticeKind) (a b c d : Int) :
    s.SameView (s.notify k a b c d) := by
  unfold State.notify State.raise
  split
  · exact sameView_host s _
  · exact ⟨rfl, rfl, rfl, rfl, rfl⟩

theorem marginStep_sums (h : s.view.margin = s.marginNow ∨ s.marginNow = .normal) :
    s.SameSums s.marginStep := by
  have hfigures := sameSums_figures s s.figuresNow s.marginNow
  unfold State.marginStep
  simp only
  split
  · exact hfigures
  · rename_i hchange
    split
    · rename_i hd
      obtain h | h := h
      · exact absurd h hchange
      · exact absurd (hd.symm.trans h) (by decide)
    · exact sameSums_trans hfigures (sameSums_of_sameView
        (sameView_trans (sameView_notify ..) (sameView_statusDue _ true)))

theorem marginStep_evaluated (h : s.view.margin = s.marginNow ∨ s.marginNow = .normal) :
    s.marginStep.Evaluated := by
  have hsums := marginStep_sums h
  obtain ⟨hm, hf⟩ := marginStep_margin s
  exact ⟨hf.trans (sameSums_figuresNow hsums).symm, by rw [marginNow_again hsums hm h, hm]⟩

/-- After the evaluation of an event's end the figures and the margin state are those of the view (R67). -/
theorem evalMargin_evaluated (hj : s.joined = true) : s.evalMargin.Evaluated := by
  obtain ⟨hm, _⟩ := marginStep_margin s
  rw [State.evalMargin, if_pos hj]
  simp only
  split
  · rename_i hsame
    exact marginStep_evaluated (.inl (hsame.symm.trans hm))
  · rename_i hchange
    apply marginStep_evaluated
    by_cases hnow : s.marginStep.view.margin = s.marginStep.marginNow
    · exact .inl hnow
    · refine .inr ?_
      cases hn : s.marginStep.marginNow with
      | normal => rfl
      | deficit =>
        have hfirst : s.marginStep.view.margin = .normal := by
          cases hv : s.marginStep.view.margin with
          | normal => rfl
          | deficit => exact absurd (hv.trans hn.symm) hnow
        have hagain := marginNow_again (marginStep_sums (.inr (hm ▸ hfirst))) hm (.inr (hm ▸ hfirst))
        rw [hn, ← hm, hfirst] at hagain
        cases hagain

/-- The pieces that the own entry and the sums are formed of. -/
def viewPieces : List Piece :=
  [.startup, .image, .strings, .peers, .margin, .withdrawals, .sequencer, .visits, .intake, .watchdog]

/-- What lies outside those pieces is no part of the view. -/
theorem sameView_of_frame {f : List Piece} (h : s.ChangesOnly f t)
    (hf : f.all (fun p => !viewPieces.contains p) = true := by rfl) : s.SameView t := by
  have kept : ∀ p ∈ viewPieces, p.kept s t := fun p hp => h.kept p fun hpf => by
    have := List.all_eq_true.mp hf p hpf
    simp [hp] at this
  have himage : t.image = s.image := kept .image (by decide)
  have hdog : t.dog = s.dog := kept .watchdog (by decide)
  have hseq : t.seq = s.seq := kept .sequencer (by decide)
  have hvisit : t.visit = s.visit := kept .visits (by decide)
  have hstrings : t.strings = s.strings := kept .strings (by decide)
  have hintake : t.intake = s.intake := kept .intake (by decide)
  obtain ⟨hmargin, _⟩ := kept .margin (by decide)
  obtain ⟨hlist, _⟩ := kept .withdrawals (by decide)
  have hflags : t.ownFlags = s.ownFlags := by
    simp only [State.ownFlags, State.hostSilent, hdog, hmargin, hseq, hvisit, hstrings]
  have hreport : ∀ k, t.reportAt k = s.reportAt k := fun k => by unfold State.reportAt; rw [hstrings]
  have hsilent : t.hostSilent = s.hostSilent := by simp only [State.hostSilent, hdog]
  have hcfg : t.cfg = s.cfg := by simp only [State.cfg, himage]
  exact ⟨joined_of_startup (kept .startup (by decide)), hcfg, kept .peers (by decide), hlist, by
    simp only [State.ownCore, hcfg, hreport, hsilent, hintake, hflags]⟩

theorem evaluated_queueStatus (hs : s.Evaluated) : s.queueStatus.Evaluated := by
  obtain ⟨hm, hf⟩ := (queueStatus_frame s).kept .margin (by decide)
  exact evaluated_of_sameSums (sameSums_of_sameView (sameView_of_frame (queueStatus_frame s))) hm hf hs

/-- The end of every event leaves the margin state that of the view as it stands. -/
theorem finish_marginOk (s0 s : State) : (State.finish s0 s).marginOk = true := by
  refine marginOk_iff.mpr fun hj => ?_
  have hjs : s.joined = true := by rwa [joined_of_startup (finish_startup s0 s)] at hj
  unfold State.finish
  simp only
  split
  · exact evaluated_queueStatus (evalMargin_evaluated hjs)
  · exact evalMargin_evaluated hjs

/-! ### Every step -/

theorem advance_marginOk (hs : s.marginOk = true) : s.advance.marginOk = true := by
  have hf := advance_frame s
  obtain ⟨hm, hfig⟩ := hf.kept .margin (by decide)
  rw [marginOk_iff] at hs ⊢
  rw [joined_of_startup (hf.kept .startup (by decide))]
  exact fun hj => evaluated_of_sameSums (sameSums_advance s) hm hfig (hs hj)

/-- The sender's queue and the count of free values stand outside the part. -/
theorem queue_frame (s : State) (l : List Instr) (n : Nat) :
    s.ChangesOnly [.queue, .freeCount] ((s.withPending l).withFreeCount n) := by
  constructor; intro p hp; cases p <;> simp_all [Piece.kept]

theorem queue_marginOk (s : State) (l : List Instr) (n : Nat) :
    ((s.withPending l).withFreeCount n).marginOk = s.marginOk := by
  have hf := queue_frame s l n
  obtain ⟨hm, hfig⟩ := hf.kept .margin (by decide)
  exact sameView_marginOk (sameView_of_frame hf) hm hfig

theorem exec_marginOk {i : Instr} (hs : s.marginOk = true) (h : exec i s = .next t) :
    t.marginOk = true := by
  by_cases hr : i ∈ resettingRows
  · obtain rfl | ⟨p, b, rfl⟩ := exec_reset hr h
    · exact hs
    · rfl
  · by_cases hb : ∃ b, i = .imageReadComplete b
    · obtain ⟨b, rfl⟩ := hb
      obtain rfl | hread := exec_image h
      · exact hs
      · simp [State.marginOk, hread.after]
    · obtain ⟨s', hp, ha⟩ := exec_answers (g := .all) hr (fun b hib => hb ⟨b, hib⟩) (.inl rfl) h
      obtain rfl | ⟨_, u, _, rfl⟩ := ha
      · obtain ⟨hm, hf⟩ := hp.kept .margin (by decide)
        rw [sameView_marginOk (sameView_of_frame hp) hm hf, hs]
      · exact finish_marginOk ..

end

/-- Settles O56: the end of every event evaluates the margin state on the view it leaves, twice where the
first evaluation changed that view, and a second change is none: what passes strengthened passes. -/
theorem marginKept : Obligations.MarginKept := by
  intro s t hs _ h
  exact step_gives (P := fun u => u.marginOk = true) (Q := fun u => u.marginOk = true) hs h
    (fun u l n hu => (queue_marginOk u l n).trans hu) id
    (fun u hu => advance_marginOk hu) fun i u v hu hv => exec_marginOk hu hv

end Sys2Proof.Machine

/-! PROOFS. What a counting step and a recompute do to the rest of a string record, and the record as it is
built and loaded (sections 1.1, 1.3, 1.5 and 1.6). -/

namespace Sys2Proof.Machine

-- One proof after another: side by side they ask for more thread stacks than there is memory for.
set_option Elab.async false

/-! ### One counting step (R14, R15, R27) -/

section
variable (p : StringParams) (silent : Bool) (i : Int) (dt : Nat) (r : StringRec)

/-- A discharge run begins where the current falls below the threshold from at or above it (R15). -/
theorem countRun_dischEvents (n : Nat) : (r.countRun n i dt).dischEvents
    = if -(n : Int) ≤ r.iRef ∧ i < -(n : Int) then satAdd 16 r.dischEvents 1 else r.dischEvents := by
  by_cases rested : -(n : Int) ≤ r.iRef <;> by_cases runs : i < -(n : Int) <;>
    simp [StringRec.countRun, rested, runs]

/-- The time of a run counts while the current is below the threshold (R15). -/
theorem countRun_time_of_runs {n : Nat} (runs : i < -(n : Int)) :
    (r.countRun n i dt).dischSeconds = satAdd 32 r.dischSeconds ((r.dischMs + dt) / 1000)
    ∧ (r.countRun n i dt).dischMs = (r.dischMs + dt) % 1000 := by
  by_cases rested : -(n : Int) ≤ r.iRef <;> simp [StringRec.countRun, runs, rested]

/-- Outside a run its time stands (R15). -/
theorem countRun_time_of_rests {n : Nat} (rests : -(n : Int) ≤ i) :
    (r.countRun n i dt).dischSeconds = r.dischSeconds ∧ (r.countRun n i dt).dischMs = r.dischMs := by
  have hnot : ¬ i < -(n : Int) := by omega
  simp [StringRec.countRun, hnot]

@[simp] theorem countRun_soc (n : Nat) : (r.countRun n i dt).soc = r.soc := by rw [countRun_frame]
@[simp] theorem countRun_deepCount (n : Nat) : (r.countRun n i dt).deepCount = r.deepCount := by
  rw [countRun_frame]
@[simp] theorem countRun_soh (n : Nat) : (r.countRun n i dt).soh = r.soh := by rw [countRun_frame]
@[simp] theorem countRun_state (n : Nat) : (r.countRun n i dt).state = r.state := by rw [countRun_frame]
@[simp] theorem countRun_unmeasured (n : Nat) : (r.countRun n i dt).unmeasured = r.unmeasured := by
  rw [countRun_frame]
@[simp] theorem countRun_cls (n : Nat) : (r.countRun n i dt).cls = r.cls := by rw [countRun_frame]

/-- SoC is that of the charge a counting step leaves (R14). -/
theorem count_soc : (r.count p silent i dt).soc = (r.count p silent i dt).q * 10000 / r.qFull := by
  simp [StringRec.count, StringRec.formEnergy]

/-- A deep discharge is a fall of SoC below 20 % (R14). -/
theorem count_deepCount : (r.count p silent i dt).deepCount
    = if 2000 ≤ r.soc ∧ (r.count p silent i dt).soc < 2000 then satAdd 16 r.deepCount 1 else r.deepCount := by
  simp [StringRec.count, StringRec.formEnergy]

/-- The usable energy is formed from the SoC of the step (R27). -/
theorem count_eUsable : (r.count p silent i dt).eUsable = usableOf p r.soh (r.count p silent i dt).soc := by
  simp [StringRec.count, StringRec.formEnergy]

/-- The reported energy is formed from the usable energy of the step (R27). -/
theorem count_eAvail : (r.count p silent i dt).eAvail
    = if r.state = .inService ∧ r.unmeasured = false ∧ r.cls ≠ .ended ∧ silent = false
        then (r.count p silent i dt).eUsable else 0 := by
  simp [StringRec.count, StringRec.formEnergy, availOf]

/-- A counting step counts a run that begins in it (R15). -/
theorem count_dischEvents : (r.count p silent i dt).dischEvents
    = if -(p.dischThreshold : Int) ≤ r.iRef ∧ i < -(p.dischThreshold : Int) then satAdd 16 r.dischEvents 1
      else r.dischEvents :=
  countRun_dischEvents i dt _ p.dischThreshold

/-- A counting step counts the time of a run (R15). -/
theorem count_time_of_runs (runs : i < -(p.dischThreshold : Int)) :
    (r.count p silent i dt).dischSeconds = satAdd 32 r.dischSeconds ((r.dischMs + dt) / 1000)
    ∧ (r.count p silent i dt).dischMs = (r.dischMs + dt) % 1000 :=
  countRun_time_of_runs i dt _ runs

/-- Outside a run a counting step leaves its time (R15). -/
theorem count_time_of_rests (rests : -(p.dischThreshold : Int) ≤ i) :
    (r.count p silent i dt).dischSeconds = r.dischSeconds ∧ (r.count p silent i dt).dischMs = r.dischMs :=
  countRun_time_of_rests i dt _ rests

/-- What a counting step leaves: every figure that is not of charge, throughput, runs or energy. -/
theorem count_frame :
    let c := r.count p silent i dt
    c = { r with
      rem := c.rem, q := c.q, tRem := c.tRem, tDah := c.tDah, soc := c.soc
      deepCount := c.deepCount, dischEvents := c.dischEvents, dischSeconds := c.dischSeconds
      dischMs := c.dischMs, iRef := c.iRef, eUsable := c.eUsable, eAvail := c.eAvail } := by
  by_cases runs : i < -(p.dischThreshold : Int)
  · by_cases rested : -(p.dischThreshold : Int) ≤ r.iRef <;>
      simp [StringRec.count, StringRec.countRun, StringRec.formEnergy, runs, rested]
  · simp [StringRec.count, StringRec.countRun, StringRec.formEnergy, runs]

end

/-- Settles O14: each figure of the counting step is formed by its own rule, and the rest stands. -/
theorem deepDischargesAndRuns : Obligations.DeepDischargesAndRuns := fun p silent i dt r =>
  ⟨count_soc p silent i dt r, count_deepCount p silent i dt r, count_dischEvents p silent i dt r,
    count_time_of_runs p silent i dt r, count_time_of_rests p silent i dt r, rfl, count_eUsable p silent i dt r,
    count_eAvail p silent i dt r, count_frame p silent i dt r⟩

/-! ### The figures of a recompute (R23 to R27) -/

/-- A SoH lies within 6000 to 10000 where the warning level is in its range (R23). -/
theorem healthOf_range {warn : Nat} (hwarn : 7000 ≤ warn) {u rho : Nat} (hu : u ≤ 20000) (hrho : rho ≤ 30000)
    (cap : Option Nat) (unknown : Bool) :
    6000 ≤ healthOf warn u rho cap unknown ∧ healthOf warn u rho cap unknown ≤ 10000 := by
  unfold healthOf
  cases cap <;> cases unknown <;> simp only <;> constructor <;> (try split) <;> omega

theorem lifeUsed_le (p : StringParams) (r : StringRec) : lifeUsed p r ≤ 20000 := Nat.min_le_left ..

theorem ratioOf_le (l : List Nat) (ref : Option Nat) : ratioOf l ref ≤ 30000 := by
  unfold ratioOf
  split <;> omega

/-- Settles O16: a recompute holds the figures as its definition forms them, and the range of SoH is that of
the life used and of the ratio. -/
theorem healthFigures : Obligations.HealthFigures := fun p _ r =>
  ⟨rfl, fun hwarn => healthOf_range hwarn (lifeUsed_le p r) (ratioOf_le _ _) _ _, rfl, rfl, rfl, rfl, rfl, rfl,
    rfl, rfl⟩

/-! ### A record as it is built, and LOAD_AGEING (R5, R6, R28) -/

/-- A value passes a range check exactly where it lies in the range (R195). -/
theorem inRange_iff {v lo hi : Nat} : inRange v lo hi = true ↔ lo ≤ v ∧ v ≤ hi := by
  simp [inRange]

/-- The ranges of R4 that the figures of a built record rest on. -/
structure StringParams.Sized (p : StringParams) : Prop where
  rated : 10 ≤ p.cRated
  design : 365 ≤ p.lDesign ∧ p.lDesign ≤ 7300
  warn : 7000 ≤ p.warn ∧ p.warn ≤ 9900
  ended : 6000 ≤ p.endSoh ∧ p.endSoh < p.warn

theorem sized_of_paramChecks {k : Nat} {p : StringParams} (h : ∀ c ∈ paramChecks k p, c.2 = true) : p.Sized := by
  simp only [paramChecks, List.forall_mem_cons, inRange_iff, Bool.and_eq_true, Nat.blt_eq] at h
  obtain ⟨-, hrated, hdesign, -, -, hwarn, ⟨⟨hend, -⟩, hlt⟩, -⟩ := h
  exact ⟨hrated.1, hdesign, hwarn, hend, hlt⟩

/-- Nothing has aged a record that is built. -/
theorem built_u (p : StringParams) : (builtRecord p).u = 0 := by
  simp [builtRecord, recompute_u, lifeUsed, StringRec.blank]

/-- Of unknown age, a record is built just below the warning level (R6). -/
theorem built_soh {p : StringParams} (h : p.Sized) : (builtRecord p).soh = p.warn - 1 := by
  have hw := h.warn
  have hu : lifeUsed p StringRec.blank = 0 := built_u p
  show healthOf p.warn (lifeUsed p StringRec.blank) 10000 none true = p.warn - 1
  rw [hu]
  simp only [healthOf, if_true]
  omega

theorem built_cls {p : StringParams} (h : p.Sized) :
    (builtRecord p).cls = if p.endSoh = p.warn - 1 then .ended else .worn := by
  have hw := h.warn
  have he := h.ended
  show classFor p (builtRecord p).soh (builtRecord p).u = _
  rw [built_soh h, built_u]
  unfold classFor
  by_cases hlast : p.endSoh = p.warn - 1
  · simp [hlast]
  · have hfar : ¬ (p.warn - 1 ≤ p.endSoh ∨ 10000 ≤ 0) := by omega
    have hlow : p.warn - 1 < p.warn := by omega
    rw [if_neg hfar, if_pos hlow, if_neg hlast]

/-- A built record holds no charge. -/
theorem built_q (p : StringParams) : (builtRecord p).q = 0 := Nat.zero_min _

theorem built_soc (p : StringParams) : (builtRecord p).soc = 0 := by
  show (builtRecord p).q * 10000 / (builtRecord p).qFull = 0
  simp [built_q]

theorem built_eUsable (p : StringParams) : (builtRecord p).eUsable = 0 := by
  show usableOf p (builtRecord p).soh (builtRecord p).soc = 0
  simp [built_soc, usableOf]

theorem built_eAvail (p : StringParams) : (builtRecord p).eAvail = 0 := by
  show (if _ then (builtRecord p).eUsable else 0) = 0
  rw [built_eUsable, ite_self]

theorem built_qFull {p : StringParams} (h : p.Sized) :
    (builtRecord p).qFull = p.cRated * 3600 * (p.warn - 1) / 10000 := by
  rw [← built_soh h]
  rfl

theorem built_qFull_pos {p : StringParams} (h : p.Sized) : 0 < (builtRecord p).qFull := by
  rw [built_qFull h]
  have hproduct : 10 * 3600 * 6999 ≤ p.cRated * 3600 * (p.warn - 1) :=
    Nat.mul_le_mul (Nat.mul_le_mul_right _ h.rated) (by have := h.warn; omega)
  omega

theorem built_daysLeft {p : StringParams} (h : p.Sized) : (builtRecord p).daysLeft = p.lDesign := by
  have hd := h.design
  show daysLeftOf p (builtRecord p).u 256 = p.lDesign
  rw [built_u]
  rw [daysLeftOf, if_neg (by decide)]
  omega

/-- A record with what a load sets, recomputed (R28). -/
def loadedRecord (p : StringParams) (silent : Bool) (r : List Byte) (x : StringRec) : StringRec :=
  (x.load (arg32 r 1) (arg32 r 5) (arg16 r 9) (arg16 r 11) (arg32 r 13) (argOpt32 r 17)
    (arg32 r 22)).recompute p silent

/-- A recompute outside JOINED raises no notice: the record alone is new. -/
theorem recompute_quiet {s : State} {k : Nat} {x : StringRec} (hj : s.joined = false)
    (hx : s.strings[k]? = some x) :
    s.recompute k = s.withStrings (s.strings.set k (x.recompute (s.params k) s.hostSilent)) := by
  unfold State.recompute
  simp only [hx]
  split
  · rfl
  · rw [notify_beforeJoin (by exact hj)]

/-- What a change of one record makes of the records. -/
theorem modify_eq_set {α : Type} {l : List α} {k : Nat} {x : α} (hx : l[k]? = some x) (f : α → α) :
    l.modify k f = l.set k (f x) := by
  rw [List.modify_eq_set_getElem?, hx]
  rfl

/-- What a load makes of a machine that has not joined (R28). -/
theorem loadString_quiet {s : State} {k : Nat} {x : StringRec} (hj : s.joined = false)
    (hx : s.strings[k]? = some x) (r : List Byte) :
    s.loadString k r = s.withStrings (s.strings.set k (loadedRecord (s.params k) s.hostSilent r x)) := by
  unfold State.loadString State.onString
  have hlt : k < s.strings.length := (List.getElem?_eq_some_iff.mp hx).1
  rw [modify_eq_set hx, recompute_quiet (x := x.load (arg32 r 1) (arg32 r 5) (arg16 r 9) (arg16 r 11) (arg32 r 13)
    (argOpt32 r 17) (arg32 r 22)) (by exact hj) (by simp [hlt])]
  simp only [withStrings_strings, List.set_set]
  rfl

/-- A reference resistance is refused exactly where one is given outside its window (R28). -/
theorem refOk_iff {x : Option Nat} : refOk x = true ↔ ∀ v, x = some v → 100 ≤ v ∧ v ≤ 100000 := by
  cases x <;> simp [refOk, inRange_iff]

theorem joined_of_window {s : State} (h : s.startup.state = .startWindow) : s.joined = false := by
  simp [State.joined, h]

/-- Settles O9: a built record is one recompute of the blank one, and LOAD_AGEING answers by the first condition
of R28 that fails, or sets the one record of its string. -/
theorem recordsBuiltAndLoaded : Obligations.RecordsBuiltAndLoaded := by
  refine ⟨fun k p hp => ?_, fun r s ht hw => ?_⟩
  · have h := sized_of_paramChecks hp
    exact ⟨built_soh h, built_cls h, built_q p, built_soc p, built_eUsable p, built_eAvail p, built_u p, rfl,
      built_qFull h, built_qFull_pos h, built_daysLeft h, rfl, rfl, rfl, rfl, rfl, rfl, rfl, rfl, rfl, rfl, rfl,
      rfl, rfl, rfl, rfl, rfl, rfl, rfl, rfl, rfl, rfl, rfl, rfl, rfl⟩
  · have hj := joined_of_window hw
    have hm : s.marginOk = true := marginOk_iff.mpr (fun h => absurd (hj.symm.trans h) (by decide))
    have hw' : (s.withStatusDue false).startup.state = .startWindow := hw
    refine ⟨fun hlong => ?_, fun x hx => ?_⟩
    · have hnone : (s.withStatusDue false).strings[arg8 r 0]? = none := List.getElem?_eq_none hlong
      exact command_reply ht hm (by simp only [hw', hnone]; rfl)
    · have hx' : (s.withStatusDue false).strings[arg8 r 0]? = some x := hx
      refine ⟨fun hl => ?_, fun hl href => ?_, fun hl href => ?_⟩
      · exact command_reply ht hm (by simp only [hw', hx', hl]; rfl)
      · have hbad : refOk (argOpt32 r 17) = false := by
          obtain ⟨v, hv, hout⟩ := href
          rw [Bool.eq_false_iff]
          exact fun hok => absurd (refOk_iff.mp hok v hv) (by omega)
        exact command_reply ht hm (by simp only [hw', hx', hl, hbad]; rfl)
      · have hok : refOk (argOpt32 r 17) = true := refOk_iff.mpr href
        rw [show exec .loadAgeing s = execLoadAgeing s from rfl, execLoadAgeing, command_next ht, State.runEvent]
        simp only [hw', hx', hl, hok]
        have hlt : arg8 r 0 < s.strings.length := (List.getElem?_eq_some_iff.mp hx).1
        obtain ⟨-, ⟨d, hslot⟩, -⟩ := ht
        rw [loadString_quiet (s := s.withStatusDue false) hj hx' r, answer_pending (by exact hslot),
          finish_beforeJoin (by exact hj)]
        simp [State.loadResult, hlt]
        rfl

end Sys2Proof.Machine

/-! PROOFS. The configuration image: its fields, its checks and the attempts to read it (sections 10.2, 10.5 and
11.4). -/

namespace Sys2Proof.Machine

-- One proof after another: side by side they ask for more thread stacks than there is memory for.
set_option Elab.async false

/-- A range check as the comparison it stands for. -/
theorem inRange_eq_decide (v lo hi : Nat) : inRange v lo hi = decide (lo ≤ v ∧ v ≤ hi) := by
  rw [Bool.eq_iff_iff, inRange_iff, decide_eq_true_iff]

/-- The sum of the field bytes, as a sum of a list (R191). -/
theorem imageSum_eq (b : List Byte) : imageSum b = ((b.take 96).map BitVec.toNat).sum % 65536 := by
  unfold imageSum
  rw [List.sum_eq_foldl, List.foldl_map]

/-- The first check that fails is the one behind those that pass. -/
theorem find_failed {before after : List (Nat × Bool)} {i : Nat} (h : ∀ c ∈ before, c.2 = true) :
    (before ++ (i, false) :: after).find? (fun c => !c.2) = some (i, false) := by
  rw [List.find?_append, List.find?_eq_none.mpr (by simpa using h)]
  rfl

/-- The fault of an image whose sum and version stand is that of the first field out of its range (R191). -/
theorem imageFault_of_range {b : List Byte} (hsum : imageSum b = u16At b 96) (hversion : byteAt b 0 = 1)
    {before after : List (Nat × Bool)} {i : Nat}
    (hchecks : imageChecks (imageOf b) = before ++ (i, false) :: after) (hbefore : ∀ c ∈ before, c.2 = true) :
    imageFault b = some (.fieldRange, i) := by
  simp [imageFault, hsum, hversion, hchecks, find_failed hbefore]

/-- An image with its sum, its version and every range has no fault (R191). -/
theorem imageFault_eq_none {b : List Byte} (hsum : imageSum b = u16At b 96) (hversion : byteAt b 0 = 1)
    (hchecks : ∀ c ∈ imageChecks (imageOf b), c.2 = true) : imageFault b = none := by
  have hfind : (imageChecks (imageOf b)).find? (fun c => !c.2) = none :=
    List.find?_eq_none.mpr (by simpa using hchecks)
  simp [imageFault, hsum, hversion, hfind]

/-- The checks of the strings, with the records named by their index. -/
theorem stringChecks_eq (l : List StringParams) :
    ((List.range l.length).zip l).flatMap (fun kp => paramChecks kp.1 kp.2)
      = ((List.range l.length).map (fun k => paramChecks k (l.getD k StringParams.blank))).flatten := by
  rw [List.flatMap_def]
  congr 1
  refine List.ext_getElem (by simp) (fun n hn _ => ?_)
  simp at hn
  simp [hn]

/-- The range checks of a string, as comparisons (R4). -/
theorem paramChecks_eq (k : Nat) (p : StringParams) :
    let within := fun (index v lo hi : Nat) => (index, decide (lo ≤ v ∧ v ≤ hi))
    paramChecks k p =
      [within (20 + 10 * k + 1) p.n 6 48, within (20 + 10 * k + 2) p.cRated 10 1000,
       within (20 + 10 * k + 3) p.lDesign 365 7300, within (20 + 10 * k + 4) p.nCyc 100 5000,
       within (20 + 10 * k + 5) p.eta 80 100, within (20 + 10 * k + 6) p.warn 7000 9900,
       (20 + 10 * k + 7, decide ((6000 ≤ p.endSoh ∧ p.endSoh ≤ 9800) ∧ p.endSoh < p.warn)),
       within (20 + 10 * k + 8) p.endVoltage 900 1150,
       within (20 + 10 * k + 9) p.stepThreshold 50 2000,
       within (20 + 10 * k + 10) p.dischThreshold 10 255] := by
  have hend : (decide (6000 ≤ p.endSoh ∧ p.endSoh ≤ 9800) && Nat.blt p.endSoh p.warn)
      = decide ((6000 ≤ p.endSoh ∧ p.endSoh ≤ 9800) ∧ p.endSoh < p.warn) := by
    rw [Bool.eq_iff_iff, Bool.and_eq_true, decide_eq_true_iff, Nat.blt_eq, decide_eq_true_iff]
  simp only [paramChecks, inRange_eq_decide, hend]

/-- The range checks of a configuration, as comparisons (R195). -/
theorem imageChecks_eq (i : Image) :
    let within := fun (index v lo hi : Nat) => (index, decide (lo ≤ v ∧ v ≤ hi))
    imageChecks i =
      [within 1 i.version 1 1, within 2 i.station 1 16, within 3 i.quorum 1 16,
       within 4 i.statusPeriod 50 1000, within 5 i.claimTimeout 10 250, within 6 i.retryLimit 0 7,
       within 7 i.startWindow 10 300, within 8 i.hostTimeout 100 5000, within 9 i.syncTimeout 2 30,
       within 10 i.pRated 10 10000, within 11 i.bypNominal 1000 6000, within 12 i.band 1 20,
       within 13 i.syncWindow 5 200, within 14 i.slipMax 10 200, within 15 i.confirmTimeout 5 200,
       within 16 i.retransferDelay 5 60, within 17 i.reservePct 0 100, within 18 i.autonomyMin 1 240,
       within 19 i.exposurePct 0 100, within 20 i.stringCount 0 4]
      ++ ((List.range i.strings.length).map (fun k =>
         paramChecks k (i.strings.getD k StringParams.blank))).flatten := by
  have hversion : (i.version == 1) = decide (1 ≤ i.version ∧ i.version ≤ 1) := by
    rw [Bool.eq_iff_iff, beq_iff_eq, decide_eq_true_iff]
    omega
  simp only [imageChecks, hversion, inRange_eq_decide, stringChecks_eq]

/-- An event that can occur and leaves the part outside JOINED has no end of its own. -/
theorem event_beforeJoin {s : State} {g : Bool} {body : State → State} (hr : s.running = true) (hg : g = true)
    (hj : (body (s.withStatusDue false)).joined = false) : s.event g body = .next (body (s.withStatusDue false)) := by
  rw [event_next hr hg, State.runEvent, finish_beforeJoin hj]

theorem reading_of_attempt {s : State} (hl : s.startup.state = .loading) (ha : s.startup.readSince ≠ none) :
    s.reading = true := by
  simp [State.reading, hl, Option.isSome_iff_ne_none.mpr ha]

theorem loading_not_joined {s : State} (hl : s.startup.state = .loading) : s.joined = false := by
  simp [State.joined, hl]

/-- An image that was read with the fault `f` enters CONFIG_FAULT (R191, R192). -/
theorem imageReadComplete_fault {b : List Byte} {s : State} (hr : s.running = true) (hread : s.reading = true)
    (hlen : b.length = 98) {f : FaultReason × Nat} (hf : imageFault b = some f) :
    exec (.imageReadComplete b) s = .next ((s.withStatusDue false).configFault f.1 f.2) := by
  have himage : (s.withStatusDue false).imageRead b = (s.withStatusDue false).configFault f.1 f.2 := by
    simp [State.imageRead, hlen, hf]
  rw [show exec (.imageReadComplete b) s = s.event s.reading (fun s => s.imageRead b) from rfl,
    event_beforeJoin hr hread (by rw [himage]; rfl), himage]

/-- An image that was read without a fault enters START_WINDOW (R193). -/
theorem imageReadComplete_window {b : List Byte} {s : State} (hr : s.running = true) (hread : s.reading = true)
    (hlen : b.length = 98) (hf : imageFault b = none) :
    exec (.imageReadComplete b) s = .next ((s.withStatusDue false).enterWindow (imageOf b)) := by
  have himage : (s.withStatusDue false).imageRead b = (s.withStatusDue false).enterWindow (imageOf b) := by
    simp [State.imageRead, hlen, hf]
  rw [show exec (.imageReadComplete b) s = s.event s.reading (fun s => s.imageRead b) from rfl,
    event_beforeJoin hr hread (by rw [himage]; rfl), himage]

/-- An attempt that brought too few bytes is one that failed (log 13). -/
theorem imageReadComplete_short {b : List Byte} (hlen : b.length < 98) (s : State) :
    exec (.imageReadComplete b) s = exec .imageReadFailed s := by
  show s.event s.reading (fun s => s.imageRead b) = s.event s.reading State.attemptFails
  simp only [State.imageRead, hlen, if_true]

/-- Settles O8: each row of loading by the branch it takes, the checks of an image by the first that fails, and
the fields of an image by the bytes they are read from. -/
theorem imageRead : Obligations.ImageRead := by
  refine ⟨fun s hr hl => ⟨fun ha => ⟨fun hfew => ?_, fun hmany => ?_, fun b hlen => imageReadComplete_short hlen s⟩,
    fun d hd hdue => ?_⟩, fun b s hr hl ha hlen => ?_, paramChecks_eq, imageChecks_eq, fun b => rfl⟩
  · have hfails : (s.withStatusDue false).attemptFails = (s.withStatusDue false).onStartup
        (fun u => { u with readSince := none, retryAt := some (s.now + 10) }) :=
      if_neg (Nat.not_le.mpr hfew)
    rw [show exec .imageReadFailed s = s.event s.reading State.attemptFails from rfl,
      event_beforeJoin hr (reading_of_attempt hl ha) (by rw [hfails]; exact loading_not_joined hl), hfails]
    rfl
  · have hfails : (s.withStatusDue false).attemptFails = (s.withStatusDue false).configFault .noAck 0 :=
      if_pos hmany
    rw [show exec .imageReadFailed s = s.event s.reading State.attemptFails from rfl,
      event_beforeJoin hr (reading_of_attempt hl ha) (by rw [hfails]; rfl), hfails]
    rfl
  · have hg : (s.startup.state == .loading && s.isDue s.startup.retryAt) = true := by
      simp [hl, State.isDue, hd, hdue]
    exact event_beforeJoin hr hg (loading_not_joined hl)
  · have hread := reading_of_attempt hl ha
    intro sum faulted
    have hsum : imageSum b = sum := imageSum_eq b
    refine ⟨fun hbad => ?_, fun hgood hbad => ?_, fun hgood hversion => ⟨fun before after i hchecks hbefore => ?_,
      fun hall => ?_⟩⟩
    · exact imageReadComplete_fault hr hread hlen (f := (.badSum, 0)) (by simp [imageFault, hsum, hbad])
    · exact imageReadComplete_fault hr hread hlen (f := (.badVersion, 0)) (by simp [imageFault, hsum, hgood, hbad])
    · exact imageReadComplete_fault hr hread hlen
        (imageFault_of_range (hsum.trans hgood) hversion hchecks hbefore)
    · exact imageReadComplete_window hr hread hlen (imageFault_eq_none (hsum.trans hgood) hversion hall)

end Sys2Proof.Machine

/-! PROOFS. Commands that are refused by the port or only read: their replies byte by byte (sections 9.2, 9.3 and
11). -/

namespace Sys2Proof.Machine

-- One proof after another: side by side they ask for more thread stacks than there is memory for.
set_option Elab.async false

/-! ### Replies before JOIN and in JOINED (R182, R183) -/

section
variable {s : State} {r : List Byte} {row : Instr}

theorem marginOk_of_not_joined (hj : s.joined = false) : s.marginOk = true :=
  marginOk_iff.mpr (fun h => absurd (hj.symm.trans h) Bool.false_ne_true)

theorem not_joined_of_state (h : s.startup.state ≠ .joined) : s.joined = false := by
  simpa [State.joined] using h

theorem joined_of_state (h : s.startup.state = .joined) : s.joined = true := by simp [State.joined, h]

/-- A command that is taken in JOINED only, outside JOINED (R182). -/
theorem command_notJoined {body : List Byte → State → State} (h : s.takes row r) (hs : s.startup.state ≠ .joined) :
    s.command row (fun r s => s.whenJoined (body r)) = .next (s.repliedOnly r .notJoined (le8 s.startup.state.code)) := by
  have hj := not_joined_of_state hs
  have hj' : (s.withStatusDue false).joined = false := hj
  exact command_reply h (marginOk_of_not_joined hj) (by simp only [State.whenJoined, hj']; rfl)

/-- In JOINED such a command is its own body. -/
theorem whenJoined_pos {body : State → State} (hj : s.joined = true) : s.whenJoined body = body s := by
  simp [State.whenJoined, hj]

/-- A command of JOINED whose whole effect is its reply. -/
theorem command_joined_reply {body : List Byte → State → State} {c : ReplyCode} {b : List Byte}
    (h : s.takes row r) (hm : s.marginOk = true) (hs : s.startup.state = .joined)
    (hb : body r (s.withStatusDue false) = (s.withStatusDue false).answer c b) :
    s.command row (fun r s => s.whenJoined (body r)) = .next (s.repliedOnly r c b) :=
  command_reply h hm ((whenJoined_pos (s := s.withStatusDue false) (joined_of_state hs)).trans hb)

end

/-- The commands that LOADING and CONFIG_FAULT do not take and START_WINDOW does (R182). -/
theorem windowCommand_notJoined {row : Instr} {r : List Byte} {s : State} (ht : s.takes row r)
    (hs : s.startup.state = .loading ∨ s.startup.state = .configFault)
    (hrow : row ∈ [Instr.join, .loadAgeing, .readString]) :
    exec row s = .next (s.repliedOnly r .notJoined (le8 s.startup.state.code)) := by
  have hj : s.joined = false := not_joined_of_state (by rcases hs with hs | hs <;> simp [hs])
  have hj' : (s.withStatusDue false).joined = false := hj
  have hstate : (s.withStatusDue false).startup.state = .loading
      ∨ (s.withStatusDue false).startup.state = .configFault := hs
  have hm := marginOk_of_not_joined hj
  simp only [List.mem_cons, List.not_mem_nil, or_false] at hrow
  obtain rfl | rfl | rfl := hrow
  · refine command_reply ht hm ?_
    rcases hstate with hl | hf
    · simp only [hl]; rfl
    · simp only [hf]; rfl
  · refine command_reply ht hm ?_
    rcases hstate with hl | hf
    · simp only [hl]; rfl
    · simp only [hf]; rfl
  · have hw : (s.withStatusDue false).inWindow = false := by
      rcases hs with hs | hs <;> simp [State.inWindow, hs]
    exact command_reply ht hm (by simp only [hw, hj']; rfl)

/-- Settles O11: outside JOINED the rows of a JOINED station answer NOT_JOINED by the one test they share, and
each other refusal is a reply alone. -/
theorem refusedByThePort : Obligations.RefusedByThePort := by
  intro row r s ht
  refine ⟨fun hs hrow => ?_, fun hs hrow => windowCommand_notJoined ht hs hrow, fun hm hrow => ?_,
    fun hm hs hrow => ?_, fun hm hs hrow => ?_⟩
  · simp only [List.mem_cons, List.not_mem_nil, or_false] at hrow
    obtain rfl | rfl | rfl | rfl | rfl | rfl | rfl | rfl | rfl | rfl | rfl | rfl | rfl | rfl | rfl := hrow
    all_goals exact command_notJoined ht hs
  · subst hrow
    exact command_reply ht hm rfl
  · subst hrow
    have hs' : (s.withStatusDue false).startup.state = .joined := hs
    exact command_reply ht hm (by simp only [hs']; rfl)
  · subst hrow
    have hs' : (s.withStatusDue false).startup.state = .joined := hs
    exact command_reply ht hm (by simp only [hs']; rfl)

/-! ### READ_COUNTERS and RESET (R185, R186) -/

/-- A command whose effect the view does not see has no end of its own. -/
theorem command_sameView {s : State} {row : Instr} {r : List Byte} {body : List Byte → State → State} {t : State}
    (h : s.takes row r) (hm : s.marginOk = true) (hb : body r (s.withStatusDue false) = t) (hv : s.SameView t)
    (hmargin : t.view.margin = s.view.margin) (hfigures : t.view.figures = s.view.figures)
    (hdue : t.statusDue = false) (hreported : t.reported = s.reported) : s.command row body = .next t := by
  rw [command_next h, State.runEvent, hb, finish_sameView hm hv hmargin hfigures hdue hreported]

/-- The reply to a record that the slot of an event's state holds. -/
theorem answer_taken {s : State} {row : Instr} {r : List Byte} (h : s.takes row r) (c : ReplyCode) (b : List Byte) :
    (s.withStatusDue false).answer c b
      = (s.withStatusDue false).withHost { s.host with slot := replyTo r c b } := by
  obtain ⟨-, ⟨d, hslot⟩, -⟩ := h
  exact answer_pending (s := s.withStatusDue false) hslot c b

/-- READ_COUNTERS without `clear` (R186). -/
theorem readCounters_kept {s : State} {r : List Byte} (hm : s.marginOk = true) (h : s.takes .readCounters r)
    (hclear : arg8 r 0 = 0) :
    exec .readCounters s = .next ((s.repliedOnly r .ok s.counterBytes).withFreeCount (s.freeCount + 1)) := by
  refine command_sameView h hm ?_ ⟨rfl, rfl, rfl, rfl, rfl⟩ rfl rfl rfl rfl
  simp only [hclear, answer_taken h]
  rfl

/-- READ_COUNTERS with `clear` (R186). -/
theorem readCounters_cleared {s : State} {r : List Byte} (hm : s.marginOk = true) (h : s.takes .readCounters r)
    (hclear : arg8 r 0 = 1) :
    exec .readCounters s
      = .next (((s.repliedOnly r .ok s.counterBytes).withFreeCount (s.freeCount + 1)).clearCounts) := by
  refine command_sameView h hm ?_ ⟨rfl, rfl, rfl, rfl, rfl⟩ rfl rfl rfl rfl
  simp only [hclear, answer_taken h]
  rfl

theorem readCounters_badArg {s : State} {r : List Byte} (hm : s.marginOk = true) (h : s.takes .readCounters r)
    (hclear : 2 ≤ arg8 r 0) : exec .readCounters s = .next (s.repliedOnly r .badArg (le8 1)) :=
  command_reply h hm (if_pos hclear)

/-- RESET (R185). -/
theorem reset_answered {s : State} {r : List Byte} (hm : s.marginOk = true) (h : s.takes .reset r) :
    exec .reset s = .next
      { s with
        statusDue := false
        host := { s.host with
          slot := replyTo r .ok [], resetAt := some (s.now + 20), resetNow := false } } := by
  refine command_sameView h hm ?_ ⟨rfl, rfl, rfl, rfl, rfl⟩ rfl rfl rfl rfl
  rw [answer_taken h]
  rfl

/-! ### Fields at their widths (R196, R197) -/

/-- The bytes of `value` at a width, least significant first. -/
def leBytes (width value : Nat) : List Byte := (List.range width).map (fun i => BitVec.ofNat 8 (value / 256 ^ i))

theorem le8_eq (v : Nat) : le8 v = leBytes 1 v := by simp [le8, leBytes]

theorem le16_eq (v : Nat) : le16 v = leBytes 2 v := by simp [le16, leBytes, List.range_succ]

theorem le32_eq (v : Nat) : le32 v = leBytes 4 v := by
  simp [le32, le16, leBytes, List.range_succ, Nat.div_div_eq_div_mul]

theorem leInt16_eq (v : Int) : leInt16 v = leBytes 2 (v % 65536).toNat := by
  rw [leInt16, le16_eq, BitVec.toNat_ofInt]
  rfl

theorem leMark_eq (b : Bool) : leMark b = leBytes 1 (if b then 1 else 0) := by cases b <;> rfl

theorem leOpt_none {α : Type} (width : Nat) (f : α → List Byte) :
    leOpt width f none = leBytes 1 0 ++ List.replicate width 0 := rfl

theorem leOpt_some {α : Type} (width : Nat) (f : α → List Byte) (x : α) :
    leOpt width f (some x) = leBytes 1 1 ++ f x := rfl

theorem leList_eq {α : Type} (f : α → List Byte) (l : List α) :
    leList f l = leBytes 1 l.length ++ (l.map f).flatten := by
  rw [leList, le8_eq, List.flatMap_def]

/-! ### The results field by field -/

/-- A string record as READ_STRING reports it (R30). -/
theorem stringBytes_eq (x : StringRec) :
    let mark := fun (b : Bool) (v : Nat) => if b then v else 0
    x.bytes =
      le8 (match x.state with
        | .inService => 0
        | .test => 1
        | .isolated => 2)
      ++ le8 (match x.cls with
        | .good => 0
        | .worn => 1
        | .ended => 2)
      ++ le8 (mark x.ageUnknown 1 + mark x.unmeasured 2 + mark x.tempSuspect 4)
      ++ le32 x.q ++ le32 x.qFull ++ le16 x.soc ++ le16 x.u ++ le16 x.rho
      ++ le16 x.soh ++ le16 x.eUsable ++ le16 x.eAvail ++ le16 x.daysLeft
      ++ le32 x.aCal ++ le32 x.tDah ++ le16 x.deepCount ++ le16 x.dischEvents
      ++ le32 x.dischSeconds ++ le16 x.fDay ++ leList le32 x.resList ++ leOpt 4 le32 x.rRef
      ++ leOpt 2 le16 x.testCap
      ++ leOpt 24 (fun l : LastTest => le32 l.startMs ++ le16 l.socStart ++ le16 l.target
          ++ le16 l.limitMin ++ le32 l.delivered
          ++ leOpt 1 (fun v : Verdict => le8 (match v with
            | .pass => 1
            | .failVoltage => 2
            | .inconclusive => 3
            | .abortedHost => 4
            | .abortedDeficit => 5
            | .abortedStale => 6
            | .abortedBypass => 7)) l.verdict
          ++ leOpt 4 le32 l.endMs ++ leOpt 2 le16 l.kappa) x.lastTest
      ++ le16 x.captureRejects ++ leMark x.loaded := by
  have hstate : x.state.report.code = match x.state with
      | .inService => 0
      | .test => 1
      | .isolated => 2 := by cases x.state <;> rfl
  unfold StringRec.bytes
  rw [hstate]
  rfl

/-- The peers in a state, counted over the floor (R69). -/
theorem peersIn_length (s : State) (e : EntryState) : (s.peersIn e).length
    = (stations.filter (fun n => n != s.own && (s.peer n).state == e)).length := by
  simp only [State.peersIn, State.peerNumbers, List.filter_filter, Bool.and_comm]

/-- A frequency with its validity (R186; log 18). -/
theorem freqBytes_eq (n : Nat) (o : Option Nat) :
    freqBytes n o = le16 (o.getD (Config.invalidFrequency n).toNat) ++ leMark o.isSome := by
  cases o <;> rfl

/-- A station is covered by an entry of the cabinet class, or reports itself on bypass (R63). -/
theorem covered_nil_iff (s : State) (n : Nat) : s.covered [] n = true ↔
    (∃ w ∈ s.claims.list, w.owner = n ∧ (w.kind = .bypass ∨ w.kind = .maint))
      ∨ (s.entry n).core.flags.onBypass = true := by
  have hkind : ∀ k : WKind, k.isCabinet = true ↔ k = .bypass ∨ k = .maint := fun k => by cases k <;> decide
  simp [State.covered, hkind]

theorem insertEntry_perm (x : Withdrawal) (l : List Withdrawal) : (insertEntry x l).Perm (x :: l) := by
  induction l with
  | nil => exact List.Perm.refl _
  | cons y l ih =>
    unfold insertEntry
    split
    · exact List.Perm.refl _
    · exact (ih.cons y).trans (List.Perm.swap x y l)

/-- The order of READ_WITHDRAWALS has every entry once (R97). -/
theorem sortEntries_perm (l : List Withdrawal) : (sortEntries l).Perm l := by
  induction l with
  | nil => exact List.Perm.refl _
  | cons x l ih => exact (insertEntry_perm x _).trans (ih.cons x)

/-- An entry stands no later than another in the order of owner and claim id (R97). -/
def Withdrawal.Upto (a b : Withdrawal) : Prop := a.owner < b.owner ∨ (a.owner = b.owner ∧ a.claimId ≤ b.claimId)

theorem before_iff (a b : Withdrawal) : a.before b = true ↔ a.Upto b := by
  simp [Withdrawal.before, Withdrawal.Upto]

theorem insertEntry_sorted (x : Withdrawal) {l : List Withdrawal} (h : l.Pairwise Withdrawal.Upto) :
    (insertEntry x l).Pairwise Withdrawal.Upto := by
  induction l with
  | nil => exact List.pairwise_singleton ..
  | cons y l ih =>
    obtain ⟨hy, hl⟩ := List.pairwise_cons.mp h
    unfold insertEntry
    split
    · rename_i hbefore
      have hxy := (before_iff x y).mp hbefore
      refine List.pairwise_cons.mpr ⟨fun z hz => ?_, h⟩
      obtain rfl | hz := List.mem_cons.mp hz
      · exact hxy
      · have hyz := hy z hz
        unfold Withdrawal.Upto at *
        omega
    · rename_i hbefore
      have hxy : ¬ x.Upto y := fun hup => hbefore ((before_iff x y).mpr hup)
      refine List.pairwise_cons.mpr ⟨fun z hz => ?_, ih hl⟩
      obtain rfl | hz := List.mem_cons.mp ((insertEntry_perm x l).mem_iff.mp hz)
      · unfold Withdrawal.Upto at *
        omega
      · exact hy z hz

/-- The order of READ_WITHDRAWALS ascends (R97). -/
theorem sortEntries_sorted (l : List Withdrawal) : (sortEntries l).Pairwise Withdrawal.Upto := by
  induction l with
  | nil => exact List.Pairwise.nil
  | cons x l ih => exact insertEntry_sorted x ih

/-- Kind and scope in one byte (R198). -/
theorem kindScopeCode_eq (k : WKind) (c : Scope) : kindScopeCode k c = 16 * (match k with
      | .bypass => 1
      | .maint => 2
      | .test => 3
      | .service => 4) + (match c with
      | .cabinet => 1
      | .string k => 4 + k) := by
  cases k <;> cases c <;> rfl

/-- A record of the history with the three fields of R124 behind it. -/
theorem closedBytes_eq (c : ClosedVisit) : c.bytes =
    c.visit.headBytes ++ le8 c.visit.stateCode ++ le8 c.visit.overdue.code
      ++ (leList VisitAction.bytes c.visit.actions ++ leMark c.visit.actionsLost) ++ le32 c.closedMs
      ++ (match c.admission with
        | none => le8 1 ++ [0, 0, 0]
        | some (outcome, givenUp) => le8 2 ++ le8 1 ++ le8 outcome.code ++ leMark givenUp) := by
  unfold ClosedVisit.bytes
  cases c.admission with
  | none => simp [leOpt, List.replicate, le8]
  | some a => simp [leOpt, le8]

/-- The mark of an event is no part of what READ_VIEW reports. -/
theorem viewBytes_withStatusDue (s : State) (b : Bool) (n : Nat) :
    (s.withStatusDue b).viewBytes n = s.viewBytes n := by
  have hv := sameView_statusDue s b
  have hentry : (s.withStatusDue b).entry n = s.entry n := rfl
  rw [State.viewBytes, sameView_contribution hv, sameView_covered hv, hentry]
  rfl

/-- READ_VIEW of a station (R70). -/
theorem readView_ok {s : State} {r : List Byte} (hm : s.marginOk = true) (hs : s.startup.state = .joined)
    (ht : s.takes .readView r) (hlo : 1 ≤ arg8 r 0) (hhi : arg8 r 0 ≤ 16) :
    exec .readView s = .next (s.repliedOnly r .ok (s.viewBytes (arg8 r 0))) := by
  have hok : isStation (arg8 r 0) = true := by simp [isStation, hlo, hhi]
  exact command_joined_reply (body := fun r s =>
    if isStation (arg8 r 0) then s.answer .ok (s.viewBytes (arg8 r 0)) else s.badArg 1) ht hm hs
    (by simp only [hok, if_true, viewBytes_withStatusDue])

theorem readView_badArg {s : State} {r : List Byte} (hm : s.marginOk = true) (hs : s.startup.state = .joined)
    (ht : s.takes .readView r) (hout : arg8 r 0 = 0 ∨ 17 ≤ arg8 r 0) :
    exec .readView s = .next (s.repliedOnly r .badArg (le8 1)) := by
  have hbad : isStation (arg8 r 0) = false := by
    rw [Bool.eq_false_iff]
    intro hok
    simp only [isStation, Bool.and_eq_true, decide_eq_true_eq] at hok
    omega
  exact command_joined_reply (body := fun r s =>
    if isStation (arg8 r 0) then s.answer .ok (s.viewBytes (arg8 r 0)) else s.badArg 1) ht hm hs
    (by simp only [hbad]; rfl)

/-- READ_WITHDRAWALS (R97). -/
theorem readWithdrawals_ok {s : State} {r : List Byte} (hm : s.marginOk = true) (hs : s.startup.state = .joined)
    (ht : s.takes .readWithdrawals r) (hle : arg8 r 0 ≤ 31) :
    exec .readWithdrawals s = .next (s.repliedOnly r .ok (s.withdrawalBytes (arg8 r 0))) :=
  command_joined_reply ht hm hs (if_neg (Nat.not_lt.mpr hle))

theorem readWithdrawals_badArg {s : State} {r : List Byte} (hm : s.marginOk = true) (hs : s.startup.state = .joined)
    (ht : s.takes .readWithdrawals r) (hout : 32 ≤ arg8 r 0) :
    exec .readWithdrawals s = .next (s.repliedOnly r .badArg (le8 1)) :=
  command_joined_reply ht hm hs (if_pos hout)

/-- The current visit with its actions and their mark in one. -/
theorem currentBytes_eq (s : State) (v : Visit) : s.currentBytes v =
    v.headBytes ++ le8 v.stateCode ++ leMark v.givenUp ++ le8 v.overdue.code
      ++ (leList VisitAction.bytes v.actions ++ leMark v.actionsLost) ++ leMark v.keyOut
      ++ le32 (s.visitMinutes v) := by
  simp only [State.currentBytes, List.append_assoc]

/-- A view entry as READ_VIEW reports it (R70), its codes written out. -/
theorem entryBytes_eq (e : PeerEntry) : e.bytes = le8 (match e.state with
      | .absent => 1
      | .present => 2
      | .stale => 3
      | .lost => 4)
    ++ le8 e.lastSeq ++ leMark e.seqOpen ++ le16 e.age ++ e.core.bytes
    ++ leOpt 1 le8 e.claimInFlight
    ++ le8 (match e.visitScope with
      | none => 0
      | some .cabinet => 1
      | some (.string k) => 4 + k)
    ++ le8 e.overdue.code := by
  have hscope : visitScopeCode e.visitScope = match e.visitScope with
      | none => 0
      | some .cabinet => 1
      | some (.string k) => 4 + k := by rcases e.visitScope with _ | (_ | _) <;> rfl
  rw [PeerEntry.bytes, hscope]
  rfl

/-- Settles O12: each command by the branch it takes, each width by its bytes, and each result as its definition
lays it out. -/
theorem readingCommandsAndReset : Obligations.ReadingCommandsAndReset := by
  refine ⟨fun r s hm => ⟨fun x ht hs hx => ?_, fun ht hs hlong => ?_, fun hs => ⟨fun ht => ?_, readView_ok hm hs,
    readView_badArg hm hs, readWithdrawals_ok hm hs, readWithdrawals_badArg hm hs, fun ht hone => ?_,
    fun ht htwo hle => ?_, fun ht htwo hout => ?_, fun ht hone htwo => ?_⟩⟩,
    fun r s hm => ⟨readCounters_kept hm, readCounters_cleared hm, readCounters_badArg hm, reset_answered hm⟩,
    ⟨fun v => ⟨le8_eq v, le16_eq v, le32_eq v⟩, leInt16_eq, leMark_eq,
      fun α width f => ⟨leOpt_none width f, leOpt_some width f, leList_eq f⟩⟩,
    ⟨stringBytes_eq, fun s => ?_, fun s => ?_, rfl, fun s n => ?_⟩,
    ⟨fun s i => ?_, fun s => rfl, fun s v => ?_, fun c => ?_, rfl⟩⟩
  · have hready : ((s.withStatusDue false).inWindow || (s.withStatusDue false).joined) = true := by
      rcases hs with hs | hs <;> simp [State.inWindow, State.joined, hs]
    have hx' : (s.withStatusDue false).strings[arg8 r 0]? = some x := hx
    exact command_reply ht hm (by simp only [hready, hx', if_true])
  · have hready : ((s.withStatusDue false).inWindow || (s.withStatusDue false).joined) = true := by
      rcases hs with hs | hs <;> simp [State.inWindow, State.joined, hs]
    have hnone : (s.withStatusDue false).strings[arg8 r 0]? = none := List.getElem?_eq_none hlong
    exact command_reply ht hm (by simp only [hready, hnone, if_true]; rfl)
  · exact command_joined_reply ht hm hs rfl
  · exact command_joined_reply ht hm hs (if_pos hone)
  · exact command_joined_reply ht hm hs (by simp [htwo, Nat.not_lt.mpr hle]; rfl)
  · exact command_joined_reply ht hm hs (by simp [htwo, show 7 < arg8 r 1 from hout]; rfl)
  · exact command_joined_reply ht hm hs (by simp [hone, htwo]; rfl)
  · simp only [State.floorBytes, peersIn_length]
    cases s.view.margin <;> simp [Totals.bytes, Margin.code]
  · unfold State.counterBytes
    rw [freqBytes_eq, freqBytes_eq]
    cases s.startup.state <;> cases s.dog.stage <;> rcases s.startup.reason with _ | (_ | _ | _ | _) <;> rfl
  · refine ⟨s.covered [] n, covered_nil_iff s n, ?_⟩
    unfold State.viewBytes
    rw [entryBytes_eq] <;> rfl
  · refine ⟨sortEntries s.claims.list, sortEntries_perm _, sortEntries_sorted _, ?_⟩
    unfold State.withdrawalBytes Slot.bytes Withdrawal.bytes
    simp only [kindScopeCode_eq]
    rfl
  · rw [currentBytes_eq]
    rfl
  · rw [closedBytes_eq]
    rfl

end Sys2Proof.Machine

/-! PROOFS. The own transmit queue, the numbers that tags and claim ids take, and a request at the claim slot
(sections 4.2 and 7.5). -/

namespace Sys2Proof.Machine

-- One proof after another: side by side they ask for more thread stacks than there is memory for.
set_option Elab.async false

/-! ### The next number that is not held (R72, R157) -/

/-- Either the next number is the first one not held behind `c`, or every number as far as the search goes is
held. -/
theorem nextFree_cases (held : Nat → Bool) : ∀ fuel c, c ≤ 255 →
    (∃ i < fuel, nextFree held fuel c = (c + i) % 255 + 1 ∧ held ((c + i) % 255 + 1) = false
      ∧ ∀ j < i, held ((c + j) % 255 + 1) = true)
    ∨ ∀ j < fuel, held ((c + j) % 255 + 1) = true := by
  intro fuel
  induction fuel with
  | zero => exact fun c _ => .inr (fun j hj => absurd hj (Nat.not_lt_zero j))
  | succ fuel ih =>
    intro c hc
    have hn : (if 255 ≤ c then 1 else c + 1) = c % 255 + 1 := by split <;> omega
    have hshift : ∀ j, (c % 255 + 1 + j) % 255 + 1 = (c + (j + 1)) % 255 + 1 := fun j => by omega
    unfold nextFree
    simp only [hn]
    by_cases hheld : held (c % 255 + 1) = true
    · rw [if_pos hheld]
      have hfirst : ∀ {n : Nat}, (∀ j < n, held ((c % 255 + 1 + j) % 255 + 1) = true) →
          ∀ j < n + 1, held ((c + j) % 255 + 1) = true := by
        intro n hlater j hj
        cases j with
        | zero => exact hheld
        | succ j => rw [← hshift j]; exact hlater j (by omega)
      obtain ⟨i, hi, heq, hfree, hlater⟩ | hall := ih (c % 255 + 1) (by omega)
      · exact .inl ⟨i + 1, by omega, heq.trans (hshift i), (hshift i) ▸ hfree, hfirst hlater⟩
      · exact .inr (hfirst hall)
    · rw [if_neg hheld]
      exact .inl ⟨0, by omega, rfl, Bool.eq_false_iff.mpr hheld, fun j hj => absurd hj (Nat.not_lt_zero j)⟩

/-- Where fewer numbers are held than the search goes, the next number is one of 1 to 255 that is not held, and
the first one where that is free. -/
theorem nextFree_spec {held : Nat → Bool} {l : List Nat} (hl : ∀ n, held n = true → n ∈ l) {fuel c : Nat}
    (hlen : l.length < fuel) (hfuel : fuel ≤ 255) (hc : c ≤ 255) :
    1 ≤ nextFree held fuel c ∧ nextFree held fuel c ≤ 255 ∧ held (nextFree held fuel c) = false
    ∧ (held (c % 255 + 1) = false → nextFree held fuel c = c % 255 + 1) := by
  obtain ⟨i, -, heq, hfree, hbefore⟩ | hall := nextFree_cases held fuel c hc
  · rw [heq]
    refine ⟨by omega, by omega, hfree, fun hfirst => ?_⟩
    cases i with
    | zero => rfl
    | succ i => exact absurd ((hbefore 0 (by omega)).symm.trans hfirst) (by decide)
  · have hnodup : ((List.range fuel).map (fun j => (c + j) % 255 + 1)).Nodup :=
      List.Nodup.map_on (by
        intro x hx y hy hxy
        have := List.mem_range.mp hx
        have := List.mem_range.mp hy
        omega) List.nodup_range
    have hsub : (List.range fuel).map (fun j => (c + j) % 255 + 1) ⊆ l := by
      intro n hn
      obtain ⟨j, hj, rfl⟩ := List.mem_map.mp hn
      exact hl _ (hall j (List.mem_range.mp hj))
    have hle := (hnodup.subperm hsub).length_le
    simp at hle
    omega

/-- A new claim id is one that no own entry bears (R72). -/
theorem newClaimId_spec {s : State} (hown : s.ownWithdrawals.length < 255) (hlast : s.claims.lastId ≤ 255) :
    1 ≤ s.newClaimId ∧ s.newClaimId ≤ 255 ∧ (∀ w ∈ s.ownWithdrawals, w.claimId ≠ s.newClaimId)
    ∧ ((∀ w ∈ s.ownWithdrawals, w.claimId ≠ s.claims.lastId % 255 + 1) →
        s.newClaimId = s.claims.lastId % 255 + 1) := by
  have hfalse : ∀ n, (s.ownWithdrawals.any (fun w => w.claimId == n)) = false
      ↔ ∀ w ∈ s.ownWithdrawals, w.claimId ≠ n := by
    intro n
    rw [Bool.eq_false_iff]
    simp
  obtain ⟨hlo, hhi, hfree, hfirst⟩ := nextFree_spec
    (held := fun n => s.ownWithdrawals.any (fun w => w.claimId == n)) (l := s.ownWithdrawals.map (fun w => w.claimId))
    (by intro n hn; simpa using hn) (by simpa using hown) (le_refl 255) hlast
  exact ⟨hlo, hhi, (hfalse _).mp hfree, fun h => hfirst ((hfalse _).mpr h)⟩

/-! ### Frames that join the own queue (R157 to R159) -/

/-- A frame that finds room stands in the queue with its tag. -/
theorem queueOwn_sends (s : State) (k : FrameKind) (id : Nat) (body : List Byte)
    (hroom : (queueFor k s.loop.queue).length < 8) : (s.queueOwn k id body).1.sends k id body := by
  refine ⟨⟨k, (s.queueOwn k id body).2, id, ownBytes k s.own (s.queueOwn k id body).2 body⟩, ?_, rfl, rfl, rfl⟩
  show _ ∈ (joinQueue _ _ _).1
  rw [joinQueue, if_pos hroom]
  exact List.mem_append_right _ (List.mem_singleton.mpr rfl)

/-- A frame that is no STATUS leaves the queue by no other frame's joining it. -/
theorem mem_queueOwn {s : State} {f : OwnFrame} (k : FrameKind) (id : Nat) (body : List Byte)
    (hf : f ∈ s.loop.queue) (hkind : f.kind ≠ .status) : f ∈ (s.queueOwn k id body).1.loop.queue := by
  have hfor : f ∈ queueFor k s.loop.queue := by
    unfold queueFor
    split
    · exact List.mem_filter.mpr ⟨hf, by simpa using hkind⟩
    · exact hf
  show f ∈ (joinQueue _ _ _).1
  unfold joinQueue
  split
  · exact List.mem_append_left _ hfor
  · split
    · exact List.mem_append_left _ ((List.mem_eraseP_of_neg (by simpa using hkind)).mpr hfor)
    · exact hfor

/-- A frame that is no STATUS and is sent stays sent while another joins the queue. -/
theorem sends_queueOwn {s : State} {k : FrameKind} {id : Nat} {body : List Byte} (h : s.sends k id body)
    (hk : k ≠ .status) (k' : FrameKind) (id' : Nat) (body' : List Byte) :
    (s.queueOwn k' id' body').1.sends k id body := by
  obtain ⟨f, hf, rfl, hid, hbytes⟩ := h
  exact ⟨f, mem_queueOwn k' id' body' hf hk, rfl, hid, hbytes⟩

/-- What a station sends rests on its own queue and its number alone. -/
theorem sends_of_kept {s t : State} {k : FrameKind} {id : Nat} {body : List Byte} (h : s.sends k id body)
    (hq : t.loop.queue = s.loop.queue) (hi : t.image = s.image) : t.sends k id body := by
  obtain ⟨f, hf, hkind, hid, hbytes⟩ := h
  refine ⟨f, hq ▸ hf, hkind, hid, ?_⟩
  rw [hbytes, show t.own = s.own by simp only [State.own, State.cfg, hi]]

theorem sends_of_frame {s t : State} {f : List Piece} {k : FrameKind} {id : Nat} {body : List Byte}
    (h : s.sends k id body) (hf : s.ChangesOnly f t)
    (hfree : (f.contains .ownQueue || f.contains .image) = false) : t.sends k id body := by
  rw [Bool.or_eq_false_iff] at hfree
  exact sends_of_kept h (hf.kept .ownQueue (by simpa using hfree.1)).1 (hf.kept .image (by simpa using hfree.2))

/-! ### A request at the claim slot (R75 to R77) -/

/-- What stands against the own view, in its order (R76, R79, R81). -/
theorem viewObstacle_eq (s : State) : s.viewObstacle =
    if s.view.duplicate = true then some .duplicate
    else if s.claims.incomplete = true then some .viewFull
    else if s.view.margin = .deficit then some .deficit
    else none := rfl

/-- The first of the three tests that fails, as the inequalities they are (R65). -/
theorem failing_eq (p : Policy) (t : Totals) : p.failing t =
    if t.c * 100 < t.l * (100 + p.reserve) then some .capacity
    else if t.e * 60 < t.l * p.autonomy then some .energy
    else if t.d * p.exposure < t.x * 100 then some .exposure
    else none := by
  simp only [Policy.failing, Policy.capacityOk, Policy.energyOk, Policy.exposureOk, Bool.not_eq_true',
    ← Bool.not_eq_true, Nat.ble_eq, Nat.not_le]

/-- The local check names the first condition of R76 that fails. -/
theorem localCheck_eq (s : State) (w : Hyp) : s.localCheck w =
    if s.view.duplicate = true then some .duplicate
    else if s.claims.incomplete = true then some .viewFull
    else if s.view.margin = .deficit then some .deficit
    else if s.loop.a.up = false ∧ s.loop.b.up = false then some .isolated
    else if (s.peersIn .present).length + 1 < s.cfg.quorum then some .quorum
    else if (s.totals [w]).c * 100 < (s.totals [w]).l * (100 + s.cfg.reservePct) then some .capacity
    else if (s.totals [w]).e * 60 < (s.totals [w]).l * s.cfg.autonomyMin then some .energy
    else if (s.totals [w]).d * s.cfg.exposurePct < (s.totals [w]).x * 100 then some .exposure
    else none := by
  have hdown : s.portsDown = true ↔ s.loop.a.up = false ∧ s.loop.b.up = false := by simp [State.portsDown]
  by_cases hdup : s.view.duplicate = true
  · simp [State.localCheck, viewObstacle_eq, hdup]
  by_cases hfull : s.claims.incomplete = true
  · simp [State.localCheck, viewObstacle_eq, hdup, hfull]
  by_cases hdef : s.view.margin = .deficit
  · simp [State.localCheck, viewObstacle_eq, hdup, hfull, hdef]
  have hview : s.viewObstacle = none := by rw [viewObstacle_eq, if_neg hdup, if_neg hfull, if_neg hdef]
  rw [if_neg hdup, if_neg hfull, if_neg hdef, State.localCheck, hview]
  simp only [hdown, Nat.blt_eq, failing_eq]
  rfl

/-- A request outside FREE is answered BUSY (R75). -/
theorem requestClaim_busy {s : State} (h : s.claims.slot ≠ .free) (who : Requester) (k : WKind) (c : Scope)
    (planned : Nat) : s.requestClaim who k c planned = (.busy, s) := if_neg h

/-- A request that the local check refuses changes nothing (R76). -/
theorem requestClaim_refused {s : State} {k : WKind} {c : Scope} {x : Reason} (h : s.claims.slot = .free)
    (hx : s.localCheck (s.ownHyp k c) = some x) (who : Requester) (planned : Nat) :
    s.requestClaim who k c planned = (.refused x, s) := by
  simp [State.requestClaim, h, hx]

/-- A request that passes is sent (R77). -/
theorem requestClaim_sent {s : State} {k : WKind} {c : Scope} (h : s.claims.slot = .free)
    (hx : s.localCheck (s.ownHyp k c) = none) (who : Requester) (planned : Nat) :
    s.requestClaim who k c planned = (.sent s.newClaimId, s.sendClaim ⟨who, k, c, planned, 0, false, 0⟩) := by
  simp [State.requestClaim, h, hx]

theorem sendClaim_slot (s : State) (q : Request) : (s.sendClaim q).claims.slot
    = .inFlight { q with lastId := s.newClaimId } s.newClaimId (s.sendClaim q).loop.tagCounter
        (s.now + s.cfg.claimTimeout) := rfl

/-- A CLAIM that is sent joins the own queue where there is room (R77). -/
theorem sendClaim_sends (s : State) (q : Request) (hroom : s.loop.queue.length < 8) :
    (s.sendClaim q).sends .claim s.newClaimId
      (le8 s.newClaimId ++ le8 (kindScopeCode q.kind q.scope) ++ le16 q.planned ++ s.ownCore.bytes
        ++ le16 0 ++ le8 0 ++ le8 0) :=
  sends_of_frame (queueOwn_sends (s.onClaims (fun c => { c with lastId := s.newClaimId })) .claim s.newClaimId _
    (show (queueFor .claim s.loop.queue).length < 8 from hroom)) (setSlot_frame ..) rfl

/-- Settles O22: the branches of a request, the first condition of its local check, and the number its claim
takes. -/
theorem localCheckAndClaim : Obligations.LocalCheckAndClaim := by
  intro who k c planned s a v id
  refine ⟨fun h => requestClaim_busy h who k c planned, fun h => ?_, fun hown hlast =>
    newClaimId_spec (by omega) hlast⟩
  have hcheck := localCheck_eq s (s.ownHyp k c)
  have hrefused : ∀ {x : Reason}, s.localCheck (s.ownHyp k c) = some x → a = (.refused x, s) :=
    fun hx => requestClaim_refused h hx who planned
  by_cases hduplicate : s.view.duplicate = true
  · rw [if_pos hduplicate]
    exact hrefused (hcheck.trans (if_pos hduplicate))
  replace hcheck := hcheck.trans (if_neg hduplicate)
  rw [if_neg hduplicate]
  by_cases hfull : s.claims.incomplete = true
  · rw [if_pos hfull]
    exact hrefused (hcheck.trans (if_pos hfull))
  replace hcheck := hcheck.trans (if_neg hfull)
  rw [if_neg hfull]
  by_cases hdeficit : s.view.margin = .deficit
  · rw [if_pos hdeficit]
    exact hrefused (hcheck.trans (if_pos hdeficit))
  replace hcheck := hcheck.trans (if_neg hdeficit)
  rw [if_neg hdeficit]
  by_cases hdown : s.loop.a.up = false ∧ s.loop.b.up = false
  · rw [if_pos hdown]
    exact hrefused (hcheck.trans (if_pos hdown))
  replace hcheck := hcheck.trans (if_neg hdown)
  rw [if_neg hdown]
  by_cases hquorum : (s.peersIn .present).length + 1 < s.cfg.quorum
  · rw [if_pos hquorum]
    exact hrefused (hcheck.trans (if_pos hquorum))
  replace hcheck := hcheck.trans (if_neg hquorum)
  rw [if_neg hquorum]
  by_cases hcapacity : v.c * 100 < v.l * (100 + s.cfg.reservePct)
  · rw [if_pos hcapacity]
    exact hrefused (hcheck.trans (if_pos hcapacity))
  replace hcheck := hcheck.trans (if_neg hcapacity)
  rw [if_neg hcapacity]
  by_cases henergy : v.e * 60 < v.l * s.cfg.autonomyMin
  · rw [if_pos henergy]
    exact hrefused (hcheck.trans (if_pos henergy))
  replace hcheck := hcheck.trans (if_neg henergy)
  rw [if_neg henergy]
  by_cases hexposure : v.d * s.cfg.exposurePct < v.x * 100
  · rw [if_pos hexposure]
    exact hrefused (hcheck.trans (if_pos hexposure))
  replace hcheck := hcheck.trans (if_neg hexposure)
  rw [if_neg hexposure]
  rw [show a = _ from requestClaim_sent h hcheck who planned]
  exact ⟨rfl, rfl, rfl, fun hroom => sendClaim_sends s _ hroom, sendClaim_frame ..⟩

end Sys2Proof.Machine

/-! PROOFS. Events that the view does not see, and REQ_TEST (sections 2.2 and 3.2). -/

namespace Sys2Proof.Machine

-- One proof after another: side by side they ask for more thread stacks than there is memory for.
set_option Elab.async false

/-! ### Events outside the view -/

section
variable {s t : State} {f : List Piece}

/-- What lies outside the pieces of the view is no part of what R55 watches. -/
theorem reported_of_frame (h : s.ChangesOnly f t)
    (hf : f.all (fun p => !viewPieces.contains p) = true := by rfl) : t.reported = s.reported := by
  have kept : ∀ p ∈ viewPieces, p.kept s t := fun p hp => h.kept p fun hpf => by
    have := List.all_eq_true.mp hf p hpf
    simp [hp] at this
  have himage : t.image = s.image := kept .image (by decide)
  have hdog : t.dog = s.dog := kept .watchdog (by decide)
  have hseq : t.seq = s.seq := kept .sequencer (by decide)
  have hvisit : t.visit = s.visit := kept .visits (by decide)
  have hstrings : t.strings = s.strings := kept .strings (by decide)
  obtain ⟨hmargin, -⟩ := kept .margin (by decide)
  obtain ⟨hlist, -⟩ := kept .withdrawals (by decide)
  simp only [State.reported, State.ownWithdrawals, State.ownFlags, State.hostSilent, State.own, State.cfg, himage,
    hdog, hseq, hvisit, hstrings, hmargin, hlist]

/-- An event outside the view, that marks nothing of R55, has no end of its own. -/
theorem finish_outside (hm : s.marginOk = true) (h : s.ChangesOnly f t) (hd : t.statusDue = false)
    (hf : f.all (fun p => !viewPieces.contains p) = true := by rfl) : State.finish s t = t := by
  have kept : ∀ p ∈ viewPieces, p.kept s t := fun p hp => h.kept p fun hpf => by
    have := List.all_eq_true.mp hf p hpf
    simp [hp] at this
  obtain ⟨hmargin, hfigures⟩ := kept .margin (by decide)
  exact finish_sameView hm (sameView_of_frame h hf) hmargin hfigures hd (reported_of_frame h hf)

theorem frame_of_event (h : (s.withStatusDue false).ChangesOnly f t) : s.ChangesOnly f t :=
  changesOnly_then (withStatusDue_frame s false) h rfl (by simp)

/-- Such an event is its body. -/
theorem event_outside {g : Bool} {body : State → State} (hr : s.running = true) (hg : g = true)
    (hm : s.marginOk = true) (hb : body (s.withStatusDue false) = t) (h : (s.withStatusDue false).ChangesOnly f t)
    (hd : t.statusDue = false) (hf : f.all (fun p => !viewPieces.contains p) = true := by rfl) :
    s.event g body = .next t := by
  rw [event_next hr hg, State.runEvent, hb, finish_outside hm (frame_of_event h) hd hf]

/-- A command outside the view is its body. -/
theorem command_outside {row : Instr} {r : List Byte} {body : List Byte → State → State} (ht : s.takes row r)
    (hm : s.marginOk = true) (hb : body r (s.withStatusDue false) = t)
    (h : (s.withStatusDue false).ChangesOnly f t) (hd : t.statusDue = false)
    (hf : f.all (fun p => !viewPieces.contains p) = true := by rfl) : s.command row body = .next t := by
  rw [command_next ht, State.runEvent, hb, finish_outside hm (frame_of_event h) hd hf]

end

/-! ### REQ_TEST (R37, R38) -/

section
variable {s : State} {r : List Byte}

/-- What REQ_TEST does in JOINED. -/
def State.reqTest (r : List Byte) (s : State) : State :=
  match s.strings[arg8 r 0]? with
  | none => s.badArg 1
  | some rec =>
    if !inRange (arg16 r 1) 3000 9000 then s.badArg 2
    else if !inRange (arg16 r 3) 10 600 then s.badArg 3
    else if s.hostSilent then s.staleReply
    else match s.testObstacle (arg8 r 0) rec with
      | some c => s.badState c
      | none => s.claimTest (arg8 r 0) (arg16 r 1) (arg16 r 3)

theorem execReqTest_eq (s : State) :
    exec .reqTest s = s.command .reqTest (fun r s => s.whenJoined (State.reqTest r)) := rfl

/-- A record that is taken stands in the slot of the state its event begins with. -/
theorem State.takes.pending {row : Instr} (h : s.takes row r) : ∃ d, (s.withStatusDue false).host.slot = .pending r d :=
  h.2.1

theorem reqTest_reply (ht : s.takes .reqTest r) (hs : s.startup.state = .joined) (hm : s.marginOk = true)
    {c : ReplyCode} {b : List Byte}
    (hb : State.reqTest r (s.withStatusDue false) = (s.withStatusDue false).answer c b) :
    exec .reqTest s = .next (s.repliedOnly r c b) := by
  rw [execReqTest_eq]
  exact command_joined_reply ht hm hs hb

/-- A request with its arguments in range and the host heard is examined on its string. -/
theorem reqTest_examined {x : StringRec} (hx : s.strings[arg8 r 0]? = some x)
    (htarget : ¬ (arg16 r 1 < 3000 ∨ 9000 < arg16 r 1)) (hlimit : ¬ (arg16 r 3 < 10 ∨ 600 < arg16 r 3))
    (hheard : s.hostSilent = false) : State.reqTest r s = match s.testObstacle (arg8 r 0) x with
      | some c => s.badState c
      | none => s.claimTest (arg8 r 0) (arg16 r 1) (arg16 r 3) := by
  have h1 : inRange (arg16 r 1) 3000 9000 = true := inRange_iff.mpr (by omega)
  have h2 : inRange (arg16 r 3) 10 600 = true := inRange_iff.mpr (by omega)
  simp [State.reqTest, hx, h1, h2, hheard]

/-- The first condition of R37 step 4 that fails. -/
theorem testObstacle_eq (s : State) (k : Nat) (x : StringRec) : s.testObstacle k x =
    if s.seq.state ≠ .online then some 1
    else if s.job.state ≠ .idle then some 2
    else if x.state ≠ .inService then some 3
    else if x.cls = .ended ∧ ({ x with testCap := none }.recompute (s.params k) false).cls = .ended then some 4
    else if x.unmeasured = true then some 5
    else if x.soc < 9000 then some 6
    else if s.visitScope = some (.string k) then some 7
    else none := by
  have hend : (!x.endOk (s.params k)) = true
      ↔ x.cls = .ended ∧ ({ x with testCap := none }.recompute (s.params k) false).cls = .ended := by
    simp [StringRec.endOk, StringRec.classUncapped]
  simp only [State.testObstacle, hend]
  rfl

/-- What a TEST claim that is sent leaves behind (R38). -/
theorem claimTest_sent {d : Nat} (hslot : s.host.slot = .pending r d) (hfree : s.claims.slot = .free) {k : Nat}
    (hcheck : s.localCheck (s.ownHyp .test (.string k)) = none) (target limit : Nat) :
    s.claimTest k target limit
      = ((s.sendClaim ⟨.ageing, .test, .string k, limit, 0, false, 0⟩).withJob
          ⟨.claiming, k, target, limit, none, none⟩).withHost
            { s.host with slot := replyTo r .accepted (le8 s.newClaimId) } := by
  have hhost : ((s.sendClaim ⟨.ageing, .test, .string k, limit, 0, false, 0⟩).withJob
      ⟨.claiming, k, target, limit, none, none⟩).host = s.host := rfl
  rw [State.claimTest, requestClaim_sent hfree hcheck]
  simp only
  rw [answer_pending (hhost ▸ hslot), hhost]

/-- A TEST claim that is sent changes its own places alone. -/
theorem claimTest_frame (s : State) (k target limit : Nat) :
    s.ChangesOnly [.job, .claimIds, .slot, .command, .ownQueue] (s.claimTest k target limit) := by
  have h := requestClaim_frame s .ageing .test (.string k) limit
  unfold State.claimTest
  simp only
  split
  · exact changesOnly_then h (answer_frame ..) rfl rfl
  · exact changesOnly_then h (answer_frame ..) rfl rfl
  · exact changesOnly_then (changesOnly_then h (withJob_frame ..)
      (e := [.job, .claimIds, .slot, .ownQueue]) rfl rfl) (answer_frame ..) rfl rfl

/-- The mark of an event is no part of the local check. -/
theorem localCheck_withStatusDue (s : State) (b : Bool) (w : Hyp) : (s.withStatusDue b).localCheck w = s.localCheck w := by
  rw [localCheck_eq, localCheck_eq, sameView_totals (sameView_statusDue s b)]
  rfl

/-- Settles O21: REQ_TEST along the conditions of R37, and the claim of R38 where all of them hold. -/
theorem reqTest : Obligations.ReqTest := by
  intro r s ht hs hm k target limit replies
  have reply : ∀ {c : ReplyCode} {b : List Byte},
      State.reqTest r (s.withStatusDue false) = (s.withStatusDue false).answer c b →
      exec .reqTest s = .next (s.repliedOnly r c b) := reqTest_reply ht hs hm
  by_cases hk : s.strings.length ≤ k
  · have hnone : (s.withStatusDue false).strings[arg8 r 0]? = none := List.getElem?_eq_none hk
    rw [if_pos hk]
    exact reply (by simp only [State.reqTest, hnone]; rfl)
  rw [if_neg hk]
  obtain ⟨x, hx⟩ : ∃ x, (s.withStatusDue false).strings[arg8 r 0]? = some x :=
    ⟨_, List.getElem?_eq_getElem (by simpa using hk)⟩
  by_cases htarget : target < 3000 ∨ 9000 < target
  · have hout : inRange (arg16 r 1) 3000 9000 = false := by
      rw [Bool.eq_false_iff, ne_eq, inRange_iff]
      omega
    rw [if_pos htarget]
    exact reply (by simp only [State.reqTest, hx, hout]; rfl)
  rw [if_neg htarget]
  by_cases hlimit : limit < 10 ∨ 600 < limit
  · have hin : inRange (arg16 r 1) 3000 9000 = true := inRange_iff.mpr (by omega)
    have hout : inRange (arg16 r 3) 10 600 = false := by
      rw [Bool.eq_false_iff, ne_eq, inRange_iff]
      omega
    rw [if_pos hlimit]
    exact reply (by simp only [State.reqTest, hx, hin, hout]; rfl)
  rw [if_neg hlimit]
  by_cases hstale : s.dog.stage = .hostStale ∨ s.dog.stage = .unsupervised
  · have h1 : inRange (arg16 r 1) 3000 9000 = true := inRange_iff.mpr (by omega)
    have h2 : inRange (arg16 r 3) 10 600 = true := inRange_iff.mpr (by omega)
    have hsilent : (s.withStatusDue false).hostSilent = true := (hostSilent_iff s).mpr hstale
    rw [if_pos hstale]
    exact reply (by simp only [State.reqTest, hx, h1, h2, hsilent]; rfl)
  rw [if_neg hstale]
  intro y hy
  obtain rfl : x = y := Option.some.inj (hx.symm.trans hy)
  have hheard : (s.withStatusDue false).hostSilent = false := by
    rw [Bool.eq_false_iff]
    exact fun h => hstale ((hostSilent_iff s).mp h)
  have hbody := reqTest_examined hx htarget hlimit hheard
  have hobstacle := testObstacle_eq (s.withStatusDue false) k x
  have refused : ∀ {c : Nat}, (s.withStatusDue false).testObstacle (arg8 r 0) x = some c →
      exec .reqTest s = .next (s.repliedOnly r .badState (le8 c)) :=
    fun h => reply (by rw [hbody, h]; rfl)
  by_cases hseq : s.seq.state ≠ .online
  · rw [if_pos hseq]
    exact refused (hobstacle.trans (if_pos hseq))
  replace hobstacle := hobstacle.trans (if_neg hseq)
  rw [if_neg hseq]
  by_cases hjob : s.job.state ≠ .idle
  · rw [if_pos hjob]
    exact refused (hobstacle.trans (if_pos hjob))
  replace hobstacle := hobstacle.trans (if_neg hjob)
  rw [if_neg hjob]
  by_cases hstate : x.state ≠ .inService
  · rw [if_pos hstate]
    exact refused (hobstacle.trans (if_pos hstate))
  replace hobstacle := hobstacle.trans (if_neg hstate)
  rw [if_neg hstate]
  by_cases hend : x.cls = .ended
      ∧ ({ x with testCap := none }.recompute (s.params k) false).cls = .ended
  · rw [if_pos hend]
    exact refused (hobstacle.trans (if_pos hend))
  replace hobstacle := hobstacle.trans (if_neg hend)
  rw [if_neg hend]
  by_cases hunmeasured : x.unmeasured = true
  · rw [if_pos hunmeasured]
    exact refused (hobstacle.trans (if_pos hunmeasured))
  replace hobstacle := hobstacle.trans (if_neg hunmeasured)
  rw [if_neg hunmeasured]
  by_cases hsoc : x.soc < 9000
  · rw [if_pos hsoc]
    exact refused (hobstacle.trans (if_pos hsoc))
  replace hobstacle := hobstacle.trans (if_neg hsoc)
  rw [if_neg hsoc]
  by_cases hvisit : s.visitScope = some (.string k)
  · rw [if_pos hvisit]
    exact refused (hobstacle.trans (if_pos hvisit))
  replace hobstacle := hobstacle.trans (if_neg hvisit)
  rw [if_neg hvisit]
  have hclaims : State.reqTest r (s.withStatusDue false) = (s.withStatusDue false).claimTest k target limit := by
    rw [hbody, hobstacle]
  by_cases hbusy : s.claims.slot ≠ .free
  · rw [if_pos hbusy]
    exact reply (by rw [hclaims, State.claimTest, requestClaim_busy (s := s.withStatusDue false) hbusy]; rfl)
  rw [if_neg hbusy]
  have hfree : (s.withStatusDue false).claims.slot = .free := not_not.mp hbusy
  have hcheck : (s.withStatusDue false).localCheck ((s.withStatusDue false).ownHyp .test (.string k))
      = s.localCheck ⟨s.own, .test, .string k⟩ := localCheck_withStatusDue s false _
  split
  · rename_i reason hreason
    exact reply (by
      rw [hclaims, State.claimTest, requestClaim_refused hfree (hcheck.trans hreason)]
      rfl)
  · rename_i hnone
    obtain ⟨d, hslot⟩ := ht.pending
    have hsent := claimTest_sent hslot hfree (hcheck.trans hnone) target limit
    have hout : exec .reqTest s = .next ((s.withStatusDue false).claimTest k target limit) := by
      rw [execReqTest_eq]
      exact command_outside ht hm ((whenJoined_pos (s := s.withStatusDue false) (joined_of_state hs)).trans hclaims)
        (claimTest_frame _ k target limit) (by rw [hsent]; rfl)
    refine ⟨_, hout, ?_⟩
    rw [hsent]
    have hkind : kindScopeCode .test (.string k) = 48 + 4 + k := by simp [kindScopeCode, WKind.code, Scope.code]; omega
    refine ⟨rfl, rfl, rfl, rfl, fun hroom => ?_, hsent ▸ frame_of_event (claimTest_frame _ k target limit)⟩
    have hsends := sendClaim_sends (s.withStatusDue false) ⟨.ageing, .test, .string k, limit, 0, false, 0⟩ hroom
    rw [hkind] at hsends
    exact sends_of_kept hsends rfl rfl

end
end Sys2Proof.Machine

/-! PROOFS. What events tell the host, and the end of a test (sections 2.3 and 9.4). -/

namespace Sys2Proof.Machine

-- One proof after another: side by side they ask for more thread stacks than there is memory for.
set_option Elab.async false

variable {s t : State}

/-! ### Notices that an operation raises (R187) -/

/-- The pieces of the host port. -/
def hostPieces : List Piece := [.command, .reset, .notices, .transaction, .hostCounts]

/-- The host port stands where none of its pieces changes. -/
theorem host_of_frame {f : List Piece} (h : s.ChangesOnly f t)
    (hf : f.all (fun p => !hostPieces.contains p) = true := by rfl) : t.host = s.host := by
  have kept : ∀ p ∈ hostPieces, p.kept s t := fun p hp => h.kept p fun hpf => by
    have := List.all_eq_true.mp hf p hpf
    simp [hp] at this
  have hslot : t.host.slot = s.host.slot := kept .command (by decide)
  obtain ⟨hat, hnow⟩ := kept .reset (by decide)
  obtain ⟨hnotices, hoverflow, hirq⟩ := kept .notices (by decide)
  obtain ⟨htxn, hshifted⟩ := kept .transaction (by decide)
  obtain ⟨hrejected, hbad⟩ := kept .hostCounts (by decide)
  calc t.host = ⟨t.host.slot, t.host.notices, t.host.overflow, t.host.irq, t.host.rejected, t.host.bad, t.host.txn,
        t.host.shifted, t.host.resetAt, t.host.resetNow⟩ := rfl
    _ = _ := by rw [hslot, hat, hnow, hnotices, hoverflow, hirq, htxn, hshifted, hrejected, hbad]

/-- A notice raised from JOIN onward joins the queue, and nothing else changes. -/
theorem notify_eq (hj : s.joined = true) (k : NoticeKind) (a b c d : Int) :
    s.notify k a b c d = s.withHost (s.host.join (s.noticeOf k a b c d)) := by
  simp [State.notify, State.raise, hj, State.onHost, State.noticeOf]

/-- A notice raised from JOIN onward joins the queue. -/
theorem notify_host (hj : s.joined = true) (k : NoticeKind) (a b c d : Int) :
    (s.notify k a b c d).host = s.host.join (s.noticeOf k a b c d) := by
  rw [notify_eq hj]
  rfl

theorem joinAll_append (h : HostPort) (l m : List Notice) : h.joinAll (l ++ m) = (h.joinAll l).joinAll m :=
  List.foldl_append ..

theorem joinAll_singleton (h : HostPort) (n : Notice) : h.joinAll [n] = h.join n := rfl

/-- A notice touches the queue of notices alone. -/
theorem join_slot (h : HostPort) (n : Notice) : (h.join n).slot = h.slot := by
  unfold HostPort.join
  split <;> rfl

theorem join_prefix (h : HostPort) (n : Notice) : h.notices <+: (h.join n).notices := by
  unfold HostPort.join
  split
  · exact List.prefix_append ..
  · exact List.prefix_refl _

/-- Notices of one time are the same from whatever state they are raised. -/
theorem noticeOf_of_clock (h : t.us = s.us) (k : NoticeKind) (a b c d : Int) :
    t.noticeOf k a b c d = s.noticeOf k a b c d := by
  simp only [State.noticeOf, State.now, h]

theorem joined_of_frame {f : List Piece} (h : s.ChangesOnly f t) (hf : f.contains .startup = false := by rfl) :
    t.joined = s.joined := joined_of_startup (h.kept .startup (by simpa using hf))

theorem clock_of_frame {f : List Piece} (h : s.ChangesOnly f t) (hf : f.contains .clock = false := by rfl) :
    t.us = s.us := h.kept .clock (by simpa using hf)

theorem strings_of_frame {f : List Piece} (h : s.ChangesOnly f t) (hf : f.contains .strings = false := by rfl) :
    t.strings = s.strings := h.kept .strings (by simpa using hf)

theorem params_of_frame {f : List Piece} (h : s.ChangesOnly f t) (k : Nat)
    (hf : f.contains .image = false := by rfl) : t.params k = s.params k := by
  have himage : t.image = s.image := h.kept .image (by simpa using hf)
  simp only [State.params, State.cfg, himage]

theorem hostSilent_of_frame {f : List Piece} (h : s.ChangesOnly f t)
    (hf : f.contains .watchdog = false := by rfl) : t.hostSilent = s.hostSilent := by
  have hdog : t.dog = s.dog := h.kept .watchdog (by simpa using hf)
  simp only [State.hostSilent, hdog]

/-! ### One record among the records -/

/-- STRING_CLASS where the class of record `k` goes from that of `x` to that of `y` (R24). -/
def State.classNotice (s : State) (k : Nat) (x y : StringRec) : List Notice :=
  if x.cls = y.cls then [] else [s.noticeOf .stringClass k x.cls.code y.cls.code y.soh]

theorem classNotice_of_clock (h : t.us = s.us) (k : Nat) (x y : StringRec) :
    t.classNotice k x y = s.classNotice k x y := by
  simp only [State.classNotice, noticeOf_of_clock h]

/-- The notices of a change of one record are those of that record. -/
theorem classNotices_set {k : Nat} {x : StringRec} (hx : s.strings[k]? = some x) (y : StringRec) :
    s.classNotices (s.strings.set k y) = s.classNotice k x y := by
  have hget : ∀ (l : List StringRec) (base k : Nat), l[k]? = some x →
      ((l.zip (l.set k y)).zip (List.range' base l.length)).filterMap (fun x =>
        if x.1.1.cls = x.1.2.cls then none
        else some (s.noticeOf .stringClass x.2 x.1.1.cls.code x.1.2.cls.code x.1.2.soh))
      = s.classNotice (base + k) x y := by
    intro l
    induction l with
    | nil => exact fun _ _ h => absurd h (by simp)
    | cons r l ih =>
      intro base k hk
      have hself : ∀ (l : List StringRec) (base : Nat),
          ((l.zip l).zip (List.range' base l.length)).filterMap (fun x =>
            if x.1.1.cls = x.1.2.cls then none
            else some (s.noticeOf .stringClass x.2 x.1.1.cls.code x.1.2.cls.code x.1.2.soh)) = [] := by
        intro l
        induction l with
        | nil => exact fun _ => rfl
        | cons r l ih => exact fun base => by simpa [List.range'_succ] using ih (base + 1)
      cases k with
      | zero =>
        obtain rfl : r = x := by simpa using hk
        by_cases hcls : r.cls = y.cls
        · simpa [List.range'_succ, State.classNotice, hcls] using hself l (base + 1)
        · simpa [List.range'_succ, State.classNotice, hcls] using hself l (base + 1)
      | succ k =>
        have hrest := ih (base + 1) k (by simpa using hk)
        simpa [List.range'_succ, Nat.add_assoc, Nat.add_comm 1 k] using hrest
  have h0 := hget s.strings 0 k hx
  rw [Nat.zero_add] at h0
  rw [← h0, State.classNotices, List.range_eq_range']

/-- A change of record `k`, over records of which it is the `k`th. -/
theorem onString_strings {l : List StringRec} {k : Nat} {x : StringRec} (hs : s.strings = l.set k x)
    (hk : k < l.length) (f : StringRec → StringRec) : (s.onString k f).strings = l.set k (f x) := by
  show s.strings.modify k f = _
  rw [hs, modify_eq_set (x := x) (by simp [hk]), List.set_set]

/-- A recompute of record `k`, from JOIN onward: the record and its notice (R20, R24). -/
theorem recompute_strings {l : List StringRec} {k : Nat} {x : StringRec} (hs : s.strings = l.set k x)
    (hk : k < l.length) : (s.recompute k).strings = l.set k (x.recompute (s.params k) s.hostSilent) := by
  have hx : s.strings[k]? = some x := by simp [hs, hk]
  have hset : s.strings.set k (x.recompute (s.params k) s.hostSilent)
      = l.set k (x.recompute (s.params k) s.hostSilent) := by rw [hs, List.set_set]
  unfold State.recompute
  simp only [hx]
  split
  · exact hset
  · exact (strings_of_frame (notify_frame ..)).trans hset

theorem recompute_host (hj : s.joined = true) {k : Nat} {x : StringRec} (hx : s.strings[k]? = some x) :
    (s.recompute k).host = s.host.joinAll (s.classNotice k x (x.recompute (s.params k) s.hostSilent)) := by
  unfold State.recompute State.classNotice
  simp only [hx]
  by_cases hcls : (x.recompute (s.params k) s.hostSilent).cls = x.cls
  · rw [if_pos hcls, if_pos hcls.symm]
    rfl
  · rw [if_neg hcls, if_neg (Ne.symm hcls), notify_host (by exact hj)]
    rfl

/-! ### Releases (R95) -/

theorem ownOfClass_of_frame {f : List Piece} (h : s.ChangesOnly f t) (c : WKind → Bool)
    (hf : (f.contains .withdrawals || f.contains .image) = false := by rfl) :
    t.ownOfClass c = s.ownOfClass c := by
  rw [Bool.or_eq_false_iff] at hf
  obtain ⟨hlist, -⟩ := h.kept .withdrawals (by simpa using hf.1)
  have himage : t.image = s.image := h.kept .image (by simpa using hf.2)
  simp only [State.ownOfClass, State.ownWithdrawals, State.own, State.cfg, hlist, himage]

theorem release_list {c : WKind → Bool} {w : Withdrawal} (hw : s.ownOfClass c = some w) :
    (s.release c).claims.list = s.claims.list.filter (fun x => !(x.isFor s.own w.claimId && c x.kind)) := by
  unfold State.release
  simp only [hw]
  exact removeEntries_list s _

/-- A release queues its DROP where there is room. -/
theorem release_sends {c : WKind → Bool} {w : Withdrawal} (hw : s.ownOfClass c = some w)
    (hroom : s.loop.queue.length < 8) : (s.release c).sends .drop w.claimId (le8 w.claimId ++ le8 2) := by
  have hframe := removeEntries_frame s (fun x => x.isFor s.own w.claimId && c x.kind)
  have hqueue := (hframe.kept .ownQueue (by decide)).1
  unfold State.release
  simp only [hw]
  exact sends_of_frame (queueOwn_sends _ .drop w.claimId _ (show (queueFor .drop _).length < 8 by
    rw [hqueue]; exact hroom)) (markStatus_frame _) rfl

theorem release_none {c : WKind → Bool} (hw : s.ownOfClass c = none) : s.release c = s := by
  simp [State.release, hw]

end Sys2Proof.Machine

/-! PROOFS. The end of a test and the rows that end one (sections 2.3 and 2.4). -/

namespace Sys2Proof.Machine

-- One proof after another: side by side they ask for more thread stacks than there is memory for.
set_option Elab.async false

variable {s t : State}

/-! ### The verdict on the record (R46 to R49) -/

/-- The record of a test's string after the verdict's own effects (R47 to R49). -/
def StringRec.judged (p : StringParams) (silent : Bool) (v : Verdict) (x : StringRec) : StringRec :=
  match v with
  | .pass => if x.testCap.isSome then { x with testCap := none }.recompute p silent else x
  | .failVoltage => ((x.setKappa p).recompute p silent).empty p silent
  | .inconclusive => x
  | .abortedHost => x
  | .abortedDeficit => x
  | .abortedStale => x
  | .abortedBypass => x

/-- The verdict's effects are those on the record of the string, with the notice of a change of its class. -/
theorem verdictEffects_eq {l : List StringRec} {k : Nat} {x : StringRec} (hj : s.joined = true)
    (hs : s.strings = l.set k x) (hk : k < l.length) (v : Verdict) :
    (s.verdictEffects k v).strings = l.set k (x.judged (s.params k) s.hostSilent v)
    ∧ (s.verdictEffects k v).host
        = s.host.joinAll (s.classNotice k x (x.judged (s.params k) s.hostSilent v)) := by
  have hx : s.strings[k]? = some x := by simp [hs, hk]
  have hnothing : s.strings = l.set k x ∧ s.host = s.host.joinAll (s.classNotice k x x) :=
    ⟨hs, by rw [State.classNotice, if_pos rfl]; rfl⟩
  cases v with
  | pass =>
    unfold State.verdictEffects StringRec.judged
    by_cases hcap : x.testCap.isSome = true
    · simp only [hx, Option.any_some, hcap, if_true]
      have h1 := onString_strings hs hk (fun r => { r with testCap := none })
      have h2 : (s.onString k (fun r => { r with testCap := none })).strings[k]? = some { x with testCap := none } := by
        rw [h1]
        simp [hk]
      exact ⟨recompute_strings h1 hk,
        recompute_host (s := s.onString k (fun r => { r with testCap := none })) hj h2⟩
    · simp only [hx, Option.any_some, hcap]
      exact hnothing
  | failVoltage =>
    have h1 := onString_strings hs hk (StringRec.setKappa (s.params k))
    have h2 := recompute_strings h1 hk
    refine ⟨onString_strings h2 hk _, ?_⟩
    refine (host_of_frame (onString_frame ..)).trans ?_
    have hhost := recompute_host hj (x := x.setKappa (s.params k)) (s := s.onString k (StringRec.setKappa (s.params k)))
      (k := k) (by rw [h1]; simp [hk])
    have hcls : (x.setKappa (s.params k)).cls = x.cls := by
      unfold StringRec.setKappa
      split <;> rfl
    rw [hhost]
    simp only [State.classNotice, hcls]
    rfl
  | inconclusive => exact hnothing
  | abortedHost => exact hnothing
  | abortedDeficit => exact hnothing
  | abortedStale => exact hnothing
  | abortedBypass => exact hnothing

/-- The record of the string whose test ends, before the verdict's own effects (R46). -/
def StringRec.ended (silent : Bool) (v : Verdict) (now : Nat) (x : StringRec) : StringRec :=
  ({ x with state := .inService }.formAvail silent).closeTest v now

/-- The record of the string whose test has ended (R46 to R49). -/
def StringRec.verdictGiven (p : StringParams) (silent : Bool) (v : Verdict) (now : Nat) (x : StringRec) : StringRec :=
  ((x.ended silent v now).judged p silent v).formAvail silent

/-- `s` with its test ended as far as the verdict's own effects. -/
def State.testClosed (s : State) (v : Verdict) : State :=
  ((((s.onOuts (fun o => { o with dischReq := false })).setStringState s.job.k .inService).release
    WKind.isTest).onString s.job.k (StringRec.closeTest v s.now)).jobIdle

theorem endTest_eq (s : State) (v : Verdict) : s.endTest v =
    (((s.testClosed v).verdictEffects s.job.k v).onString s.job.k
      (StringRec.formAvail ((s.testClosed v).verdictEffects s.job.k v).hostSilent)).testEndNotice s.job.k v := rfl

/-- What is changed up to there: all but notices. -/
theorem testClosed_frame (s : State) (v : Verdict) :
    s.ChangesOnly [.dischReq, .strings, .withdrawals, .ownQueue, .job] (s.testClosed v) :=
  changesOnly_then (changesOnly_then (changesOnly_then (changesOnly_then (dischReq_frame s false)
    (setStringState_frame ..) (e := [.dischReq, .strings]) rfl rfl) (release_frame ..)
    (e := [.dischReq, .strings, .withdrawals, .ownQueue]) rfl rfl) (onString_frame ..)
    (e := [.dischReq, .strings, .withdrawals, .ownQueue]) rfl rfl) (withJob_frame ..) rfl rfl

section
variable {x : StringRec} (hx : s.strings[s.job.k]? = some x) (v : Verdict)
include hx

theorem testClosed_strings : (s.testClosed v).strings = s.strings.set s.job.k (x.ended s.hostSilent v s.now) := by
  have hk : s.job.k < s.strings.length := (List.getElem?_eq_some_iff.mp hx).1
  have h0 : (s.onOuts (fun o => { o with dischReq := false })).strings = s.strings.set s.job.k x := by
    obtain ⟨hlt, rfl⟩ := List.getElem?_eq_some_iff.mp hx
    exact (List.set_getElem_self hlt).symm
  have h1 := onString_strings h0 hk (fun r => { r with state := .inService }.formAvail s.hostSilent)
  have h2 : (((s.onOuts (fun o => { o with dischReq := false })).setStringState s.job.k .inService).release
      WKind.isTest).strings = _ := (strings_of_frame (release_frame ..)).trans h1
  exact onString_strings h2 hk _

/-- The end of a test renews the record of its string (R46 to R49). -/
theorem endTest_strings (hj : s.joined = true) : (s.endTest v).strings
    = s.strings.set s.job.k (x.verdictGiven (s.params s.job.k) s.hostSilent v s.now) := by
  have hk : s.job.k < s.strings.length := (List.getElem?_eq_some_iff.mp hx).1
  have hclosed := testClosed_frame s v
  have heffects := (verdictEffects_eq ((joined_of_frame hclosed).trans hj) (testClosed_strings hx v) hk v).1
  have hframe := verdictEffects_frame (s.testClosed v) s.job.k v
  rw [params_of_frame hclosed, hostSilent_of_frame hclosed] at heffects
  rw [endTest_eq, strings_of_frame (testEndNotice_frame ..), onString_strings heffects hk,
    hostSilent_of_frame hframe, hostSilent_of_frame hclosed]
  rfl

/-- The notices of the end of a test: STRING_CLASS where the class changed, then TEST_END (R46). -/
theorem endTest_host (hj : s.joined = true) :
    let y := x.verdictGiven (s.params s.job.k) s.hostSilent v s.now
    (s.endTest v).host = s.host.joinAll (s.classNotice s.job.k x y
      ++ [s.noticeOf .testEnd s.job.k v.code y.soc
          (min 65535 ((y.lastTest.map (fun t => t.delivered)).getD 0 / 360))]) := by
  intro y
  have hk : s.job.k < s.strings.length := (List.getElem?_eq_some_iff.mp hx).1
  have hclosed := testClosed_frame s v
  have hjc := (joined_of_frame hclosed).trans hj
  obtain ⟨hstrings, hhost⟩ := verdictEffects_eq hjc (testClosed_strings hx v) hk v
  have hframe := verdictEffects_frame (s.testClosed v) s.job.k v
  rw [params_of_frame hclosed, hostSilent_of_frame hclosed] at hstrings hhost
  have hformed := onString_strings hstrings hk
    (StringRec.formAvail ((s.testClosed v).verdictEffects s.job.k v).hostSilent)
  rw [hostSilent_of_frame hframe, hostSilent_of_frame hclosed] at hformed
  have hy : (((s.testClosed v).verdictEffects s.job.k v).onString s.job.k
      (StringRec.formAvail s.hostSilent)).strings[s.job.k]? = some y := by
    rw [hformed]
    simp [hk, y, StringRec.verdictGiven]
  rw [endTest_eq, hostSilent_of_frame hframe, hostSilent_of_frame hclosed, State.testEndNotice]
  simp only [hy]
  rw [notify_host (by exact (joined_of_frame hframe).trans hjc), joinAll_append, joinAll_singleton,
    noticeOf_of_clock ((clock_of_frame (onString_frame ..)).trans ((clock_of_frame hframe).trans
      (clock_of_frame hclosed)))]
  refine congrArg (fun h : HostPort => h.join _) ?_
  refine (host_of_frame (onString_frame ..)).trans (hhost.trans ?_)
  rw [host_of_frame hclosed, classNotice_of_clock (clock_of_frame hclosed)]
  rfl

end

/-- The job and its line after the end of a test. -/
theorem endTest_job (s : State) (v : Verdict) :
    (s.endTest v).job = TestJob.blank ∧ (s.endTest v).outs.dischReq = false := by
  have hframe : (s.testClosed v).ChangesOnly [.strings, .notices] (s.endTest v) := by
    rw [endTest_eq]
    exact changesOnly_then (changesOnly_then (verdictEffects_frame ..) (onString_frame ..)
      (e := [.strings, .notices]) rfl rfl) (testEndNotice_frame ..) rfl rfl
  have hrelease := release_frame ((s.onOuts (fun o => { o with dischReq := false })).setStringState
    s.job.k .inService) WKind.isTest
  have hdischarge : (s.testClosed v).outs.dischReq = false := hrelease.kept .dischReq (by decide)
  exact ⟨hframe.kept .job (by decide), (hframe.kept .dischReq (by decide)).trans hdischarge⟩

/-- The TEST withdrawal leaves the list with its DROP (R46). -/
theorem endTest_released {w : Withdrawal} (hw : s.ownOfClass WKind.isTest = some w) (v : Verdict) :
    (s.endTest v).claims.list
      = s.claims.list.filter (fun e => !(e.owner == s.own && e.claimId == w.claimId && e.kind == .test))
    ∧ (s.loop.queue.length < 8 → (s.endTest v).sends .drop w.claimId (le8 w.claimId ++ le8 2)) := by
  have hrest : (((s.onOuts (fun o => { o with dischReq := false })).setStringState s.job.k .inService).release
      WKind.isTest).ChangesOnly [.strings, .job, .notices] (s.endTest v) := by
    rw [endTest_eq]
    exact changesOnly_then (changesOnly_then (changesOnly_then (changesOnly_then (onString_frame ..)
      (withJob_frame ..) (e := [.strings, .job]) rfl rfl) (verdictEffects_frame ..)
      (e := [.strings, .job, .notices]) rfl rfl) (onString_frame ..) (e := [.strings, .job, .notices]) rfl rfl)
      (testEndNotice_frame ..) rfl rfl
  have hw' : ((s.onOuts (fun o => { o with dischReq := false })).setStringState s.job.k .inService).ownOfClass
      WKind.isTest = some w := hw
  exact ⟨((hrest.kept .withdrawals (by decide)).1).trans (release_list hw'),
    fun hroom => sends_of_frame (release_sends hw' hroom) hrest rfl⟩

/-! ### The record a verdict leaves (R46 to R49) -/

/-- An emptied string has no energy, whatever its state (R27, R48). -/
theorem empty_eq (p : StringParams) (silent : Bool) (x : StringRec) : x.empty p silent
    = { x with q := 0, rem := 0, soc := 0, eUsable := 0, eAvail := 0 } := by
  simp [StringRec.empty, StringRec.formEnergy, usableOf, availOf]

section
variable {x : StringRec} {l : LastTest} (hl : x.lastTest = some l) (p : StringParams) (silent : Bool) (now : Nat)
include hl

/-- A test that failed leaves its capacity fraction, and the string empty (R48). -/
theorem verdictGiven_failVoltage :
    let l1 : LastTest := { l with verdict := some .failVoltage, endMs := some now }
    let x1 : StringRec := { x with state := .inService, lastTest := some l1 }
    let kappa := min 10000 (l.delivered * 10000 / l.socStart * 10000 / (p.cRated * 3600))
    x.verdictGiven p silent .failVoltage now =
      { StringRec.recompute p silent { x1 with
          testCap := some kappa, lastTest := some { l1 with kappa := some kappa } } with
        q := 0, rem := 0, soc := 0, eUsable := 0, eAvail := 0 } := by
  simp only [StringRec.verdictGiven, StringRec.ended, StringRec.closeTest, StringRec.judged, StringRec.setKappa, hl,
    StringRec.formAvail, Option.map_some, empty_eq, availOf, ite_self]
  rfl

/-- A test that passed takes the cap off the capacity (R47). -/
theorem verdictGiven_pass (hcap : x.testCap ≠ none) :
    x.verdictGiven p silent .pass now = StringRec.recompute p silent { x with
      state := .inService, lastTest := some { l with verdict := some .pass, endMs := some now }
      testCap := none } := by
  have hsome : x.testCap.isSome = true := Option.isSome_iff_ne_none.mpr hcap
  simp only [StringRec.verdictGiven, StringRec.ended, StringRec.closeTest, StringRec.judged, StringRec.formAvail, hl,
    hsome, if_true, Option.map_some]
  rfl

/-- Any other verdict leaves the record but for its test and its state (R49). -/
theorem verdictGiven_other {v : Verdict} (hfail : v ≠ .failVoltage) (hpass : ¬ (v = .pass ∧ x.testCap ≠ none)) :
    x.verdictGiven p silent v now =
      let x1 : StringRec := { x with
        state := .inService, lastTest := some { l with verdict := some v, endMs := some now } }
      { x1 with eAvail := availOf silent x1 } := by
  cases v with
  | failVoltage => exact absurd rfl hfail
  | pass =>
    have hnone : x.testCap.isSome = false := by
      rw [Bool.eq_false_iff]
      exact fun h => hpass ⟨rfl, Option.isSome_iff_ne_none.mp h⟩
    simp only [StringRec.verdictGiven, StringRec.ended, StringRec.closeTest, StringRec.judged, StringRec.formAvail, hl,
      hnone, Option.map_some]
    rfl
  | _ =>
    simp only [StringRec.verdictGiven, StringRec.ended, StringRec.closeTest, StringRec.judged, StringRec.formAvail, hl,
      Option.map_some]
    rfl

/-- The delivered charge of a test is that at its end. -/
theorem verdictGiven_delivered (v : Verdict) :
    (x.verdictGiven p silent v now).lastTest.map (fun t => t.delivered) = some l.delivered := by
  by_cases hfail : v = .failVoltage
  · rw [hfail, verdictGiven_failVoltage hl]
    rfl
  by_cases hpass : v = .pass ∧ x.testCap ≠ none
  · rw [hpass.1, verdictGiven_pass hl p silent now hpass.2]
    rfl
  · rw [verdictGiven_other hl p silent now hfail hpass]
    rfl

end

/-- An aborted test tells its TEST_END alone: the class of its string stands (R45, R46). -/
theorem endTest_aborted_host {x : StringRec} {l : LastTest} (hx : s.strings[s.job.k]? = some x)
    (hl : x.lastTest = some l) (hj : s.joined = true) {v : Verdict} (hfail : v ≠ .failVoltage) (hpass : v ≠ .pass) :
    (s.endTest v).host
      = s.host.join (s.noticeOf .testEnd s.job.k v.code x.soc (min 65535 (l.delivered / 360) : Nat)) := by
  have hrecord := verdictGiven_other hl (s.params s.job.k) s.hostSilent s.now hfail (fun h => hpass h.1)
  have hcls : x.cls = (x.verdictGiven (s.params s.job.k) s.hostSilent v s.now).cls := by rw [hrecord]
  have hsoc : (x.verdictGiven (s.params s.job.k) s.hostSilent v s.now).soc = x.soc := by rw [hrecord]
  have hhost := endTest_host hx v hj
  simp only [verdictGiven_delivered hl, Option.getD_some, State.classNotice, if_pos hcls, hsoc, List.nil_append] at hhost
  exact_mod_cast hhost

/-! ### A test given up while it is claimed (R41, R86) -/

/-- A request in flight is marked as given up (R86). -/
theorem giveUp_inFlight {q : Request} {id tag d : Nat} {who : Requester}
    (hslot : s.claims.slot = .inFlight q id tag d) (hwho : q.requester = who) (hopen : q.givenUp = false) :
    s.giveUp who = s.setSlot (.inFlight { q with givenUp := true } id tag d) := by
  unfold State.giveUp
  simp only [hslot]
  exact if_pos ⟨hwho, hopen⟩

/-- A request that waits for its retry ends ABANDONED (R86). -/
theorem giveUp_retryWait {q : Request} {d : Nat} {who : Requester} (hslot : s.claims.slot = .retryWait q d)
    (hwho : q.requester = who) : s.giveUp who = (s.setSlot .free).report q (Final.bare .abandoned) := by
  unfold State.giveUp
  simp only [hslot]
  exact if_pos hwho

section
variable {q : Request} (hclaiming : s.job.state = .claiming) (hgiven : s.job.givenUp = none)
  (hq : q.requester = .ageing)
include hclaiming hgiven hq

/-- A test whose claim is in flight is given up with its cause (R41). -/
theorem abortTest_of_inFlight {id tag d : Nat} (hslot : s.claims.slot = .inFlight q id tag d) (hopen : q.givenUp = false)
    (c : AbortCause) : s.abortTest c
      = (s.withJob { s.job with givenUp := some c }).setSlot (.inFlight { q with givenUp := true } id tag d) := by
  have habort : s.abortTest c = (s.withJob { s.job with givenUp := some c }).giveUp .ageing := by
    simp only [State.abortTest, hclaiming, hgiven]
  exact habort.trans (giveUp_inFlight (s := s.withJob { s.job with givenUp := some c }) hslot hq hopen)

/-- A test whose claim waits for its retry is denied with its cause (R40, R41). -/
theorem abortTest_of_retryWait {d : Nat} (hslot : s.claims.slot = .retryWait q d) (c : AbortCause) : s.abortTest c
      = ((s.withJob { s.job with givenUp := some c }).setSlot .free).testDenied .abandoned 0 c.code := by
  have hgiveUp := giveUp_retryWait (s := s.withJob { s.job with givenUp := some c }) hslot hq
  have habort : s.abortTest c = (s.withJob { s.job with givenUp := some c }).giveUp .ageing := by
    simp only [State.abortTest, hclaiming, hgiven]
  have hclaiming' : ((s.withJob { s.job with givenUp := some c }).setSlot .free).job.state = .claiming := hclaiming
  have hgiven' : ((s.withJob { s.job with givenUp := some c }).setSlot .free).job.givenUp = some c := rfl
  rw [habort, hgiveUp, State.report, hq]
  simp only [State.reportTest, hclaiming', hgiven', if_true]
  rfl

end

/-! ### The rows that end a test (R44, R50) -/

theorem runEvent_ends (s : State) (body : State → State) : s.runEvent body = s.ends (body (s.withStatusDue false)) := rfl

/-- What ABORT_TEST does in JOINED. -/
def State.abortOnCommand (s : State) : State :=
  match s.job.state with
  | .idle => s.badState 0
  | .claiming => if s.job.givenUp.isSome then s.badState 0 else (s.abortTest .host).answer .ok []
  | .running => (s.abortTest .host).answer .ok []

section
variable {r : List Byte} (ht : s.takes .abortTest r) (hs : s.startup.state = .joined)
include ht hs

theorem abortTest_body {u : State} (hu : (s.withStatusDue false).abortOnCommand = u) :
    exec .abortTest s = .next (s.ends u) := by
  rw [show exec .abortTest s = s.command .abortTest (fun _ s => s.whenJoined State.abortOnCommand) from rfl,
    command_next ht, runEvent_ends, whenJoined_pos (s := s.withStatusDue false) (joined_of_state hs), hu]

/-- With no test, or with one that is given up already, ABORT_TEST is refused (R50). -/
theorem abortTest_refused (hm : s.marginOk = true)
    (h : s.job.state = .idle ∨ (s.job.state = .claiming ∧ s.job.givenUp ≠ none)) :
    exec .abortTest s = .next (s.repliedOnly r .badState (le8 0)) := by
  refine command_joined_reply (body := fun _ => State.abortOnCommand) ht hm hs ?_
  obtain hidle | ⟨hclaiming, hgiven⟩ := h
  · have hidle' : (s.withStatusDue false).job.state = .idle := hidle
    simp only [State.abortOnCommand, hidle']
    rfl
  · have hclaiming' : (s.withStatusDue false).job.state = .claiming := hclaiming
    have hgiven' : (s.withStatusDue false).job.givenUp.isSome = true := Option.isSome_iff_ne_none.mpr hgiven
    simp only [State.abortOnCommand, hclaiming', hgiven', if_true]
    rfl

/-- A running test ends ABORTED_HOST (R50). -/
theorem abortTest_running (hrun : s.job.state = .running) :
    let u := (s.withStatusDue false).endTest .abortedHost
    exec .abortTest s = .next (s.ends (u.withHost { u.host with slot := replyTo r .ok [] })) := by
  have hrun' : (s.withStatusDue false).job.state = .running := hrun
  have habort : (s.withStatusDue false).abortTest .host = (s.withStatusDue false).endTest .abortedHost := by
    simp only [State.abortTest, hrun']
    rfl
  obtain ⟨d, hslot⟩ := ht.pending
  have hkept : ((s.withStatusDue false).endTest .abortedHost).host.slot = .pending r d :=
    ((endTest_frame (s.withStatusDue false) .abortedHost).kept .command (by decide)).trans hslot
  refine abortTest_body ht hs ?_
  simp only [State.abortOnCommand, hrun', habort]
  exact answer_pending hkept .ok []

section
variable {q : Request} (hm : s.marginOk = true) (hclaiming : s.job.state = .claiming) (hgiven : s.job.givenUp = none)
  (hq : q.requester = .ageing)
include hm hclaiming hgiven hq

omit ht hs hm hq in
/-- A test that is being claimed and not given up is aborted. -/
theorem abortOnCommand_claiming :
    (s.withStatusDue false).abortOnCommand = ((s.withStatusDue false).abortTest .host).answer .ok [] := by
  have hclaiming' : (s.withStatusDue false).job.state = .claiming := hclaiming
  have hgiven' : (s.withStatusDue false).job.givenUp.isSome = false := by simp [hgiven]
  simp only [State.abortOnCommand, hclaiming', hgiven', if_false, Bool.false_eq_true]

/-- A test whose claim is in flight is given up (R41, R50, R86). -/
theorem abortTest_inFlight {id tag d : Nat} (hslot : s.claims.slot = .inFlight q id tag d) (hopen : q.givenUp = false) :
    exec .abortTest s = .next { s with
      statusDue := false
      job := { s.job with givenUp := some .host }
      claims := { s.claims with slot := .inFlight { q with givenUp := true } id tag d }
      host := { s.host with slot := replyTo r .ok [] } } := by
  obtain ⟨e, hpending⟩ := ht.pending
  refine command_sameView (body := fun _ s => s.whenJoined State.abortOnCommand) ht hm ?_ ⟨rfl, rfl, rfl, rfl, rfl⟩ rfl rfl
    rfl rfl
  rw [whenJoined_pos (s := s.withStatusDue false) (joined_of_state hs), abortOnCommand_claiming hclaiming hgiven,
    abortTest_of_inFlight (s := s.withStatusDue false) hclaiming hgiven hq hslot hopen]
  exact (answer_pending (by exact hpending) .ok []).trans rfl

/-- A test whose claim waits for its retry ends denied (R40, R41, R50, R86). -/
theorem abortTest_retryWait {d : Nat} (hslot : s.claims.slot = .retryWait q d) :
    exec .abortTest s = .next { s with
      statusDue := false
      job := TestJob.blank
      claims := { s.claims with slot := .free }
      host := { s.host.join (s.noticeOf .testDenied s.job.k ClaimOutcome.abandoned.code 0 14)
        with slot := replyTo r .ok [] } } := by
  obtain ⟨e, hpending⟩ := ht.pending
  refine command_sameView (body := fun _ s => s.whenJoined State.abortOnCommand) ht hm ?_ ⟨rfl, rfl, rfl, rfl, rfl⟩ rfl rfl
    rfl rfl
  rw [whenJoined_pos (s := s.withStatusDue false) (joined_of_state hs), abortOnCommand_claiming hclaiming hgiven,
    abortTest_of_retryWait (s := s.withStatusDue false) hclaiming hgiven hq hslot, State.testDenied,
    notify_eq (by exact joined_of_state hs)]
  exact (answer_pending ((join_slot ..).trans hpending) .ok []).trans rfl

end
end

/-- Settles O20: the end of a test by its steps, and each row that ends one by the situation it meets. -/
theorem testEnds : Obligations.TestEnds := by
  refine ⟨fun v s x l w hs hx hl hw => ?_, fun s hr => ⟨fun hrun hdue => ?_, fun r ht hs =>
    ⟨fun hm h => abortTest_refused ht hs hm h, fun hrun => abortTest_running ht hs hrun,
      fun q id tag d hm hc hg hslot hq ho => abortTest_inFlight ht hs hm hc hg hq hslot ho,
      fun q d hm hc hg hslot hq => abortTest_retryWait ht hs hm hc hg hq hslot⟩⟩⟩
  · intro k p l1 x1 kappa y t
    have hj := joined_of_state hs
    have hy : x.verdictGiven p s.hostSilent v s.now = y := by
      by_cases hfail : v = .failVoltage
      · subst hfail
        exact verdictGiven_failVoltage hl p s.hostSilent s.now
      · by_cases hpass : v = .pass ∧ x.testCap ≠ none
        · rw [show y = _ from (if_neg hfail).trans (if_pos hpass)]
          obtain ⟨rfl, hcap⟩ := hpass
          exact verdictGiven_pass hl p s.hostSilent s.now hcap
        · rw [show y = _ from (if_neg hfail).trans (if_neg hpass)]
          exact verdictGiven_other hl p s.hostSilent s.now hfail hpass
    have hstrings : t.strings = s.strings.set k y := by rw [← hy]; exact endTest_strings hx v hj
    obtain ⟨hjob, hline⟩ := endTest_job s v
    obtain ⟨hlist, hsends⟩ := endTest_released hw v
    refine ⟨hstrings, hjob, hline, hlist, hsends, ?_, changesOnly_mono (endTest_frame s v) rfl⟩
    rw [hstrings, classNotices_set hx, ← hy]
    have hhost := endTest_host hx v hj
    simp only [verdictGiven_delivered hl, Option.getD_some] at hhost
    exact_mod_cast hhost
  · obtain ⟨d, hd, hle⟩ := hdue
    have hg : (s.job.state == .running && s.isDue s.job.limitAt) = true := by
      simp [hrun, State.isDue, hd, hle]
    exact (event_next hr hg).trans (congrArg _ (runEvent_ends s _))

end Sys2Proof.Machine

/-! PROOFS. The ageing tick (sections 1.2, 1.4 and 1.5). -/

namespace Sys2Proof.Machine

-- One proof after another: side by side they ask for more thread stacks than there is memory for.
set_option Elab.async false

variable {s t : State}

/-- A recompute from JOIN onward: the record and the notice of a change of its class, nothing else (R20, R24). -/
theorem recompute_eq (hj : s.joined = true) {k : Nat} {x : StringRec} (hx : s.strings[k]? = some x) :
    let y := x.recompute (s.params k) s.hostSilent
    s.recompute k = (s.withStrings (s.strings.set k y)).withHost (s.host.joinAll (s.classNotice k x y)) := by
  intro y
  unfold State.recompute State.classNotice
  simp only [hx]
  by_cases hcls : y.cls = x.cls
  · rw [if_pos hcls, if_pos hcls.symm]
    rfl
  · rw [if_neg hcls, if_neg (Ne.symm hcls), notify_eq (by exact hj)]
    rfl

/-- What one tick makes of a record, the day boundary included where `day` (R17 to R20). -/
def StringRec.ticked (day : Bool) (p : StringParams) (silent : Bool) (x : StringRec) : StringRec :=
  (if day then x.tick.dayEnd else x.tick).recompute p silent

theorem dayEnd_cls (day : Bool) (x : StringRec) : (if day then x.tick.dayEnd else x.tick).cls = x.cls := by
  cases day <;> rfl

/-- A tick of one string from JOIN onward: its record and its notice, nothing else (R16 to R20). -/
theorem tickString_eq (hj : s.joined = true) (day : Bool) {k : Nat} {x : StringRec} (hx : s.strings[k]? = some x) :
    let y := x.ticked day (s.params k) s.hostSilent
    s.tickString day k = (s.withStrings (s.strings.set k y)).withHost (s.host.joinAll (s.classNotice k x y)) := by
  have hk : k < s.strings.length := (List.getElem?_eq_some_iff.mp hx).1
  have htick : (if day then (s.onString k StringRec.tick).onString k StringRec.dayEnd else s.onString k StringRec.tick)
      = s.withStrings (s.strings.set k (if day then x.tick.dayEnd else x.tick)) := by
    have hmodify : s.strings.modify k StringRec.tick = s.strings.set k x.tick := modify_eq_set hx _
    cases day with
    | false => exact congrArg s.withStrings hmodify
    | true =>
      show s.withStrings ((s.strings.modify k StringRec.tick).modify k StringRec.dayEnd) = _
      rw [hmodify, modify_eq_set (x := x.tick) (by simp [hk]), List.set_set]
      rfl
  unfold State.tickString
  simp only [htick]
  rw [recompute_eq (by exact hj) (x := if day then x.tick.dayEnd else x.tick) (by simp [hk])]
  simp only [withStrings_strings, List.set_set, State.classNotice, dayEnd_cls]
  rfl

/-- The notices of a run of records, the first of which has the index `base` (R24). -/
def State.classNoticesFrom (s : State) (base : Nat) (l new : List StringRec) : List Notice :=
  ((l.zip new).zip (List.range' base l.length)).filterMap (fun x =>
    if x.1.1.cls = x.1.2.cls then none
    else some (s.noticeOf .stringClass x.2 x.1.1.cls.code x.1.2.cls.code x.1.2.soh))

theorem classNoticesFrom_cons (base : Nat) (x y : StringRec) (l new : List StringRec) :
    s.classNoticesFrom base (x :: l) (y :: new) = s.classNotice base x y ++ s.classNoticesFrom (base + 1) l new := by
  unfold State.classNoticesFrom State.classNotice
  by_cases hcls : x.cls = y.cls <;> simp [List.range'_succ, hcls]

theorem classNotices_eq (new : List StringRec) : s.classNotices new = s.classNoticesFrom 0 s.strings new := by
  rw [State.classNotices, List.range_eq_range']
  rfl

/-- The ticks of the strings from one on: each record renewed, and the notices in the order of the strings. -/
theorem ticks_eq (day : Bool) (l : List StringRec) : ∀ (s : State) (done : List StringRec), s.joined = true →
    s.strings = done ++ l →
    (List.range' done.length l.length).foldl (State.tickString day) s
      = (s.withStrings (done ++ l.mapIdx (fun k x => x.ticked day (s.params (done.length + k)) s.hostSilent))).withHost
          (s.host.joinAll (s.classNoticesFrom done.length l
            (l.mapIdx (fun k x => x.ticked day (s.params (done.length + k)) s.hostSilent)))) := by
  induction l with
  | nil =>
    intro s done _ hs
    simp only [List.mapIdx_nil, ← hs]
    rfl
  | cons x l ih =>
    intro s done hj hs
    have hx : s.strings[done.length]? = some x := by simp [hs]
    have hset : ∀ y, s.strings.set done.length y = (done ++ [y]) ++ l := fun y => by
      simp [hs]
    simp only [List.length_cons, List.range'_succ, List.foldl_cons]
    rw [tickString_eq hj day hx]
    simp only [hset]
    have hlater := ih ((s.withStrings ((done ++ [x.ticked day (s.params done.length) s.hostSilent]) ++ l)).withHost
      (s.host.joinAll (s.classNotice done.length x (x.ticked day (s.params done.length) s.hostSilent))))
      (done ++ [x.ticked day (s.params done.length) s.hostSilent]) hj rfl
    rw [List.length_append, List.length_singleton] at hlater
    rw [hlater, List.mapIdx_cons, classNoticesFrom_cons, joinAll_append]
    have hshift : ∀ i, done.length + 1 + i = done.length + (i + 1) := fun i => by omega
    simp only [hshift, List.append_assoc, List.singleton_append]
    rfl

/-- A whole tick from JOIN onward (R16 to R20). -/
theorem wholeTick_eq (hj : s.joined = true) :
    let day := s.ticks.count == 1439
    let new := s.strings.mapIdx (fun k x => x.ticked day (s.params k) s.hostSilent)
    s.wholeTick = ((s.withStrings new).withHost (s.host.joinAll (s.classNotices new))).withTicks
      ⟨if day then 0 else s.ticks.count + 1, s.ticks.nextAt.map (fun t => t + 60000)⟩ := by
  intro day new
  have hticks := ticks_eq day s.strings s [] hj rfl
  simp only [List.length_nil, List.nil_append, Nat.zero_add] at hticks
  unfold State.wholeTick
  rw [List.range_eq_range']
  simp only
  rw [hticks, classNotices_eq]

/-- The record a tick leaves, field by field (R17 to R19). -/
theorem ticked_eq (count : Nat) (p : StringParams) (silent : Bool) (x : StringRec) :
    let band := fun (t : Int) =>
      if t < 200 then 192 else if t < 250 then 256 else if t < 300 then 362 else if t < 350 then 512
      else if t < 400 then 724 else if t < 450 then 1024 else if t < 500 then 1448 else 2048
    let f := band (if x.tN = 0 then x.tLast else Int.fdiv x.tSum x.tN)
    let a := { x with aCal := min 4294967295 (x.aCal + f), tSum := 0, tN := 0 }
    x.ticked (count == 1439) p silent
      = (if count = 1439 then { a with daySum := 0, fDay := (x.daySum + f) / 1440 }
          else { a with daySum := x.daySum + f }).recompute p silent := by
  have hdiv : Int.fdiv x.tSum x.tN = x.tSum / x.tN := Int.fdiv_eq_ediv_of_nonneg _ (by omega)
  intro band f a
  have hf : bandFactor x.tickTemp = f := by
    show _ = band (if x.tN = 0 then x.tLast else Int.fdiv x.tSum x.tN)
    rw [hdiv]
    rfl
  by_cases hday : count = 1439
  · simp only [StringRec.ticked, hday, beq_self_eq_true, if_true, StringRec.tick, hf]
    rfl
  · have hno : (count == 1439) = false := by simpa using hday
    simp only [StringRec.ticked, hno, hday, if_false, Bool.false_eq_true, StringRec.tick, hf]
    rfl

/-- Settles O18: a tick renews each record in turn, so that the records and their notices are those of the whole
list at once. -/
theorem ageingTick : Obligations.AgeingTick := by
  intro s hr hs hdue band new
  obtain ⟨d, hd, hle⟩ := hdue
  have hj := joined_of_state hs
  have hg : (s.joined && s.isDue s.ticks.nextAt) = true := by simp [hj, State.isDue, hd, hle]
  have hbody := wholeTick_eq (s := s.withStatusDue false) hj
  have hnew : (s.withStatusDue false).strings.mapIdx (fun k x =>
      x.ticked ((s.withStatusDue false).ticks.count == 1439) ((s.withStatusDue false).params k)
        (s.withStatusDue false).hostSilent) = new :=
    congrArg (fun f => s.strings.mapIdx f) (funext fun k => funext fun x => ticked_eq s.ticks.count (s.params k) s.hostSilent x)
  refine ⟨?_, fun hlast => ?_⟩
  · rw [show exec .ageingTick s = _ from event_next hr hg, runEvent_ends, hbody]
    simp only [hnew]
    simp only [withStatusDue_ticks, beq_iff_eq]
    rfl
  · have hg' : (s.joined && s.isDue s.ticks.nextAt && s.ticks.count == 1439) = true := by simp [hg, hlast]
    exact (event_next hr hg').trans (event_next hr hg).symm

end Sys2Proof.Machine

/-! PROOFS. What the end of an event does: the evaluation of the margin state, what a change of it brings, and the
STATUS (sections 3.2 and 3.6). -/

namespace Sys2Proof.Machine

-- One proof after another: side by side they ask for more thread stacks than there is memory for.
set_option Elab.async false

variable {s t u : State}

/-! ### Notices and marks that an abort leaves in their place -/

/-- What has been told stays told, and what is to be reported stays to be reported. -/
structure State.Grows (s t : State) : Prop where
  notices : s.host.notices <+: t.host.notices
  due : s.statusDue = true → t.statusDue = true

theorem grows_refl (s : State) : s.Grows s := ⟨List.prefix_refl _, id⟩

theorem grows_trans (h : s.Grows t) (k : t.Grows u) : s.Grows u := ⟨h.notices.trans k.notices, k.due ∘ h.due⟩

theorem grows_of_host (hh : t.host = s.host) (hd : t.statusDue = s.statusDue) : s.Grows t :=
  ⟨hh ▸ List.prefix_refl _, fun h => hd.trans h⟩

theorem notify_grows (s : State) (k : NoticeKind) (a b c d : Int) : s.Grows (s.notify k a b c d) := by
  by_cases hj : s.joined = true
  · rw [notify_eq hj]
    exact ⟨join_prefix .., id⟩
  · rw [notify_beforeJoin (Bool.eq_false_iff.mpr hj)]
    exact grows_refl s

theorem grows_notify (h : s.Grows t) (k : NoticeKind) (a b c d : Int) : s.Grows (t.notify k a b c d) :=
  grows_trans h (notify_grows ..)

theorem recompute_grows (s : State) (k : Nat) : s.Grows (s.recompute k) := by
  unfold State.recompute
  split
  · simp only
    split
    · exact grows_of_host rfl rfl
    · exact grows_notify (by exact grows_of_host rfl rfl) ..
  · exact grows_refl s

theorem release_grows (s : State) (c : WKind → Bool) : s.Grows (s.release c) := by
  refine ⟨by rw [host_of_frame (release_frame s c)], fun h => ?_⟩
  unfold State.release
  split
  · rfl
  · exact h

theorem verdictEffects_grows (s : State) (k : Nat) (v : Verdict) : s.Grows (s.verdictEffects k v) := by
  have hstring : ∀ (u : State) f, u.Grows (u.onString k f) := fun u f => grows_of_host rfl rfl
  unfold State.verdictEffects
  split
  · split
    · exact grows_trans (hstring ..) (recompute_grows ..)
    · exact grows_refl s
  · exact grows_trans (grows_trans (hstring ..) (recompute_grows ..)) (hstring ..)
  all_goals exact grows_refl s

theorem testEndNotice_grows (s : State) (k : Nat) (v : Verdict) : s.Grows (s.testEndNotice k v) := by
  unfold State.testEndNotice
  split
  · exact notify_grows ..
  · exact grows_refl s

theorem endTest_grows (s : State) (v : Verdict) : s.Grows (s.endTest v) := by
  have hopen : s.Grows ((s.onOuts (fun o => { o with dischReq := false })).setStringState s.job.k .inService) :=
    ⟨List.prefix_refl _, fun _ => rfl⟩
  have hclosed : s.Grows (s.testClosed v) :=
    grows_trans (grows_trans hopen (release_grows _ WKind.isTest)) (grows_of_host rfl rfl)
  rw [endTest_eq]
  exact grows_trans (grows_trans (grows_trans hclosed (verdictEffects_grows _ s.job.k v))
    (grows_of_host (t := ((s.testClosed v).verdictEffects s.job.k v).onString s.job.k
      (StringRec.formAvail ((s.testClosed v).verdictEffects s.job.k v).hostSilent)) rfl rfl)) (testEndNotice_grows ..)

/-! ### Frames of the own queue that are no STATUS (R159) -/

/-- The frames of a queue that are no STATUS. -/
def otherFrames (q : List OwnFrame) : List OwnFrame := q.filter (fun f => f.kind != .status)

theorem otherFrames_append (q r : List OwnFrame) : otherFrames (q ++ r) = otherFrames q ++ otherFrames r :=
  List.filter_append ..

/-- A queue with a STATUS taken out has the other frames it had. -/
theorem otherFrames_eraseP (q : List OwnFrame) : otherFrames (q.eraseP (fun g => g.kind == .status)) = otherFrames q := by
  induction q with
  | nil => rfl
  | cons f q ih =>
    unfold otherFrames at ih ⊢
    by_cases hf : f.kind = .status
    · simp [hf]
    · rw [List.eraseP_cons_of_neg (by simpa using hf), List.filter_cons, List.filter_cons, ih]

theorem otherFrames_queueFor (k : FrameKind) (q : List OwnFrame) : otherFrames (queueFor k q) = otherFrames q := by
  unfold queueFor otherFrames
  split
  · rw [List.filter_filter]
    simp
  · rfl

/-- A frame that joins adds itself to the others, or nothing. -/
theorem otherFrames_joinQueue (f : OwnFrame) (q : List OwnFrame) (d : Nat) :
    (otherFrames (joinQueue f q d).1).length ≤ (otherFrames q).length + 1 := by
  have hone : (otherFrames [f]).length ≤ 1 := (List.length_filter_le ..)
  unfold joinQueue
  split
  · rw [otherFrames_append, List.length_append]
    omega
  · split
    · rw [otherFrames_append, otherFrames_eraseP, List.length_append]
      omega
    · exact Nat.le_succ _

/-- A frame finds room where fewer than eight others stand in the queue. -/
theorem mem_joinQueue {f : OwnFrame} {q : List OwnFrame} (d : Nat) (h : (otherFrames q).length < 8) :
    f ∈ (joinQueue f q d).1 := by
  unfold joinQueue
  split
  · exact List.mem_append_right _ (List.mem_singleton.mpr rfl)
  · rename_i hlong
    split
    · exact List.mem_append_right _ (List.mem_singleton.mpr rfl)
    · rename_i hnone
      have hall : otherFrames q = q := List.filter_eq_self.mpr fun g hg => by
        by_contra hstatus
        exact hnone (List.any_eq_true.mpr ⟨g, hg, by simpa using hstatus⟩)
      rw [hall] at h
      exact absurd h hlong

/-- A frame that finds fewer than eight others stands in the queue with its tag. -/
theorem queueOwn_sends_of_others (s : State) (k : FrameKind) (id : Nat) (body : List Byte)
    (h : (otherFrames s.loop.queue).length < 8) : (s.queueOwn k id body).1.sends k id body :=
  ⟨⟨k, (s.queueOwn k id body).2, id, ownBytes k s.own (s.queueOwn k id body).2 body⟩,
    mem_joinQueue _ (by rw [otherFrames_queueFor]; exact h), rfl, rfl, rfl⟩

theorem otherFrames_queueOwn (s : State) (k : FrameKind) (id : Nat) (body : List Byte) :
    (otherFrames (s.queueOwn k id body).1.loop.queue).length ≤ (otherFrames s.loop.queue).length + 1 :=
  (otherFrames_joinQueue ..).trans (by rw [otherFrames_queueFor])

theorem queue_of_frame {f : List Piece} (h : s.ChangesOnly f t) (hf : f.contains .ownQueue = false := by rfl) :
    t.loop.queue = s.loop.queue := (h.kept .ownQueue (by simpa using hf)).1

theorem otherFrames_release (s : State) (c : WKind → Bool) :
    (otherFrames (s.release c).loop.queue).length ≤ (otherFrames s.loop.queue).length + 1 := by
  unfold State.release
  split
  · rename_i w _
    have hqueue := queue_of_frame (removeEntries_frame s (fun x => x.isFor s.own w.claimId && c x.kind))
    exact (otherFrames_queueOwn ..).trans (by rw [hqueue])
  · exact Nat.le_succ _

/-- A release's DROP is sent where fewer than eight others stand in the queue. -/
theorem release_sends_of_others {c : WKind → Bool} {w : Withdrawal} (hw : s.ownOfClass c = some w)
    (h : (otherFrames s.loop.queue).length < 8) : (s.release c).sends .drop w.claimId (le8 w.claimId ++ le8 2) := by
  have hqueue := queue_of_frame (removeEntries_frame s (fun x => x.isFor s.own w.claimId && c x.kind))
  unfold State.release
  simp only [hw]
  exact sends_of_frame (queueOwn_sends_of_others _ .drop w.claimId _ (by rw [hqueue]; exact h)) (markStatus_frame _) rfl

/-- What the end of a test changes behind the release of its withdrawal. -/
theorem endTest_afterRelease (s : State) (v : Verdict) :
    (((s.onOuts (fun o => { o with dischReq := false })).setStringState s.job.k .inService).release
      WKind.isTest).ChangesOnly [.strings, .job, .notices] (s.endTest v) := by
  rw [endTest_eq]
  exact changesOnly_then (changesOnly_then (changesOnly_then (changesOnly_then (onString_frame ..)
    (withJob_frame ..) (e := [.strings, .job]) rfl rfl) (verdictEffects_frame ..)
    (e := [.strings, .job, .notices]) rfl rfl) (onString_frame ..) (e := [.strings, .job, .notices]) rfl rfl)
    (testEndNotice_frame ..) rfl rfl

/-- The end of a test adds its DROP to the other frames, and nothing else. -/
theorem endTest_queue (s : State) (v : Verdict) :
    (otherFrames (s.endTest v).loop.queue).length ≤ (otherFrames s.loop.queue).length + 1
    ∧ (∀ w, s.ownOfClass WKind.isTest = some w → (otherFrames s.loop.queue).length < 8 →
        (s.endTest v).sends .drop w.claimId (le8 w.claimId ++ le8 2)) := by
  have hrest := endTest_afterRelease s v
  refine ⟨?_, fun w hw h => sends_of_frame (release_sends_of_others (by exact hw) (by exact h)) hrest rfl⟩
  rw [queue_of_frame hrest]
  exact otherFrames_release ..

/-! ### An abort (R41, R45) -/

/-- A test that is given up while claimed sends no frame, and what was told stays told. -/
theorem abortTest_claiming {c : AbortCause} (h : s.job.state = .claiming) :
    s.Grows (s.abortTest c) ∧ (s.abortTest c).loop = s.loop := by
  have hkeep : s.Grows s ∧ s.loop = s.loop := ⟨grows_refl s, rfl⟩
  cases hgiven : s.job.givenUp with
  | some d => simpa [State.abortTest, h, hgiven] using hkeep
  | none =>
    have habort : s.abortTest c = (s.withJob { s.job with givenUp := some c }).giveUp .ageing := by
      simp only [State.abortTest, h, hgiven]
    have hjob : s.Grows (s.withJob { s.job with givenUp := some c }) := grows_of_host rfl rfl
    rw [habort]
    cases hslot : s.claims.slot with
    | free => exact ⟨by simpa [State.giveUp, hslot] using hjob, by simp [State.giveUp, hslot]⟩
    | inFlight q id tag d =>
      simp only [State.giveUp, withJob_claims, hslot]
      split
      · exact ⟨grows_of_host rfl rfl, rfl⟩
      · exact ⟨hjob, rfl⟩
    | retryWait q d =>
      by_cases hq : q.requester = .ageing
      · rw [← habort, abortTest_of_retryWait h hgiven hq hslot]
        unfold State.testDenied
        refine ⟨grows_notify (by exact grows_of_host rfl rfl) .., ?_⟩
        unfold State.notify State.raise
        split <;> rfl
      · simp only [State.giveUp, withJob_claims, hslot, hq, if_false]
        exact ⟨hjob, rfl⟩

theorem abortTest_grows (s : State) (c : AbortCause) : s.Grows (s.abortTest c) := by
  cases h : s.job.state with
  | idle => rw [abortTest_idle s c h]; exact grows_refl s
  | claiming => exact (abortTest_claiming h).1
  | running =>
    rw [show s.abortTest c = s.endTest c.verdict by simp only [State.abortTest, h]]
    exact endTest_grows ..

theorem otherFrames_abortTest (s : State) (c : AbortCause) :
    (otherFrames (s.abortTest c).loop.queue).length ≤ (otherFrames s.loop.queue).length + 1 := by
  cases h : s.job.state with
  | idle => rw [abortTest_idle s c h]; exact Nat.le_succ _
  | claiming => rw [(abortTest_claiming h).2]; exact Nat.le_succ _
  | running =>
    rw [show s.abortTest c = s.endTest c.verdict by simp only [State.abortTest, h]]
    exact (endTest_queue s _).1

/-! ### One evaluation of the margin state (R67, R68) -/

/-- `s` with the figures and the margin state of the view as it stands. -/
def State.figured (s : State) : State :=
  s.onView (fun v => { v with figures := s.figuresNow, margin := s.marginNow })

/-- The notice of a change of the margin state (R68). -/
def State.marginNotice (s : State) : Notice :=
  s.noticeOf (if s.marginNow = .deficit then .deficitEnter else .deficitLeave) 0 s.figuresNow.failMask
    s.figuresNow.headroom s.figuresNow.exposedBp

/-- `s` with a change of the margin state told and marked for the next STATUS (R68). -/
def State.marginTold (s : State) : State :=
  (s.figured.withHost (s.host.join s.marginNotice)).withStatusDue true

theorem marginStep_same (h : s.marginNow = s.view.margin) : s.marginStep = s.figured := by
  unfold State.marginStep
  simp only [h, if_true]
  rw [State.figured, h]

theorem marginStep_changed (hj : s.joined = true) (h : s.marginNow ≠ s.view.margin) :
    s.marginStep = if s.marginNow = .deficit then s.marginTold.abortTest .deficit else s.marginTold := by
  have hnotice : ∀ k, (s.figured.notify k 0 s.figuresNow.failMask s.figuresNow.headroom
      s.figuresNow.exposedBp).markStatus = (s.figured.withHost (s.host.join (s.noticeOf k 0 s.figuresNow.failMask
        s.figuresNow.headroom s.figuresNow.exposedBp))).withStatusDue true := fun k => by
    rw [notify_eq (by exact hj)]
    rfl
  unfold State.marginStep
  rw [if_neg (Ne.symm h)]
  split
  · rename_i hm
    rw [if_pos hm, State.marginTold, State.marginNotice, if_pos hm]
    exact congrArg (fun u : State => u.abortTest .deficit) (hnotice .deficitEnter)
  · rename_i hm
    have hno : ¬ s.marginNow = .deficit := by rw [hm]; decide
    rw [if_neg hno, State.marginTold, State.marginNotice, if_neg hno]
    exact hnotice .deficitLeave

/-- The margin state of a view whose sums are the same, once held, is given again. -/
theorem marginNow_stands (h : s.SameSums t) (hm : t.view.margin = s.marginNow) : t.marginNow = s.marginNow := by
  by_cases hsame : s.view.margin = s.marginNow
  · exact marginNow_again h hm (.inl hsame)
  cases hn : s.marginNow with
  | normal => exact hn ▸ marginNow_again h hm (.inr hn)
  | deficit =>
    have hfail : ¬ s.policy.passes (s.totals []) = true := by
      intro hpass
      cases hv : s.view.margin with
      | normal => simp [State.marginNow, hv, hpass] at hn
      | deficit => exact hsame (hv.trans hn.symm)
    rw [hn] at hm
    have hstrong : ¬ s.policy.strengthened.passes (s.totals []) = true := fun hp => hfail (passes_of_strengthened hp)
    simp [State.marginNow, hm, sameSums_policy h, sameSums_totals h, hstrong]

theorem marginTold_sums (s : State) : s.SameSums s.marginTold :=
  sameSums_trans (sameSums_figures s s.figuresNow s.marginNow)
    (sameSums_of_sameView (sameView_trans (sameView_host ..) (sameView_statusDue ..)))

theorem marginTold_evaluated (s : State) : s.marginTold.Evaluated :=
  ⟨(sameSums_figuresNow (marginTold_sums s)).symm, (marginNow_stands (marginTold_sums s) rfl).symm⟩

/-- An evaluation of what is evaluated changes nothing. -/
theorem marginStep_evaluated_eq (h : s.Evaluated) : s.marginStep = s := by
  obtain ⟨hf, hm⟩ := h
  rw [marginStep_same hm.symm, State.figured, ← hf, ← hm]
  rfl

theorem evalMargin_same (hj : s.joined = true) (h : s.marginNow = s.view.margin) : s.evalMargin = s.figured := by
  rw [State.evalMargin, if_pos hj]
  simp only [marginStep_same h]
  exact if_pos h

/-- Where no test is touched, a change of the margin state is told, and no more. -/
theorem evalMargin_told (hj : s.joined = true)
    (hstep : s.marginStep = s.marginTold) : s.evalMargin = s.marginTold := by
  rw [State.evalMargin, if_pos hj]
  simp only [hstep, marginStep_evaluated_eq (marginTold_evaluated s), ite_self]

theorem evalMargin_told_of_idle (hj : s.joined = true) (h : s.marginNow ≠ s.view.margin)
    (hidle : s.job.state = .idle) : s.evalMargin = s.marginTold := by
  refine evalMargin_told hj ?_
  rw [marginStep_changed hj h, abortTest_idle _ _ (by exact hidle), ite_self]

/-- From DEFICIT an evaluation touches no test: it is of the figures, or tells of NORMAL. -/
theorem marginStep_from_deficit (hj : s.joined = true) (h : s.view.margin = .deficit) :
    s.marginStep = s.figured ∨ s.marginStep = s.marginTold := by
  by_cases hsame : s.marginNow = s.view.margin
  · exact .inl (marginStep_same hsame)
  · have hno : ¬ s.marginNow = .deficit := fun hd => hsame (hd.trans h.symm)
    exact .inr ((marginStep_changed hj hsame).trans (if_neg hno))

theorem figured_frame (s : State) : s.ChangesOnly [.margin] s.figured := figures_frame ..

theorem marginTold_frame (s : State) : s.ChangesOnly [.margin, .notices] s.marginTold := by
  refine changesOnly_then (changesOnly_then (f := [.margin]) (g := [.notices]) (e := [.margin, .notices])
    (figured_frame s) ?_ rfl rfl) (withStatusDue_frame _ true) rfl rfl
  constructor
  intro p hp
  have hjoin : ∀ h : HostPort, ∀ n, (h.join n).slot = h.slot ∧ ((h.join n).resetAt = h.resetAt
      ∧ (h.join n).resetNow = h.resetNow) ∧ ((h.join n).txn = h.txn ∧ (h.join n).shifted = h.shifted)
      ∧ (h.join n).rejected = h.rejected ∧ (h.join n).bad = h.bad := fun h n => by
    unfold HostPort.join
    split <;> exact ⟨rfl, ⟨rfl, rfl⟩, ⟨rfl, rfl⟩, rfl, rfl⟩
  obtain ⟨hslot, hreset, htxn, hcounts⟩ := hjoin s.host s.marginNotice
  cases p with
  | command => exact hslot
  | reset => exact hreset
  | transaction => exact htxn
  | hostCounts => exact hcounts
  | notices => simp at hp
  | requests | statusTimer | margin => exact ⟨rfl, rfl⟩
  | withdrawals | ownQueue => exact ⟨rfl, rfl, rfl⟩
  | _ => rfl

end Sys2Proof.Machine

/-! PROOFS. The end of every event: its STATUS and what it carries (sections 3.2, 3.6 and 11.1). -/

namespace Sys2Proof.Machine

-- One proof after another: side by side they ask for more thread stacks than there is memory for.
set_option Elab.async false

variable {s s0 t u : State}

/-! ### What follows a change of the margin state (R68) -/

/-- `s` with a change of the margin state told, and the test ended or given up that an entry to DEFICIT ends. -/
def State.marginMoved (s : State) : State :=
  if s.marginNow = .deficit then s.marginTold.abortTest .deficit else s.marginTold

theorem marginMoved_frame (s : State) : s.ChangesOnly evalPieces s.marginMoved := by
  have htold : s.ChangesOnly evalPieces s.marginTold := changesOnly_mono (marginTold_frame s) rfl
  exact changesOnly_ite (changesOnly_then htold (abortTest_frame ..) rfl rfl) htold

theorem marginMoved_grows (s : State) : s.marginTold.Grows s.marginMoved := by
  unfold State.marginMoved
  split
  · exact abortTest_grows ..
  · exact grows_refl _

theorem otherFrames_marginMoved (s : State) :
    (otherFrames s.marginMoved.loop.queue).length ≤ (otherFrames s.loop.queue).length + 1 := by
  unfold State.marginMoved
  split
  · exact otherFrames_abortTest ..
  · exact Nat.le_succ _

theorem marginTold_grows (s : State) : s.figured.Grows s.marginTold := ⟨join_prefix .., fun _ => rfl⟩

/-- What the second evaluation after a change does: figures, and at most the notice of NORMAL (log 19). -/
theorem evalMargin_changed (hj : s.joined = true) (h : s.marginNow ≠ s.view.margin) :
    s.marginMoved.ChangesOnly [.margin, .notices] s.evalMargin ∧ s.marginMoved.Grows s.evalMargin := by
  have hstep : s.marginStep = s.marginMoved := marginStep_changed hj h
  obtain ⟨hm, -⟩ := marginStep_margin s
  have heval : s.evalMargin = s.marginMoved.marginStep := by
    rw [State.evalMargin, if_pos hj]
    simp only
    rw [if_neg (by rw [hm]; exact h), hstep]
  rw [heval]
  rw [hstep] at hm
  by_cases hd : s.marginNow = .deficit
  · have hjm : s.marginMoved.joined = true := (joined_of_frame (marginMoved_frame s)).trans hj
    obtain hstep2 | hstep2 := marginStep_from_deficit hjm (hm.trans hd)
    · rw [hstep2]
      exact ⟨changesOnly_mono (figured_frame _) rfl, grows_of_host rfl rfl⟩
    · rw [hstep2]
      exact ⟨marginTold_frame _, join_prefix .., fun _ => rfl⟩
  · have htold : s.marginMoved = s.marginTold := if_neg hd
    rw [htold, marginStep_evaluated_eq (marginTold_evaluated s)]
    exact ⟨changesOnly_refl .., grows_refl _⟩

/-! ### The STATUS of an event's end (R55) -/

theorem reported_figured (h : s.marginNow = s.view.margin) : s.figured.reported = s.reported := by
  rw [State.figured, h]
  rfl

/-- Where nothing that R55 watches has changed, the end of an event is the figures. -/
theorem finish_silent (hj : s.joined = true) (h : s.marginNow = s.view.margin) (hd : s.statusDue = false)
    (hr : s.reported = s0.reported) : State.finish s0 s = s.figured := by
  have hdue : s.figured.statusDue = false := hd
  unfold State.finish
  simp only [evalMargin_same hj h, hdue, reported_figured h, hr]
  simp

/-- Where something that R55 watches has changed, it is the evaluation and a STATUS. -/
theorem finish_reports (hj : s.joined = true)
    (h : s.marginNow ≠ s.view.margin ∨ s.statusDue = true ∨ s.reported ≠ s0.reported) :
    State.finish s0 s = s.evalMargin.queueStatus := by
  have hjoined : s.evalMargin.joined = true := (joined_of_frame (evalMargin_frame s)).trans hj
  have hwatched : (s.evalMargin.statusDue || s.evalMargin.reported != s0.reported) = true := by
    by_cases hchanged : s.marginNow = s.view.margin
    · rw [evalMargin_same hj hchanged, reported_figured hchanged]
      obtain hno | hdue | hr := h
      · exact absurd hchanged hno
      · have hdue' : s.figured.statusDue = true := hdue
        simp [hdue']
      · simp [hr]
    · have hdue := (grows_trans (marginMoved_grows s) (evalMargin_changed hj hchanged).2).due rfl
      simp [hdue]
  unfold State.finish
  simp only [hjoined, hwatched, Bool.and_self, if_true]

/-- The STATUS of an event's end stands behind the other frames where there is room. -/
theorem queueStatus_sends (h : (otherFrames s.loop.queue).length < 8) :
    otherFrames s.queueStatus.loop.queue = otherFrames s.loop.queue
    ∧ (s.queueStatus.loop.queue.filter (fun f => f.kind == .status)).length = 1
    ∧ s.queueStatus.sends .status 0 (s.queueStatus.statusBody s.queueStatus.view.seq) := by
  have hqueue : ∃ f : OwnFrame, f.kind = .status ∧ s.queueStatus.loop.queue = otherFrames s.loop.queue ++ [f] := by
    refine ⟨_, ?_, congrArg Prod.fst (if_pos (show (queueFor .status s.loop.queue).length < 8 from h))⟩
    rfl
  obtain ⟨f, hf, hq⟩ := hqueue
  have hnone : (otherFrames s.loop.queue).filter (fun f => f.kind == .status) = [] := by
    unfold otherFrames
    rw [List.filter_filter, List.filter_eq_nil_iff]
    simp
  refine ⟨?_, ?_, queueOwn_sends_of_others _ .status 0 _ h⟩
  · have hself : otherFrames (otherFrames s.loop.queue) = otherFrames s.loop.queue := by
      unfold otherFrames
      rw [List.filter_filter]
      simp
    rw [hq, otherFrames_append, hself]
    simp [otherFrames, hf]
  · rw [hq, List.filter_append, hnone]
    simp [hf]

theorem sends_queueStatus {k : FrameKind} {id : Nat} {body : List Byte} (h : s.sends k id body) (hk : k ≠ .status) :
    s.queueStatus.sends k id body :=
  sends_of_kept (s := ((s.onView (fun v => { v with
      seq := (s.view.seq + 1) % 256, statusAt := some (s.now + s.cfg.statusPeriod) })).queueOwn .status 0
      ((s.onView (fun v => { v with
        seq := (s.view.seq + 1) % 256, statusAt := some (s.now + s.cfg.statusPeriod) })).statusBody
          ((s.view.seq + 1) % 256))).1)
    (sends_queueOwn h hk ..) rfl rfl

theorem queueStatus_host (s : State) : s.queueStatus.host = s.host := host_of_frame (queueStatus_frame s)

end Sys2Proof.Machine

/-! PROOFS. The statement on the end of every event, and the layout of its STATUS (sections 3.2, 3.6 and 11.1). -/

namespace Sys2Proof.Machine

-- One proof after another: side by side they ask for more thread stacks than there is memory for.
set_option Elab.async false

variable {s s0 t u : State}

/-! ### The layout of a STATUS (R54, R198) -/

/-- The bytes of a STATUS core, its codes written out (R198). -/
theorem coreBytes_eq (c : StatusCore) :
    let mark := fun (b : Bool) (v : Nat) => if b then v else 0
    c.bytes = le16 c.period
      ++ le16 (mark c.flags.hostStale 1 + mark c.flags.unsupervised 2 + mark c.flags.deficit 4
        + mark c.flags.onBypass 8 + mark c.flags.maint 16 + mark c.flags.visitOpen 32
        + mark c.flags.visitOverdue 64 + mark c.flags.visitLong 128 + mark c.flags.ageUnknown 256)
      ++ le16 c.pAvail ++ le16 c.load
      ++ (c.strings.map (fun r =>
        le8 ((match r.state with
            | .inService => 0
            | .test => 1
            | .isolated => 2
            | .none => 3) + (match r.cls with
            | .good => 0
            | .worn => 4
            | .ended => 8))
        ++ le8 (mark r.ageUnknown 1 + mark r.unmeasured 2 + mark r.tempSuspect 4)
        ++ le16 r.eAvail)).flatten
      ++ le8 c.reserve ++ le8 c.autonomy ++ le8 c.exposure := by
  intro mark
  have hreport : ∀ r : StringReport, r.bytes = le8 ((match r.state with
            | .inService => 0
            | .test => 1
            | .isolated => 2
            | .none => 3) + (match r.cls with
            | .good => 0
            | .worn => 4
            | .ended => 8))
        ++ le8 (mark r.ageUnknown 1 + mark r.unmeasured 2 + mark r.tempSuspect 4) ++ le16 r.eAvail := fun r => by
    have hcls : 4 * r.cls.code = match r.cls with
        | .good => 0
        | .worn => 4
        | .ended => 8 := by cases r.cls <;> rfl
    rw [StringReport.bytes, hcls]
    rfl
  unfold StatusCore.bytes
  rw [List.flatMap_def]
  simp only [funext hreport]
  rfl

/-- The body of a STATUS, its codes written out (R54, R198). -/
theorem statusBody_eq (s : State) (n : Nat) :
    let mark := fun (b : Bool) (v : Nat) => if b then v else 0
    let kind := fun (k : WKind) => match k with
      | .bypass => 1
      | .maint => 2
      | .test => 3
      | .service => 4
    let scope := fun (x : Scope) => match x with
      | .cabinet => 1
      | .string k => 4 + k
    let own := (s.claims.list.filter (fun w => w.owner == s.own)).take 3
    s.statusBody n = le8 n ++ s.ownCore.bytes
      ++ le8 (match s.claims.slot with
        | .inFlight _ id _ _ => id
        | _ => 0)
      ++ le8 (match s.visit.current with
        | some v => scope v.scope
        | none => 0)
      ++ le8 (match s.visit.current with
        | some v => (match v.overdue with
          | .none => 0
          | .overdue => 1
          | .long => 2)
        | none => 0)
      ++ le8 own.length
      ++ (own.map (fun w => le8 w.claimId ++ le8 (16 * kind w.kind + scope w.scope)
        ++ le8 (mark w.overdue 1 + mark w.forced 2 + mark w.unsanctioned 4))).flatten := by
  have hclaim : s.claimInFlight.getD 0 = match s.claims.slot with
      | .inFlight _ id _ _ => id
      | _ => 0 := by
    unfold State.claimInFlight
    cases s.claims.slot <;> rfl
  have hscope : visitScopeCode s.visitScope = match s.visit.current with
      | some v => (match v.scope with
        | .cabinet => 1
        | .string k => 4 + k)
      | none => 0 := by
    unfold State.visitScope
    cases s.visit.current <;> rfl
  have hlevel : s.visitLevel.code = match s.visit.current with
      | some v => (match v.overdue with
        | .none => 0
        | .overdue => 1
        | .long => 2)
      | none => 0 := by
    unfold State.visitLevel
    cases s.visit.current <;> rfl
  unfold State.statusBody
  rw [List.flatMap_def, hclaim, hscope, hlevel]
  rfl

/-- From JOIN onward the own entry of the view is that of own state (R53). -/
theorem ownCore_eq_entry (hj : s.joined = true) : s.ownCore = (s.entry s.own).core := by
  simp [State.entry, hj, State.ownEntry]

/-! ### An entry to DEFICIT and a test (R41, R45, R68) -/

/-- What stands in the queue of notices where the notices `l` were told and more has followed. -/
theorem raised_of_grows {v : State} {l : List Notice} (hh : t.host = s.host.joinAll l) (h : t.Grows u)
    (hu : v.host = u.host) : s.raised l v := by
  show (s.host.joinAll l).notices <+: v.host.notices
  rw [← hh, hu]
  exact h.notices

theorem margin_moves (hn : s.view.margin = .normal) (hd : s.marginNow = .deficit) : s.marginNow ≠ s.view.margin := by
  rw [hn, hd]
  decide

section
variable (hj : s.joined = true) (hn : s.view.margin = .normal) (hd : s.marginNow = .deficit)
include hj hn hd

/-- What an entry to DEFICIT leaves behind the notice: the abort, the evaluation and the STATUS. -/
theorem deficit_rest : (s.marginTold.abortTest .deficit).ChangesOnly [.margin, .notices] s.evalMargin
    ∧ (s.marginTold.abortTest .deficit).Grows s.evalMargin ∧ State.finish s0 s = s.evalMargin.queueStatus
    ∧ (s.marginTold.abortTest .deficit).ChangesOnly [.margin, .notices, .statusTimer, .ownQueue]
        (State.finish s0 s) := by
  have hmoves := margin_moves hn hd
  obtain ⟨hframe, hgrows⟩ := evalMargin_changed hj hmoves
  have hmoved : s.marginMoved = s.marginTold.abortTest .deficit := if_pos hd
  rw [hmoved] at hframe hgrows
  have hfinish : State.finish s0 s = s.evalMargin.queueStatus := finish_reports hj (.inl hmoves)
  refine ⟨hframe, hgrows, hfinish, ?_⟩
  rw [hfinish]
  exact changesOnly_then hframe (queueStatus_frame _) rfl rfl

/-- A running test ends ABORTED_DEFICIT (R45, R46). -/
theorem deficit_endsTest {x : StringRec} {l : LastTest} (hrun : s.job.state = .running)
    (hx : s.strings[s.job.k]? = some x) (hl : x.lastTest = some l) :
    let t := State.finish s0 s
    t.job = TestJob.blank ∧ t.outs.dischReq = false
    ∧ (∃ y, t.strings[s.job.k]? = some y ∧ y.state = .inService ∧ y.lastTest
        = some { l with verdict := some .abortedDeficit, endMs := some s.now })
    ∧ (∀ w, s.ownOfClass WKind.isTest = some w →
        (∀ y ∈ t.claims.list, y.owner = s.own → y.claimId = w.claimId → y.kind ≠ .test)
        ∧ ((otherFrames s.loop.queue).length < 7 → t.sends .drop w.claimId (le8 w.claimId ++ le8 2)))
    ∧ s.raised [s.marginNotice, s.noticeOf .testEnd s.job.k 5 x.soc (min 65535 (l.delivered / 360) : Nat)] t := by
  intro t
  obtain ⟨heval, hgrows, hfinish, hrest⟩ := deficit_rest (s0 := s0) hj hn hd
  have habort : s.marginTold.abortTest .deficit = s.marginTold.endTest .abortedDeficit := by
    have hrun' : s.marginTold.job.state = .running := hrun
    simp only [State.abortTest, hrun']
    rfl
  rw [habort] at heval hgrows hrest
  obtain ⟨hjob, hline⟩ := endTest_job s.marginTold .abortedDeficit
  have hk : s.job.k < s.strings.length := (List.getElem?_eq_some_iff.mp hx).1
  have hrecord := verdictGiven_other hl (s.params s.job.k) s.hostSilent s.now (v := .abortedDeficit) (by decide) (by simp)
  have hstrings : (s.marginTold.endTest .abortedDeficit).strings
      = s.strings.set s.job.k (x.verdictGiven (s.params s.job.k) s.hostSilent .abortedDeficit s.now) :=
    endTest_strings (s := s.marginTold) hx .abortedDeficit hj
  have hhost : (s.marginTold.endTest .abortedDeficit).host = s.host.joinAll [s.marginNotice,
      s.noticeOf .testEnd s.job.k 5 x.soc (min 65535 (l.delivered / 360) : Nat)] := by
    refine (endTest_aborted_host (s := s.marginTold) hx hl hj (by decide) (by decide)).trans ?_
    rfl
  refine ⟨(hrest.kept .job (by decide)).trans hjob, (hrest.kept .dischReq (by decide)).trans hline,
    ⟨x.verdictGiven (s.params s.job.k) s.hostSilent .abortedDeficit s.now, ?_, by rw [hrecord], by rw [hrecord]⟩,
    fun w hw => ⟨?_, fun hroom => ?_⟩, ?_⟩
  · rw [strings_of_frame hrest, hstrings]
    exact List.getElem?_set_self hk
  · intro y hy ho hid hkind
    rw [(hrest.kept .withdrawals (by decide)).1, (endTest_released (s := s.marginTold) hw .abortedDeficit).1] at hy
    have hout := (List.mem_filter.mp hy).2
    have hown : y.owner = s.marginTold.own := ho
    simp [hown, hid, hkind] at hout
  · rw [show t = _ from hfinish]
    have hsent := (endTest_queue s.marginTold .abortedDeficit).2 w hw
      (show (otherFrames s.loop.queue).length < 8 by omega)
    exact sends_queueStatus (sends_of_frame hsent heval rfl) (by decide)
  · exact raised_of_grows hhost hgrows (by rw [show t = _ from hfinish]; exact queueStatus_host _)

section
variable {q : Request} (hclaiming : s.job.state = .claiming) (hgiven : s.job.givenUp = none) (hq : q.requester = .ageing)
include hclaiming hgiven hq

/-- A test whose claim is in flight is given up (R41). -/
theorem deficit_givesUp {id tag d : Nat} (hslot : s.claims.slot = .inFlight q id tag d) (hopen : q.givenUp = false) :
    let t := State.finish s0 s
    t.job = { s.job with givenUp := some .deficit } ∧ t.claims.slot = .inFlight { q with givenUp := true } id tag d := by
  obtain ⟨-, -, -, hrest⟩ := deficit_rest (s0 := s0) hj hn hd
  rw [abortTest_of_inFlight (s := s.marginTold) hclaiming hgiven hq hslot hopen] at hrest
  exact ⟨hrest.kept .job (by decide), hrest.kept .slot (by decide)⟩

/-- A test whose claim waits for its retry is denied (R40, R41). -/
theorem deficit_denies {d : Nat} (hslot : s.claims.slot = .retryWait q d) :
    let t := State.finish s0 s
    t.job = TestJob.blank ∧ t.claims.slot = .free
    ∧ s.raised [s.marginNotice, s.noticeOf .testDenied s.job.k 7 0 15] t := by
  obtain ⟨-, hgrows, hfinish, hrest⟩ := deficit_rest (s0 := s0) hj hn hd
  rw [abortTest_of_retryWait (s := s.marginTold) hclaiming hgiven hq hslot, State.testDenied,
    notify_eq (by exact hj)] at hgrows hrest
  exact ⟨hrest.kept .job (by decide), hrest.kept .slot (by decide),
    raised_of_grows (by rfl) hgrows (by rw [hfinish]; exact queueStatus_host _)⟩

end
end

/-! ### The statement -/

/-- What R55 watches is the four parts of it. -/
theorem reported_eq_iff (s s0 : State) : s.reported = s0.reported ↔
    s.ownFlags = s0.ownFlags
    ∧ s.strings.map (fun x => (x.state, x.cls, x.ageUnknown, x.unmeasured, x.tempSuspect))
      = s0.strings.map (fun x => (x.state, x.cls, x.ageUnknown, x.unmeasured, x.tempSuspect))
    ∧ (s.claims.list.filter (fun w => w.owner == s.own)).map
        (fun w => (w.claimId, w.kind, w.scope, w.overdue, w.forced, w.unsanctioned))
      = (s0.claims.list.filter (fun w => w.owner == s0.own)).map
        (fun w => (w.claimId, w.kind, w.scope, w.overdue, w.forced, w.unsanctioned))
    ∧ s.view.margin = s0.view.margin := by
  simp only [State.reported, Reported.mk.injEq, State.ownWithdrawals]

/-- The failing tests of a change's notice, as R68 counts them. -/
theorem failMask_eq (f : Figures) : f.failMask = (if f.capacityOk then 0 else 1) + (if f.energyOk then 0 else 2)
    + (if f.exposureOk then 0 else 4) := by
  unfold Figures.failMask
  cases f.capacityOk <;> cases f.energyOk <;> cases f.exposureOk <;> rfl

/-- What every event's end has of a STATUS, from JOIN onward (R55). -/
theorem finish_status (hj : s.joined = true)
    (h : s.marginNow ≠ s.view.margin ∨ s.statusDue = true ∨ s.reported ≠ s0.reported) :
    let t := State.finish s0 s
    t.view.seq = (s.view.seq + 1) % 256 ∧ t.view.statusAt = some (s.now + s.cfg.statusPeriod)
    ∧ ((otherFrames s.evalMargin.loop.queue).length < 8 →
        otherFrames t.loop.queue = otherFrames s.evalMargin.loop.queue
        ∧ (t.loop.queue.filter (fun f => f.kind == .status)).length = 1
        ∧ t.sends .status 0 (t.statusBody t.view.seq)) := by
  intro t
  have hframe := evalMargin_frame s
  obtain ⟨hseq, -⟩ := hframe.kept .statusTimer (by decide)
  have hus := clock_of_frame hframe
  have himage : s.evalMargin.image = s.image := hframe.kept .image (by decide)
  rw [show t = _ from finish_reports hj h]
  refine ⟨?_, ?_, fun hroom => queueStatus_sends hroom⟩
  · show (s.evalMargin.view.seq + 1) % 256 = _
    rw [hseq]
  · show some (s.evalMargin.now + s.evalMargin.cfg.statusPeriod) = _
    simp only [State.now, State.cfg, hus, himage]

/-- The other frames that stand in the queue when the STATUS of an event's end joins it. -/
theorem otherFrames_evalMargin (hj : s.joined = true) :
    (otherFrames s.evalMargin.loop.queue).length ≤ (otherFrames s.loop.queue).length + 1 := by
  by_cases h : s.marginNow = s.view.margin
  · rw [evalMargin_same hj h]
    exact Nat.le_succ _
  · rw [queue_of_frame (evalMargin_changed hj h).1]
    exact otherFrames_marginMoved s

/-- Behind the evaluation the end of an event changes the STATUS timer and the own queue alone. -/
theorem finish_afterEval (s0 s : State) : s.evalMargin.ChangesOnly [.statusTimer, .ownQueue] (State.finish s0 s) := by
  unfold State.finish
  exact changesOnly_ite (queueStatus_frame _) (changesOnly_refl ..)

/-- A change of the margin state is told whatever test it touches (R68). -/
theorem finish_tells (hj : s.joined = true) (h : s.marginNow ≠ s.view.margin) :
    s.raised [s.marginNotice] (State.finish s0 s) := by
  have hgrows := grows_trans (marginMoved_grows s) (evalMargin_changed hj h).2
  exact raised_of_grows (t := s.marginTold) rfl hgrows (host_of_frame (finish_afterEval s0 s))

/-- Settles O17: the evaluation is silent, or told and reported; where no test is touched the notice is all it
tells, and an entry to DEFICIT aborts a test on the way. -/
theorem eventEnd : Obligations.EventEnd := by
  intro s0 s t f changed notice others strings withdrawals same
  have hnotice : s.marginNotice = notice := by
    show s.noticeOf _ 0 (f.failMask : Int) f.headroom f.exposedBp = _
    rw [failMask_eq]
  have hsame : same ↔ s.reported = s0.reported := (reported_eq_iff s s0).symm
  refine ⟨fun hs => finish_beforeJoin (not_joined_of_state hs), finish_frame s0 s, fun hs hidle => ?_, fun hs => ?_,
    fun hs => ⟨ownCore_eq_entry (joined_of_state hs), rfl⟩, coreBytes_eq, statusBody_eq s⟩
  · have hj := joined_of_state hs
    have hafter := finish_afterEval s0 s
    have heval : s.evalMargin = if changed then s.marginTold else s.figured := by
      by_cases hc : changed
      · rw [if_pos hc]
        exact evalMargin_told_of_idle hj hc hidle
      · rw [if_neg hc]
        exact evalMargin_same hj (not_not.mp hc)
    have hview : s.evalMargin.view.margin = s.marginNow ∧ s.evalMargin.view.figures = f ∧ s.evalMargin.loop = s.loop := by
      rw [heval]
      split <;> exact ⟨rfl, rfl, rfl⟩
    obtain ⟨hmargin, hfigures, hloop⟩ := hview
    refine ⟨(hafter.kept .margin (by decide)).1.trans hmargin, (hafter.kept .margin (by decide)).2.trans hfigures,
      fun hc => ?_, fun hc => ?_, fun hc hd hr => ?_, fun hloud => ?_⟩
    · rw [host_of_frame hafter, heval, if_neg hc]
      rfl
    · rw [host_of_frame hafter, heval, if_pos hc, ← hnotice]
      rfl
    · rw [show t = s.figured from finish_silent hj (not_not.mp hc) hd (hsame.mp hr)]
      exact ⟨rfl, rfl, rfl⟩
    · obtain ⟨hseq, hat, hqueue⟩ := finish_status hj (hloud.imp_right (Or.imp_right (fun h hr => h (hsame.mpr hr))))
      rw [hloop] at hqueue
      exact ⟨hseq, hat, hqueue⟩
  · have hj := joined_of_state hs
    refine ⟨finish_marginOk s0 s, fun hc => ?_, fun hc => ?_, fun hc hd hr => ?_, fun hloud => ?_, fun hn hd =>
      ⟨fun x l hrun hx hl => ?_, fun q id tag d hc hg hslot hq ho => deficit_givesUp hj hn hd hc hg hq hslot ho,
        fun q d hc hg hslot hq => ?_⟩⟩
    · have heval := evalMargin_same hj (not_not.mp hc)
      have hafter := finish_afterEval s0 s
      rw [heval] at hafter
      refine ⟨((hafter.kept .margin (by decide)).1).trans (not_not.mp hc), (hafter.kept .margin (by decide)).2,
        changesOnly_then (figured_frame s) hafter rfl rfl⟩
    · rw [← hnotice]
      exact finish_tells hj hc
    · rw [show t = s.figured from finish_silent hj (not_not.mp hc) hd (hsame.mp hr)]
      exact ⟨rfl, rfl, rfl⟩
    · obtain ⟨hseq, hat, hqueue⟩ := finish_status hj (hloud.imp_right (Or.imp_right (fun h hr => h (hsame.mpr hr))))
      refine ⟨hseq, hat, fun hroom => ?_⟩
      have hothers := otherFrames_evalMargin hj
      exact (hqueue (hothers.trans_lt (by exact Nat.succ_lt_succ hroom))).2
    · rw [← hnotice]
      exact deficit_endsTest hj hn hd hrun hx hl
    · rw [← hnotice]
      exact deficit_denies hj hn hd hc hg hq hslot

end Sys2Proof.Machine

/-! PROOFS. Host port transactions: what they capture, what they leave, and the status word (sections 9.1, 9.2, 9.4
and 9.6). -/

namespace Sys2Proof.Machine

-- One proof after another: side by side they ask for more thread stacks than there is memory for.
set_option Elab.async false

variable {s t : State}

/-- An event whose effect the view does not see has no end of its own. -/
theorem event_sameView {g : Bool} {body : State → State} (hr : s.running = true) (hg : g = true)
    (hm : s.marginOk = true) (hb : body (s.withStatusDue false) = t) (hv : s.SameView t)
    (hmargin : t.view.margin = s.view.margin) (hfigures : t.view.figures = s.view.figures)
    (hdue : t.statusDue = false) (hreported : t.reported = s.reported) : s.event g body = .next t := by
  rw [event_next hr hg, State.runEvent, hb, finish_sameView hm hv hmargin hfigures hdue hreported]

/-! ### The status word (R189) -/

/-- The mask of the conditions carries each at its own bit. -/
theorem conditionMask_testBit (l : List Bool) : ∀ n, (conditionMask l).testBit n = l.getD n false := by
  induction l with
  | nil => exact fun n => Nat.zero_testBit n
  | cons b l ih =>
    intro n
    have hmask : conditionMask (b :: l) = 2 * conditionMask l + b.toNat := by
      cases b <;> simp [conditionMask, bitIf, Nat.add_comm]
    rw [hmask]
    cases n with
    | zero => cases b <;> simp
    | succ n =>
      rw [Nat.testBit_succ]
      have hhalf : (2 * conditionMask l + b.toNat) / 2 = conditionMask l := by
        have := Bool.toNat_le b
        omega
      rw [hhalf, ih n]
      rfl

/-- The top condition is the first that holds. -/
theorem topCondition_first (l : List Bool) : ∀ m n, l.getD n false = true → (∀ j < n, l.getD j false = false) →
    topCondition m l = m + n := by
  induction l with
  | nil => exact fun m n h => absurd h (by simp)
  | cons b l ih =>
    intro m n h hbefore
    cases n with
    | zero =>
      have hb : b = true := h
      rw [topCondition, if_pos hb]
      rfl
    | succ n =>
      have hb : b = false := hbefore 0 (Nat.succ_pos n)
      rw [topCondition, if_neg (by simp [hb]), ih (m + 1) n h (fun j hj => hbefore (j + 1) (Nat.succ_lt_succ hj))]
      omega

/-- Without a condition that holds there is none at the top. -/
theorem topCondition_none (l : List Bool) : ∀ m, (∀ j, l.getD j false = false) → topCondition m l = 0 := by
  induction l with
  | nil => exact fun _ _ => rfl
  | cons b l ih =>
    intro m h
    have hb : b = false := h 0
    rw [topCondition, if_neg (by simp [hb]), ih (m + 1) (fun j => h (j + 1))]

/-- Condition `n` of the table of R189, from 1. -/
def State.ConditionHolds (s : State) (n : Nat) : Prop :=
  (n = 1 ∧ s.startup.state = .configFault) ∨ (n = 2 ∧ s.view.duplicate = true)
  ∨ (n = 3 ∧ s.dog.stage = .unsupervised)
  ∨ (n = 4 ∧ s.loop.a.up = false ∧ s.loop.b.up = false)
  ∨ (n = 5 ∧ s.view.margin = .deficit) ∨ (n = 6 ∧ (s.dog.stage = .hostStale ∨ s.dog.stage = .unsupervised))
  ∨ (n = 7 ∧ s.loop.a.up ≠ s.loop.b.up)
  ∨ (n = 8 ∧ ∃ v, s.visit.current = some v ∧ v.overdue = .long)
  ∨ (n = 9 ∧ ∃ x ∈ s.strings, x.cls = .ended)

theorem conditions_iff (s : State) (n : Nat) : s.conditions.getD n false = true ↔ s.ConditionHolds (n + 1) := by
  match n with
  | 0 => simp [State.conditions, State.ConditionHolds]
  | 1 => simp [State.conditions, State.ConditionHolds]
  | 2 => simp [State.conditions, State.ConditionHolds]
  | 3 => simp [State.conditions, State.ConditionHolds, State.portsDown]
  | 4 => simp [State.conditions, State.ConditionHolds]
  | 5 => simp [State.conditions, State.ConditionHolds, State.hostSilent]
  | 6 => simp [State.conditions, State.ConditionHolds]
  | 7 => cases h : s.visit.current <;> simp [State.conditions, State.ConditionHolds, h]
  | 8 => simp [State.conditions, State.ConditionHolds]
  | n + 9 =>
    simp [State.conditions, State.ConditionHolds]

/-- The status word's bits, its top condition and their bytes (R189, R199). -/
theorem statusWord_conditions (s : State) :
    (∀ n, s.statusWord.conditions.getLsbD n = true ↔ s.ConditionHolds (n + 1))
    ∧ (∀ n, s.ConditionHolds n → (∀ m, m < n → ¬ s.ConditionHolds m) → s.statusWord.top = BitVec.ofNat 8 n)
    ∧ ((∀ n, ¬ s.ConditionHolds n) → s.statusWord.top = 0#8) := by
  refine ⟨fun n => ?_, fun n hn hbefore => ?_, fun hnone => ?_⟩
  · rw [← conditions_iff]
    show (BitVec.ofNat 16 (conditionMask s.conditions)).getLsbD n = true ↔ _
    rw [BitVec.getLsbD_ofNat, conditionMask_testBit, Bool.and_eq_true, decide_eq_true_iff, and_iff_right_iff_imp]
    intro hbit
    by_contra hlong
    have hbeyond : s.conditions.getD n false = false := List.getD_eq_default _ _ (by
      show 9 ≤ n
      omega)
    exact absurd (hbeyond.symm.trans hbit) Bool.false_ne_true
  · have hpos : 0 < n := by
      unfold State.ConditionHolds at hn
      omega
    obtain ⟨k, rfl⟩ := Nat.exists_eq_succ_of_ne_zero (Nat.pos_iff_ne_zero.mp hpos)
    have htop := topCondition_first s.conditions 1 k ((conditions_iff s k).mpr hn) (fun j hj => by
      rw [Bool.eq_false_iff]
      exact fun h => hbefore (j + 1) (Nat.succ_lt_succ hj) ((conditions_iff s j).mp h))
    show BitVec.ofNat 8 (topCondition 1 s.conditions) = _
    rw [htop, Nat.add_comm]
  · show BitVec.ofNat 8 (topCondition 1 s.conditions) = _
    rw [topCondition_none s.conditions 1 (fun j => by
      rw [Bool.eq_false_iff]
      exact fun h => hnone (j + 1) ((conditions_iff s j).mp h))]

/-! ### A transaction ends early or begins (R165, R179, R180) -/

/-- `s` with the transaction that is open ended early, as the three of its effects. -/
def State.early (s : State) : State := { s with
  statusDue := false
  host := { s.host with
    txn := none
    bad := if s.host.txn = some .cmdWrite then min 65535 (s.host.bad + 1) else s.host.bad
    shifted := match s.host.txn with
      | some (.replyRead (some r)) => r.bytes
      | some (.replyRead none) => [0, 0, 0, 0]
      | some (.noticeRead (some n)) => n.bytes
      | some (.noticeRead none) => List.replicate 14 0
      | some (.statusRead w) => w.bytes
      | _ => s.host.shifted }
  intake := match s.host.txn with
    | some (.measWrite b) => { s.intake with
        short := min 65535 (s.intake.short + 1)
        buffers := match b with
          | some i => s.intake.buffers.modify i (fun c => { c with role := .free })
          | none => s.intake.buffers }
    | _ => s.intake }

theorem endEarly_eq (s : State) : (s.withStatusDue false).endEarly = s.early := by
  have hopen : (s.withStatusDue false).host.txn = s.host.txn := rfl
  unfold State.endEarly State.early
  rw [hopen]
  rcases htxn : s.host.txn with _ | (_ | _) | _ | (_ | _) | (_ | _) | _
  · simp only [reduceCtorEq, if_false]
    rw [← htxn]
    rfl
  all_goals simp [State.closeRead, State.onHost, State.setRole, State.onIntake, HostPort.countBad]
  all_goals rfl

/-- What an early end changes is no part of the view. -/
theorem early_sameView (s : State) : s.SameView s.early ∧ s.early.view = s.view ∧ s.early.reported = s.reported := by
  refine ⟨⟨rfl, rfl, rfl, rfl, ?_⟩, rfl, rfl⟩
  have hintake : s.early.intake.pAvail = s.intake.pAvail ∧ s.early.intake.load = s.intake.load := by
    unfold State.early
    rcases s.host.txn with _ | (_ | _) | _ | (_ | _) | (_ | _) | _ <;> exact ⟨rfl, rfl⟩
  obtain ⟨havail, hload⟩ := hintake
  have hflags : s.early.ownFlags = s.ownFlags := rfl
  have hreports : ∀ k, s.early.reportAt k = s.reportAt k := fun _ => rfl
  unfold State.ownCore
  rw [havail, hload, hflags]
  rfl

/-- An event that does more to the host port and the roles of the buffers than end a transaction early. -/
theorem event_early {g : Bool} {body : State → State} (hr : s.running = true) (hg : g = true) (hm : s.marginOk = true)
    (hb : body (s.withStatusDue false) = t) {x : HostPort} {l : List Buffer}
    (ht : t = (s.early.withHost x).withIntake { s.early.intake with buffers := l }) : s.event g body = .next t := by
  obtain ⟨hv, hview, hreported⟩ := early_sameView s
  subst ht
  refine event_sameView hr hg hm hb (sameView_trans hv ⟨rfl, rfl, rfl, rfl, rfl⟩) ?_ ?_ rfl ?_
  · exact congrArg View.margin hview
  · exact congrArg View.figures hview
  · exact hreported

/-- Such an event that leaves the buffers. -/
theorem event_early_host {g : Bool} {body : State → State} (hr : s.running = true) (hg : g = true)
    (hm : s.marginOk = true) {x : HostPort} (hb : body (s.withStatusDue false) = s.early.withHost x) :
    s.event g body = .next (s.early.withHost x) :=
  event_early (l := s.early.intake.buffers) (x := x) hr hg hm hb rfl

theorem reply_eq (x : CmdSlot) : x.reply = match x with
    | .replied r => some r
    | _ => none := by cases x <;> rfl

/-- Settles O28: an early end by the transaction it ends, a beginning by the kind it opens, and the word by the
bits of its conditions. -/
theorem transactionsOpenAndEnd : Obligations.TransactionsOpenAndEnd := by
  intro s hr hm early
  have hearly : (s.withStatusDue false).endEarly = early := endEarly_eq s
  have hword := statusWord_conditions early
  obtain ⟨hbits, htop, hnone⟩ := hword
  have hbegin : ∀ k, exec (.transactionBegins k) s = s.event true (fun s => s.endEarly.openTxn k) := fun k => rfl
  have hbad : ∀ b, namesTxnKind b = false → exec (.badTransaction b) s = .next (early.withHost
      { early.host with bad := min 65535 (early.host.bad + 1), shifted := [] }) := fun b hb =>
    event_early_host hr (by simp [hb]) hm (by rw [hearly]; rfl)
  refine ⟨fun hopen => ?_, ?_, ?_, ?_, ?_, ?_, hbad, fun b t i hb ht => ?_, ?_, ?_, hbits, htop,
    hnone, rfl, rfl, rfl⟩
  · exact event_early_host (x := s.early.host) hr (Option.isSome_iff_ne_none.mpr hopen) hm hearly
  · rw [hbegin]
    exact event_early_host hr rfl hm (by rw [hearly]; rfl)
  · have hreply : early.host.slot.reply = match s.host.slot with
        | .replied r => some r
        | _ => none := reply_eq s.host.slot
    rw [hbegin]
    exact event_early_host hr rfl hm (by rw [hearly, State.openTxn, hreply]; rfl)
  · rw [hbegin]
    exact event_early_host hr rfl hm (by rw [hearly]; rfl)
  · rw [hbegin]
    exact event_early_host hr rfl hm (by rw [hearly]; rfl)
  · rw [hbegin]
    refine event_early (x := { early.host with txn := some (.measWrite (early.bufferIn .free)) })
      (l := match early.bufferIn .free with
        | some i => early.intake.buffers.modify i (fun c => { c with role := .writing })
        | none => early.intake.buffers) hr rfl hm ?_ rfl
    rw [hearly, State.openTxn]
    cases early.bufferIn .free <;> rfl
  · rw [hbad b hb] at ht
    cases ht
    rfl
  · show BitVec.ofNat 8 s.startup.state.code = _
    cases s.startup.state <;> rfl
  · show BitVec.ofNat 8 s.host.slot.code = _
    cases s.host.slot <;> rfl

end Sys2Proof.Machine

/-! PROOFS. Completed writes and reads of the host port (sections 8.1, 9.1, 9.2, 9.4 and 9.6). -/

namespace Sys2Proof.Machine

-- One proof after another: side by side they ask for more thread stacks than there is memory for.
set_option Elab.async false

variable {s t : State}

/-! ### Completions of an open transaction -/

theorem mayComplete_of_open {x : Txn} (h : s.host.txn = some x) : s.mayComplete x.kind = true := by
  simp [State.mayComplete, h]

theorem opened_of_open {x : Txn} (h : s.host.txn = some x) (k : TxnKind) : s.opened k = s := by
  simp [State.opened, h]

/-- A completion of the open transaction that changes the host port alone. -/
theorem event_ofHost {g : Bool} {body : State → State} (hr : s.running = true) (hg : g = true) (hm : s.marginOk = true)
    {h : HostPort} (hb : body (s.withStatusDue false) = (s.withStatusDue false).withHost h) :
    s.event g body = .next ((s.withHost h).withStatusDue false) :=
  event_sameView hr hg hm hb ⟨rfl, rfl, rfl, rfl, rfl⟩ rfl rfl rfl rfl

/-- A buffer stands READY exactly where the intake has one (R165). -/
theorem hasBuffer_iff (s : State) (r : BufferRole) : s.hasBuffer r = true ↔ ∃ c ∈ s.intake.buffers, c.role = r := by
  simp [State.hasBuffer]

/-- A whole measurement frame becomes READY (R165). -/
theorem measWrite_whole {i : Nat} {b : List Byte} (hr : s.running = true) (hm : s.marginOk = true)
    (hopen : s.host.txn = some (.measWrite (some i))) (hlen : 40 ≤ b.length) : exec (.measWrite b) s = .next
      { s with
        statusDue := false
        host := { s.host with txn := none }
        intake := { s.intake with
          skipped := if (∃ c ∈ s.intake.buffers, c.role = .ready)
            then min 65535 (s.intake.skipped + 1) else s.intake.skipped
          buffers := (s.intake.buffers.map (fun c =>
            if c.role = .ready then { c with role := .free } else c)).set i ⟨.ready, b.take 40⟩ } } := by
  have hopen' : (s.withStatusDue false).host.txn = some (.measWrite (some i)) := hopen
  refine event_sameView hr (mayComplete_of_open hopen) hm ?_ ⟨rfl, rfl, rfl, rfl, rfl⟩ rfl rfl rfl rfl
  simp only [opened_of_open hopen', Nat.not_lt.mpr hlen, if_false, State.measWritten, hopen']
  simp only [hasBuffer_iff]
  rfl

/-- A write that stops short ends early. -/
theorem event_short {k : TxnKind} {x : Txn} {n : Nat} {b : List Byte} {done : State → State}
    (hr : s.running = true) (hopen : s.host.txn = some x) (hk : x.kind = k) (hlen : b.length < n) :
    s.event (s.mayComplete k) (fun s => if b.length < n then (s.opened k).endEarly else done (s.opened k))
      = exec .transactionEndsEarly s := by
  have hopen' : (s.withStatusDue false).host.txn = some x := hopen
  have hend : exec .transactionEndsEarly s = s.event s.host.txn.isSome State.endEarly := rfl
  rw [hend, event_next hr (by rw [← hk]; exact mayComplete_of_open hopen), event_next hr (by simp [hopen])]
  simp only [State.runEvent, hlen, if_true, opened_of_open hopen']

/-- What a read that completes leaves. -/
theorem read_completes {k : TxnKind} {x : Txn} {body : State → State} {h : HostPort} (hr : s.running = true)
    (hm : s.marginOk = true) (hopen : s.host.txn = some x) (hk : x.kind = k)
    (hb : body (s.withStatusDue false) = (s.withStatusDue false).withHost h) :
    s.event (s.mayComplete k) (fun s => body (s.opened k)) = .next ((s.withHost h).withStatusDue false) := by
  have hopen' : (s.withStatusDue false).host.txn = some x := hopen
  exact event_ofHost hr (by rw [← hk]; exact mayComplete_of_open hopen) hm (by rw [opened_of_open hopen', hb])

/-- Settles O29: a completed write by its length and the slot it meets, a completed read by what it captured. -/
theorem transactionsComplete : Obligations.TransactionsComplete := by
  refine ⟨fun b s hr hm => ⟨fun i hopen hlen => measWrite_whole hr hm hopen hlen, fun x hopen hlen =>
    event_short (done := fun s => s.measWritten b) hr hopen rfl hlen, fun hopen hlen hslot => ?_,
    fun hopen hlen hslot => ?_, fun hopen hlen => event_short (done := fun s => s.cmdWritten b) hr hopen rfl hlen,
    fun hnone => ?_⟩, fun s hr hm => ⟨fun r hopen => ?_, fun hopen => ?_, fun n hopen => ?_, fun hopen => ?_,
    fun w hopen => ?_, fun hnone hslot => ?_⟩, fun h i => ⟨fun x hx => ?_, fun hlong => ?_⟩⟩
  · have hopen' : (s.withStatusDue false).host.txn = some .cmdWrite := hopen
    refine event_ofHost hr (mayComplete_of_open hopen) hm ?_
    simp only [opened_of_open hopen', Nat.not_lt.mpr hlen, if_false, State.cmdWritten, State.onHost, withStatusDue_host,
      hslot]
    rfl
  · have hopen' : (s.withStatusDue false).host.txn = some .cmdWrite := hopen
    refine event_ofHost hr (mayComplete_of_open hopen) hm ?_
    simp only [opened_of_open hopen', Nat.not_lt.mpr hlen, if_false, State.cmdWritten, State.onHost, withStatusDue_host]
    cases h : s.host.slot with
    | empty => exact absurd h hslot
    | pending _ _ => simp [satAdd]
    | replied _ => simp [satAdd]
  · have hnone' : (s.withStatusDue false).host.txn = none := hnone
    have hguard : s.mayComplete .cmdWrite = true := by simp [State.mayComplete, hnone]
    have hopens : (s.withStatusDue false).opened .cmdWrite
        = (s.withHost { s.host with txn := some .cmdWrite }).withStatusDue false := by
      simp only [State.opened, hnone', Option.isSome_none]
      rfl
    show s.event (s.mayComplete .cmdWrite) _ = State.event _ (State.mayComplete _ .cmdWrite) _
    rw [event_next hr hguard, event_next (by exact hr) (by rfl)]
    simp only [State.runEvent, hopens]
    rfl
  · exact read_completes (body := State.replyTaken) hr hm hopen rfl (by
      simp only [State.replyTaken, withStatusDue_host, hopen]
      rfl)
  · exact read_completes (body := State.replyTaken) hr hm hopen rfl (by
      simp only [State.replyTaken, withStatusDue_host, hopen]
      rfl)
  · exact read_completes (body := State.noticeTaken) hr hm hopen rfl (by
      simp only [State.noticeTaken, State.closeRead, State.onHost, withStatusDue_host, hopen, List.drop_one]
      rfl)
  · exact read_completes (body := State.noticeTaken) hr hm hopen rfl (by
      simp only [State.noticeTaken, withStatusDue_host, hopen]
      rfl)
  · exact read_completes (body := State.statusTaken) hr hm hopen rfl (by
      simp only [State.statusTaken, withStatusDue_host, hopen]
      rfl)
  · have hnone' : (s.withStatusDue false).host.txn = none := hnone
    have hopens : (s.withStatusDue false).opened .replyRead
        = (s.withStatusDue false).withHost { s.host with txn := some (.replyRead none) } := by
      have hreply : (s.withStatusDue false).host.slot.reply = none := by
        rw [show (s.withStatusDue false).host.slot = CmdSlot.empty from hslot]
        rfl
      unfold State.opened
      rw [hnone', if_neg (by simp)]
      simp only [State.openTxn, hreply]
      rfl
    refine event_ofHost hr (by simp [State.mayComplete, hnone]) hm ?_
    rw [hopens]
    rfl
  · simp [HostPort.dataOut, hx]
  · simp [HostPort.dataOut, hlong]

end Sys2Proof.Machine

/-! PROOFS. Held samples, their flags, and the resistance capture (sections 2.1 and 8.2). -/

namespace Sys2Proof.Machine

-- One proof after another: side by side they ask for more thread stacks than there is memory for.
set_option Elab.async false

/-! ### Held samples -/

theorem clampTemp_bne (t : Int) : (clampTemp t != t) = decide (t < -400 ∨ 850 < t) := by
  rw [Bool.eq_iff_iff, bne_iff_ne, decide_eq_true_iff]
  unfold clampTemp
  omega

theorem after_valid {x : Sample} (h : Hold) (hx : x.valid = true) :
    h.after x = ⟨x.voltage, x.current, clampTemp x.temperature, 0⟩ := by
  simp [Hold.after, hx]

theorem after_invalid {x : Sample} (h : Hold) (hx : x.valid = false) :
    h.after x = { h with count := min 11 (h.count + 1) } := by
  simp [Hold.after, hx]

/-! ### The capture -/

/-- The condition on which a capture is attempted (R32). -/
def Attempted (p : StringParams) (b : Baseline) (h : Handed) (r : StringRec) : Prop :=
  h.valid = true ∧ b.valid = true ∧ r.state ≠ .isolated ∧ b.state ≠ .isolated
    ∧ p.stepThreshold ≤ (b.current - h.current).natAbs

theorem attempted_iff {p : StringParams} {b : Baseline} {h : Handed} {r : StringRec} : Attempted p b h r ↔
    h.valid = true ∧ b.valid = true ∧ r.state ≠ .isolated ∧ b.state ≠ .isolated
      ∧ p.stepThreshold ≤ (h.current - b.current).natAbs := by
  rw [Attempted, ← Int.natAbs_neg, neg_sub]

theorem captured_idle {p : StringParams} {silent : Bool} {b : Baseline} {h : Handed} {r : StringRec}
    (hb : r.baseline = some b) (hno : ¬ Attempted p b h r) : r.captured p silent h = r := by
  rw [attempted_iff] at hno
  simp only [StringRec.captured, hb, if_neg hno]

theorem captured_attempted {p : StringParams} {silent : Bool} {b : Baseline} {h : Handed} {r : StringRec}
    (hb : r.baseline = some b) (hyes : Attempted p b h r) :
    r.captured p silent h = (if captureOk b.voltage h.voltage b.current h.current then
        (r.accept (resistance b.voltage h.voltage b.current h.current).toNat).recompute p silent
      else { r with captureRejects := satAdd 16 r.captureRejects 1 }) := by
  rw [attempted_iff] at hyes
  simp only [StringRec.captured, hb, if_pos hyes]

theorem captureOk_iff (v w : Nat) (i j : Int) : captureOk v w i j = true ↔
    ((0 < (v : Int) - w ∧ 0 < i - j) ∨ ((v : Int) - w < 0 ∧ i - j < 0))
      ∧ 100 ≤ Int.tdiv (((v : Int) - w) * 100000) (i - j)
      ∧ Int.tdiv (((v : Int) - w) * 100000) (i - j) ≤ 100000 := by
  simp only [captureOk, resistance, Bool.and_eq_true, Bool.or_eq_true, decide_eq_true_eq, and_assoc]
  exact and_congr Iff.rfl (and_congr decide_eq_true_iff decide_eq_true_iff)

/-- An accepted capture joins the list of five, and sets the reference where the list is full without one
(R34). -/
theorem accept_eq {r : StringRec} (x : Nat) (h5 : r.resList.length ≤ 5) : r.accept x =
    { r with
      resList := (if r.resList.length = 5 then r.resList.tail else r.resList) ++ [x]
      rRef := if r.rRef = none
          ∧ ((if r.resList.length = 5 then r.resList.tail else r.resList) ++ [x]).length = 5
        then some (lowerMedian ((if r.resList.length = 5 then r.resList.tail else r.resList) ++ [x]))
        else r.rRef } := by
  have hlist : (if r.resList.length < 5 then r.resList else r.resList.drop 1)
      = (if r.resList.length = 5 then r.resList.tail else r.resList) := by
    by_cases hfull : r.resList.length = 5
    · rw [if_neg (by omega), if_pos hfull, List.drop_one]
    · rw [if_pos (by omega), if_neg hfull]
  unfold StringRec.accept
  simp only [hlist]
  cases hr : r.rRef <;> simp

/-- Settles O23: a sample by its validity and the hold count, a capture by its attempt and its acceptance. -/
theorem samplesAndCaptures : Obligations.SamplesAndCaptures := by
  refine ⟨fun x h r _ => ⟨fun hx => ⟨after_valid h hx, by rw [after_valid h hx]; simp [handedOf, hx, clampTemp], ?_⟩,
    fun hx hc => ?_, fun hx hc => ?_⟩, fun p silent b h r hb h5 => ⟨fun hno => ?_, fun hh hv hr hbs hstep => ⟨?_, ?_⟩⟩⟩
  · simp [StringRec.takeFlags, hx, clampTemp_bne]
  · have hafter : h.after x = { h with count := h.count + 1 } := by
      rw [after_invalid h hx, Nat.min_eq_right (by omega)]
    rw [hafter]
    have hcount : h.count ≠ 10 := by omega
    simp [handedOf, StringRec.takeFlags, hx, hcount]
  · have hafter : h.after x = { h with count := 11 } := by
      rw [after_invalid h hx, Nat.min_eq_left (by omega)]
    rw [hafter]
    simp [handedOf, StringRec.takeFlags, hx]
  · refine captured_idle hb fun ⟨h1, h2, h3, h4, h5⟩ => ?_
    rcases hno with hno | hno | hno | hno | hno
    · simp [hno] at h1
    · simp [hno] at h2
    · exact h3 hno
    · exact h4 hno
    · omega
  · intro hno
    rw [captured_attempted hb ⟨hh, hv, hr, hbs, hstep⟩, if_neg (mt (captureOk_iff _ _ _ _).mp hno)]
    rfl
  · intro hyes
    rw [captured_attempted hb ⟨hh, hv, hr, hbs, hstep⟩, if_pos ((captureOk_iff _ _ _ _).mpr hyes), accept_eq _ h5]
    rfl

end Sys2Proof.Machine

/-! PROOFS. REQ_BYPASS with the readiness test, and REQ_RETURN (sections 5.1, 5.3 and 5.5). -/

namespace Sys2Proof.Machine

-- One proof after another: side by side they ask for more thread stacks than there is memory for.
set_option Elab.async false

variable {s t : State} {f : List Piece} {r : List Byte}

/-! ### Events that leave the own flags -/

/-- The pieces that the view is formed of beside the own flags. -/
def unflaggedPieces : List Piece :=
  [.startup, .image, .strings, .peers, .margin, .withdrawals, .intake, .watchdog]

/-- What leaves those pieces and the own flags as they were is no part of the view, nor of what R55 watches. -/
theorem view_of_flags (h : s.ChangesOnly f t) (hflags : t.ownFlags = s.ownFlags)
    (hf : f.all (fun p => !unflaggedPieces.contains p) = true := by rfl) :
    s.SameView t ∧ t.reported = s.reported ∧ t.view.margin = s.view.margin ∧ t.view.figures = s.view.figures := by
  have kept : ∀ p ∈ unflaggedPieces, p.kept s t := fun p hp => h.kept p fun hpf => by
    have := List.all_eq_true.mp hf p hpf
    simp [hp] at this
  have himage : t.image = s.image := kept .image (by decide)
  have hdog : t.dog = s.dog := kept .watchdog (by decide)
  have hstrings : t.strings = s.strings := kept .strings (by decide)
  have hintake : t.intake = s.intake := kept .intake (by decide)
  obtain ⟨hmargin, hfigures⟩ := kept .margin (by decide)
  obtain ⟨hlist, -⟩ := kept .withdrawals (by decide)
  have hreport : ∀ k, t.reportAt k = s.reportAt k := fun k => by unfold State.reportAt; rw [hstrings]
  have hcfg : t.cfg = s.cfg := by simp only [State.cfg, himage]
  have hsilent : t.hostSilent = s.hostSilent := by simp only [State.hostSilent, hdog]
  refine ⟨⟨joined_of_startup (kept .startup (by decide)), hcfg, kept .peers (by decide), hlist, ?_⟩, ?_, hmargin, hfigures⟩
  · simp only [State.ownCore, hcfg, hreport, hsilent, hintake, hflags]
  · simp only [State.reported, hflags, hstrings, State.ownWithdrawals, hlist, State.own, hcfg, hmargin]

/-- An event's own effect that leaves the own flags, and marks nothing of R55, is the whole event. -/
theorem finish_flags (hm : s.marginOk = true) (h : s.ChangesOnly f t) (hd : t.statusDue = false)
    (hflags : t.ownFlags = s.ownFlags) (hf : f.all (fun p => !unflaggedPieces.contains p) = true := by rfl) :
    State.finish s t = t := by
  obtain ⟨hv, hreported, hmargin, hfigures⟩ := view_of_flags h hflags hf
  exact finish_sameView hm hv hmargin hfigures hd hreported

theorem event_flags {g : Bool} {body : State → State} (hr : s.running = true) (hg : g = true)
    (hm : s.marginOk = true) (hb : body (s.withStatusDue false) = t) (h : s.ChangesOnly f t)
    (hd : t.statusDue = false) (hflags : t.ownFlags = s.ownFlags)
    (hf : f.all (fun p => !unflaggedPieces.contains p) = true := by rfl) : s.event g body = .next t := by
  rw [event_next hr hg, State.runEvent, hb, finish_flags hm h hd hflags hf]

theorem command_flags {row : Instr} {body : List Byte → State → State} (ht : s.takes row r)
    (hm : s.marginOk = true) (hb : body r (s.withStatusDue false) = t) (h : s.ChangesOnly f t)
    (hd : t.statusDue = false) (hflags : t.ownFlags = s.ownFlags)
    (hf : f.all (fun p => !unflaggedPieces.contains p) = true := by rfl) : s.command row body = .next t := by
  rw [command_next ht, State.runEvent, hb, finish_flags hm h hd hflags hf]

/-! ### The sequencer and the own flags (R53) -/

/-- What the own flags tell of a sequencer state. -/
def SeqState.shown (x : SeqState) : Bool × Bool :=
  (x.onStatic || x == .maint || x == .transferIn, x == .maint)

/-- The pieces beside the sequencer that the own flags tell of. -/
def flagPieces : List Piece := [.strings, .margin, .visits, .watchdog]

/-- The own flags follow the sequencer's state alone, where nothing else they tell of changes. -/
theorem ownFlags_of_seq (h : s.ChangesOnly f t) (hx : t.seq.state.shown = s.seq.state.shown)
    (hf : f.all (fun p => !(flagPieces.contains p)) = true := by rfl) :
    t.ownFlags = s.ownFlags := by
  have kept : ∀ p ∈ flagPieces, p.kept s t := fun p hp => h.kept p fun hpf => by
    have := List.all_eq_true.mp hf p hpf
    simp [hp] at this
  have hstrings : t.strings = s.strings := kept .strings (by decide)
  have hvisit : t.visit = s.visit := kept .visits (by decide)
  have hdog : t.dog = s.dog := kept .watchdog (by decide)
  obtain ⟨hmargin, -⟩ := kept .margin (by decide)
  obtain ⟨honBypass, hmaint⟩ := Prod.mk.inj hx
  simp only [State.ownFlags, State.hostSilent, hstrings, hvisit, hdog, hmargin]
  rw [honBypass, hmaint]

/-! ### The readiness test (R103) -/

/-- The sequencer back in ONLINE: what it waited for and what it asked the power stage for is gone. -/
theorem goOnline_eq (s : State) : s.goOnline = { s with
    seq := { s.seq with
      state := .online, prior := none, planned := none, syncAt := none, xfer := none, retransferAt := none }
    outs := { s.outs with xferByp := false, xferInv := false, mbsPermit := false } } := rfl

/-- The state in which a ready sequencer puts its request. -/
def State.asking (s : State) : State := s.onSeq (fun q => { q with syncAt := none })

theorem asking_frame (s : State) : s.ChangesOnly [.sequencer] s.asking := onSeq_frame ..

theorem localCheck_of_sameView (h : s.SameView t) (hd : t.view.duplicate = s.view.duplicate)
    (hi : t.claims.incomplete = s.claims.incomplete) (hm : t.view.margin = s.view.margin) (hl : t.loop = s.loop)
    (w : Hyp) : t.localCheck w = s.localCheck w := by
  rw [localCheck_eq, localCheck_eq, sameView_totals h, hd, hi, hm, hl, sameView_peersIn h, h.cfg]

theorem asking_localCheck (s : State) (w : Hyp) : s.asking.localCheck w = s.localCheck w := by
  obtain ⟨hv, -, hm, -⟩ := view_of_flags (asking_frame s) (ownFlags_of_seq (asking_frame s) rfl)
  exact localCheck_of_sameView hv rfl rfl hm rfl w

theorem testReady_idle (h : s.seq.state ≠ .syncWait ∨ s.phase.lock ≠ 4 ∨ s.seq.bypOk = false) : s.testReady = s := by
  refine if_neg fun ⟨hwait, hready⟩ => ?_
  simp only [State.readyForBypass, State.locked, Bool.and_eq_true, beq_iff_eq] at hready
  obtain ⟨hlock, hbyp⟩ := hready
  rcases h with h | h | h
  · exact h hwait
  · exact h hlock
  · simp [hbyp] at h

/-- A sequencer that waits and is ready puts its request to the claim unit. -/
theorem testReady_asks (hwait : s.seq.state = .syncWait) (hlock : s.phase.lock = 4) (hbyp : s.seq.bypOk = true) :
    s.testReady =
      let a := s.asking.requestClaim .sequencer .bypass .cabinet (s.seq.planned.getD 0)
      match a.1 with
      | .busy => a.2.goOnline.transferResult 0 resultBusy 0 0
      | .refused x => a.2.goOnline.transferResult 0 ClaimOutcome.refused.code 0 x.code
      | .sent _ => (a.2.goto .claiming).onSeq (fun q => { q with pending := true }) :=
  (if_pos ⟨hwait, by simp [State.readyForBypass, State.locked, hlock, hbyp]⟩).trans rfl

theorem testReady_busy (hwait : s.seq.state = .syncWait) (hlock : s.phase.lock = 4) (hbyp : s.seq.bypOk = true)
    (hbusy : s.claims.slot ≠ .free) : s.testReady = s.asking.goOnline.transferResult 0 resultBusy 0 0 := by
  rw [testReady_asks hwait hlock hbyp, requestClaim_busy (s := s.asking) hbusy]

theorem testReady_refused (hwait : s.seq.state = .syncWait) (hlock : s.phase.lock = 4) (hbyp : s.seq.bypOk = true)
    (hfree : s.claims.slot = .free) {x : Reason} (hx : s.localCheck ⟨s.own, .bypass, .cabinet⟩ = some x) :
    s.testReady = s.asking.goOnline.transferResult 0 ClaimOutcome.refused.code 0 x.code := by
  rw [testReady_asks hwait hlock hbyp,
    requestClaim_refused (s := s.asking) hfree ((asking_localCheck s _).trans hx)]

/-- The request a ready sequencer puts. -/
def State.bypassRequest (s : State) : Request := ⟨.sequencer, .bypass, .cabinet, s.seq.planned.getD 0, 0, false, 0⟩

theorem testReady_sent (hwait : s.seq.state = .syncWait) (hlock : s.phase.lock = 4) (hbyp : s.seq.bypOk = true)
    (hfree : s.claims.slot = .free) (hx : s.localCheck ⟨s.own, .bypass, .cabinet⟩ = none) :
    s.testReady
      = ((s.asking.sendClaim s.bypassRequest).goto .claiming).onSeq (fun q => { q with pending := true }) := by
  rw [testReady_asks hwait hlock hbyp,
    requestClaim_sent (s := s.asking) hfree ((asking_localCheck s _).trans hx)]
  rfl

/-- What a ready sequencer may change (R103). -/
def askPieces : List Piece := [.requests, .lamp, .sequencer, .claimIds, .slot, .ownQueue, .notices]

theorem testReady_frame (s : State) : s.ChangesOnly askPieces s.testReady := by
  unfold State.testReady
  split
  · have h := changesOnly_then (e := askPieces) (asking_frame s)
      (requestClaim_frame s.asking .sequencer .bypass .cabinet (s.seq.planned.getD 0)) rfl rfl
    have hends : ∀ (u : State) (a b : Nat), u.ChangesOnly askPieces (u.goOnline.transferResult 0 a 0 b) := fun u a b =>
      changesOnly_then (goOnline_frame u) (notify_frame ..) rfl rfl
    simp only
    split
    · exact changesOnly_trans h (hends _ _ _)
    · exact changesOnly_trans h (hends _ _ _)
    · exact changesOnly_then (changesOnly_then h (goto_frame ..) (e := askPieces) rfl rfl) (onSeq_frame ..) rfl rfl
  · exact changesOnly_refl ..

theorem testReady_shown (s : State) : s.testReady.seq.state.shown = s.seq.state.shown := by
  unfold State.testReady
  split
  · rename_i h
    simp only
    rw [h.1]
    split
    · rw [show ∀ u : State, ∀ a b c d, (u.transferResult a b c d).seq = u.seq from fun u a b c d =>
        (notify_frame ..).kept .sequencer (by decide)]
      rfl
    · rw [show ∀ u : State, ∀ a b c d, (u.transferResult a b c d).seq = u.seq from fun u a b c d =>
        (notify_frame ..).kept .sequencer (by decide)]
      rfl
    · rfl
  · rfl

/-- A CLAIM of the sequencer that goes out: its state, its slot, and its frame. -/
theorem testReady_claims (hwait : s.seq.state = .syncWait) (hlock : s.phase.lock = 4) (hbyp : s.seq.bypOk = true)
    (hfree : s.claims.slot = .free) (hx : s.localCheck ⟨s.own, .bypass, .cabinet⟩ = none)
    (hroom : s.loop.queue.length < 8) : s.testReady.sends .claim s.newClaimId
      (le8 s.newClaimId ++ le8 17 ++ le16 (s.seq.planned.getD 0) ++ s.ownCore.bytes ++ le16 0 ++ le8 0 ++ le8 0) := by
  rw [testReady_sent hwait hlock hbyp hfree hx]
  exact sends_of_frame (sends_of_frame (sendClaim_sends s.asking s.bypassRequest hroom) (goto_frame ..) rfl)
    (onSeq_frame ..) rfl

/-- A wait that ends back in ONLINE, with its notice. -/
theorem asking_ends (hj : s.joined = true) (code reason : Nat) :
    s.asking.goOnline.transferResult 0 code 0 reason
      = s.goOnline.withHost (s.host.join (s.noticeOf .transferResult 0 code 0 reason)) := by
  have honline : s.asking.goOnline = s.goOnline := rfl
  rw [honline, State.transferResult, notify_eq (s := s.goOnline) hj]
  rfl

theorem testReady_sent_frame (hwait : s.seq.state = .syncWait) (hlock : s.phase.lock = 4) (hbyp : s.seq.bypOk = true)
    (hfree : s.claims.slot = .free) (hx : s.localCheck ⟨s.own, .bypass, .cabinet⟩ = none) :
    s.ChangesOnly [.requests, .lamp, .sequencer, .claimIds, .slot, .ownQueue] s.testReady := by
  have hsend := requestClaim_frame s.asking .sequencer .bypass .cabinet (s.seq.planned.getD 0)
  rw [requestClaim_sent (s := s.asking) hfree ((asking_localCheck s _).trans hx)] at hsend
  rw [testReady_sent hwait hlock hbyp hfree hx]
  have hfirst := changesOnly_then (e := [.requests, .lamp, .sequencer, .claimIds, .slot, .ownQueue])
    (asking_frame s) hsend rfl rfl
  exact changesOnly_then (changesOnly_then hfirst (goto_frame ..)
    (e := [.requests, .lamp, .sequencer, .claimIds, .slot, .ownQueue]) rfl rfl) (onSeq_frame ..) rfl rfl

/-! ### REQ_BYPASS (R102) -/

/-- What REQ_BYPASS does in JOINED. -/
def State.reqBypass (r : List Byte) (s : State) : State :=
  if !inRange (arg16 r 0) 1 1440 then s.badArg 1
  else if s.hostSilent then s.staleReply
  else if s.seq.state ≠ .online then s.badState condSequencer
  else if s.job.state ≠ .idle then s.badState condTest
  else if s.claims.slot ≠ .free then s.busyReply
  else ((s.enterSyncWait (arg16 r 0)).testReady).answer .accepted []

theorem execReqBypass_eq (s : State) :
    exec .reqBypass s = s.command .reqBypass (fun r s => s.whenJoined (State.reqBypass r)) := rfl

theorem not_inRange_iff (m a b : Nat) : (!inRange m a b) = true ↔ m < a ∨ b < m := by
  rw [Bool.not_eq_true', ← Bool.not_eq_true, inRange_iff]
  omega

theorem reqBypass_eq (r : List Byte) (s : State) : State.reqBypass r s =
    if arg16 r 0 < 1 ∨ 1440 < arg16 r 0 then s.badArg 1
    else if s.dog.stage = .hostStale ∨ s.dog.stage = .unsupervised then s.staleReply
    else if s.seq.state ≠ .online then s.badState condSequencer
    else if s.job.state ≠ .idle then s.badState condTest
    else if s.claims.slot ≠ .free then s.busyReply
    else ((s.enterSyncWait (arg16 r 0)).testReady).answer .accepted [] := by
  simp only [State.reqBypass, not_inRange_iff, hostSilent_iff]

theorem notify_statusDue (s : State) (k : NoticeKind) (a b c d : Int) : (s.notify k a b c d).statusDue = s.statusDue := by
  unfold State.notify State.raise
  split <;> rfl

theorem requestClaim_statusDue (s : State) (who : Requester) (k : WKind) (c : Scope) (m : Nat) :
    (s.requestClaim who k c m).2.statusDue = s.statusDue := by
  unfold State.requestClaim
  split
  · split <;> rfl
  · rfl

theorem testReady_statusDue (s : State) : s.testReady.statusDue = s.statusDue := by
  have hnotify : ∀ (u : State) (a b : Nat), (u.transferResult 0 a 0 b).statusDue = u.statusDue := fun u a b =>
    notify_statusDue ..
  unfold State.testReady
  split
  · have hclaim := requestClaim_statusDue s.asking .sequencer .bypass .cabinet (s.seq.planned.getD 0)
    simp only
    split
    · exact (hnotify ..).trans hclaim
    · exact (hnotify ..).trans hclaim
    · exact hclaim
  · rfl

/-- A request that passes R102 waits, and is ready or not. -/
theorem reqBypass_waits (ht : s.takes .reqBypass r) (hm : s.marginOk = true) (hj : s.joined = true)
    (honline : s.seq.state = .online) {u : State} (hu : u = (s.withStatusDue false).enterSyncWait (arg16 r 0))
    (hbody : State.reqBypass r (s.withStatusDue false) = u.testReady.answer .accepted []) :
    exec .reqBypass s = .next (u.testReady.withHost { u.testReady.host with slot := replyTo r .accepted [] }) := by
  have hwait : s.ChangesOnly askPieces u :=
    hu ▸ frame_of_event (changesOnly_then (goto_frame ..) (onSeq_frame ..) rfl rfl)
  have hready := changesOnly_trans hwait (testReady_frame u)
  have hshown : u.seq.state.shown = s.seq.state.shown := by rw [hu, honline]; rfl
  obtain ⟨d, hslot⟩ := ht.pending
  have hslot' : u.testReady.host.slot = .pending r d := (hready.kept .command (by decide)).trans hslot
  have hanswer : u.testReady.answer .accepted [] = u.testReady.withHost
      { u.testReady.host with slot := replyTo r .accepted [] } := answer_pending hslot' ..
  have hframe := changesOnly_then (e := .command :: askPieces) hready (answer_frame _ .accepted []) rfl rfl
  rw [hanswer] at hframe hbody
  refine command_flags ht hm ((whenJoined_pos (s := s.withStatusDue false) hj).trans hbody) hframe ?_ ?_
  · show u.testReady.statusDue = false
    rw [testReady_statusDue, hu]
    rfl
  · exact ownFlags_of_seq hframe ((testReady_shown u).trans hshown)

/-- Settles O43: the refusals of R102 in their order, and the four ways of the readiness test. -/
theorem reqBypassAndReadiness : Obligations.ReqBypassAndReadiness := by
  refine ⟨fun r s ht hs hm => ?_, fun s hs => ⟨testReady_idle, fun hwait hlock hbyp => ⟨fun hbusy => ?_,
    fun hfree x hx => ?_, fun hfree hx => ⟨?_, ?_, ?_, testReady_claims hwait hlock hbyp hfree hx,
      testReady_sent_frame hwait hlock hbyp hfree hx⟩⟩⟩⟩
  · have hj : s.joined = true := joined_of_state hs
    have reply : ∀ {c : ReplyCode} {b : List Byte}, State.reqBypass r (s.withStatusDue false)
        = (s.withStatusDue false).answer c b → exec .reqBypass s = .next (s.repliedOnly r c b) :=
      fun hb => command_joined_reply ht hm hs hb
    have hbody := reqBypass_eq r (s.withStatusDue false)
    by_cases hrange : arg16 r 0 < 1 ∨ 1440 < arg16 r 0
    · rw [if_pos hrange]
      exact reply (hbody.trans (if_pos hrange))
    replace hbody := hbody.trans (if_neg hrange)
    rw [if_neg hrange]
    by_cases hsilent : s.dog.stage = .hostStale ∨ s.dog.stage = .unsupervised
    · rw [if_pos hsilent]
      exact reply (hbody.trans (if_pos hsilent))
    replace hbody := hbody.trans (if_neg hsilent)
    rw [if_neg hsilent]
    by_cases honline : s.seq.state ≠ .online
    · rw [if_pos honline]
      exact reply (hbody.trans (if_pos honline))
    replace hbody := hbody.trans (if_neg honline)
    rw [if_neg honline]
    by_cases hjob : s.job.state ≠ .idle
    · rw [if_pos hjob]
      exact reply (hbody.trans (if_pos hjob))
    replace hbody := hbody.trans (if_neg hjob)
    rw [if_neg hjob]
    by_cases hslot : s.claims.slot ≠ .free
    · rw [if_pos hslot]
      exact reply (hbody.trans (if_pos hslot))
    replace hbody := hbody.trans (if_neg hslot)
    rw [if_neg hslot]
    exact reqBypass_waits ht hm hj (not_not.mp honline) rfl hbody
  · rw [testReady_busy hwait hlock hbyp hbusy]
    exact asking_ends (joined_of_state hs) _ _
  · rw [testReady_refused hwait hlock hbyp hfree hx]
    exact asking_ends (joined_of_state hs) _ _
  · rw [testReady_sent hwait hlock hbyp hfree hx]
    rfl
  · rw [testReady_sent hwait hlock hbyp hfree hx]
    rfl
  · rw [testReady_sent hwait hlock hbyp hfree hx]
    rfl

/-! ### REQ_RETURN (R107, R108) -/

/-- What REQ_RETURN does in JOINED. -/
def State.reqReturn (r : List Byte) (s : State) : State :=
  let b := arg8 r 0
  let mode : XferMode := if s.locked then .sync else .brk
  if 1 < b then s.badArg 1
  else if s.hostSilent then s.staleReply
  else if !s.seq.state.onStatic then s.badState 0
  else if !s.pins.invOk then s.refusedReply codeInvFault
  else if s.locked || (b == 1 && !s.seq.bypOk) then (s.startReturn mode).answer .accepted (le8 mode.code)
  else s.refusedReply codeNoSync

theorem execReqReturn_eq (s : State) :
    exec .reqReturn s = s.command .reqReturn (fun r s => s.whenJoined (State.reqReturn r)) := rfl

theorem reqReturn_eq (r : List Byte) (s : State) : State.reqReturn r s =
    if 1 < arg8 r 0 then s.badArg 1
    else if s.dog.stage = .hostStale ∨ s.dog.stage = .unsupervised then s.staleReply
    else if !s.seq.state.onStatic then s.badState 0
    else if !s.pins.invOk then s.refusedReply codeInvFault
    else if s.locked || (arg8 r 0 == 1 && !s.seq.bypOk) then
      (s.startReturn (if s.locked then .sync else .brk)).answer .accepted
        (le8 (if s.locked then XferMode.sync else .brk).code)
    else s.refusedReply codeNoSync := by
  simp only [State.reqReturn, hostSilent_iff]

theorem onStatic_iff (x : SeqState) : x.onStatic = true ↔ x = .onBypass ∨ x = .forced ∨ x = .latched := by
  cases x <;> simp [SeqState.onStatic]

/-- A return that starts out of a bypass state (R108). -/
theorem reqReturn_starts (ht : s.takes .reqReturn r) (hm : s.marginOk = true) (hj : s.joined = true)
    (hstatic : s.seq.state.onStatic = true) {m : XferMode} (hbody : State.reqReturn r (s.withStatusDue false)
      = ((s.withStatusDue false).startReturn m).answer .accepted (le8 m.code)) : exec .reqReturn s = .next { s with
        statusDue := false
        seq := { s.seq with
          state := .transferIn, prior := some s.seq.state, retransferAt := none
          xfer := some ⟨.into, m, m == .brk, s.now, s.now + s.cfg.confirmTimeout⟩ }
        outs := { s.outs with xferByp := false, xferInv := true, mbsPermit := false }
        host := { s.host with slot := replyTo r .accepted (le8 m.code) } } := by
  obtain ⟨d, hslot⟩ := ht.pending
  have hframe : s.ChangesOnly [.sequencer, .requests, .lamp, .command]
      (((s.withStatusDue false).startReturn m).answer .accepted (le8 m.code)) :=
    frame_of_event (changesOnly_then (changesOnly_then (changesOnly_then (goto_frame ..) (onSeq_frame ..)
      (e := [.sequencer, .requests, .lamp]) rfl rfl) (startXfer_frame ..) (e := [.sequencer, .requests, .lamp]) rfl rfl)
      (answer_frame ..) rfl rfl)
  have hanswer := answer_pending (s := (s.withStatusDue false).startReturn m) (r := r) (d := d) hslot .accepted (le8 m.code)
  rw [hanswer] at hframe hbody
  refine (command_flags ht hm ((whenJoined_pos (s := s.withStatusDue false) hj).trans hbody) hframe rfl ?_).trans rfl
  refine ownFlags_of_seq hframe ?_
  rw [onStatic_iff] at hstatic
  obtain h | h | h := hstatic <;> rw [h] <;> rfl

/-- Settles O44: the refusals of R107 in their order, and the two modes of a return. -/
theorem reqReturn : Obligations.ReqReturn := by
  intro r s ht hs hm
  dsimp only
  have hj : s.joined = true := joined_of_state hs
  have reply : ∀ {c : ReplyCode} {b : List Byte}, State.reqReturn r (s.withStatusDue false)
      = (s.withStatusDue false).answer c b → exec .reqReturn s = .next (s.repliedOnly r c b) :=
    fun hb => command_joined_reply ht hm hs hb
  have hbody := reqReturn_eq r (s.withStatusDue false)
  by_cases harg : 1 < arg8 r 0
  · rw [if_pos harg]
    exact reply (hbody.trans (if_pos harg))
  replace hbody := hbody.trans (if_neg harg)
  rw [if_neg harg]
  by_cases hsilent : s.dog.stage = .hostStale ∨ s.dog.stage = .unsupervised
  · rw [if_pos hsilent]
    exact reply (hbody.trans (if_pos hsilent))
  replace hbody := hbody.trans (if_neg hsilent)
  rw [if_neg hsilent]
  by_cases hstatic : s.seq.state ≠ .onBypass ∧ s.seq.state ≠ .forced ∧ s.seq.state ≠ .latched
  · rw [if_pos hstatic]
    exact reply (hbody.trans (if_pos (by simp [← Bool.not_eq_true, onStatic_iff, hstatic])))
  have honStatic : s.seq.state.onStatic = true := (onStatic_iff _).mpr (by tauto)
  replace hbody := hbody.trans (if_neg (by simp [honStatic]))
  rw [if_neg hstatic]
  by_cases hinv : s.pins.invOk = false
  · rw [if_pos hinv]
    exact reply (hbody.trans (if_pos (by simp [hinv])))
  replace hbody := hbody.trans (if_neg (by simpa using hinv))
  rw [if_neg hinv]
  by_cases hlock : s.phase.lock = 4
  · have hlocked : (s.withStatusDue false).locked = true := beq_iff_eq.mpr hlock
    rw [if_pos hlock]
    exact reqReturn_starts ht hm hj honStatic (m := .sync) (hbody.trans (by simp [hlocked]))
  have hlocked : (s.withStatusDue false).locked = false := beq_eq_false_iff_ne.mpr hlock
  rw [if_neg hlock]
  by_cases hbreak : arg8 r 0 = 1 ∧ s.seq.bypOk = false
  · rw [if_pos hbreak]
    exact reqReturn_starts ht hm hj honStatic (m := .brk) (hbody.trans (by simp [hlocked, hbreak]))
  · rw [if_neg hbreak]
    refine reply (hbody.trans ?_)
    rw [hlocked, if_neg (by simpa using hbreak)]
    rfl

end Sys2Proof.Machine

/-! PROOFS. The service key, the overdue levels, and the commands of the visit unit (section 6). -/

namespace Sys2Proof.Machine

-- One proof after another: side by side they ask for more thread stacks than there is memory for.
set_option Elab.async false

variable {s t : State} {f : List Piece} {r : List Byte}

/-! ### The shape of an examination, and of an event -/

/-- One step of an examination: what the body answers where the condition holds, and what it goes on with
where it does not. -/
theorem examine_step {c : Prop} [Decidable c] {A B : Prop} {X a b : State} (hX : X = if c then a else b)
    (hA : c → X = a → A) (hB : ¬ c → X = b → B) : if c then A else B := by
  by_cases hc : c
  · rw [if_pos hc]
    exact hA hc (hX.trans (if_pos hc))
  · rw [if_neg hc]
    exact hB hc (hX.trans (if_neg hc))

theorem event_ends {g : Bool} {body : State → State} (hr : s.running = true) (hg : g = true)
    (hb : body (s.withStatusDue false) = t) : s.event g body = .next (s.ends t) := by
  rw [event_next hr hg, State.runEvent, hb]
  rfl

theorem command_ends {row : Instr} {body : List Byte → State → State} (ht : s.takes row r) (hj : s.joined = true)
    (hb : body r (s.withStatusDue false) = t) : s.command row (fun r s => s.whenJoined (body r)) = .next (s.ends t) := by
  rw [command_next ht, State.runEvent]
  rw [show (s.withStatusDue false).whenJoined (body r) = t from
    (whenJoined_pos (s := s.withStatusDue false) hj).trans hb]
  rfl

/-- A command of JOINED that leaves the own flags and marks nothing of R55 is its body. -/
theorem command_joined_flags {row : Instr} {body : List Byte → State → State} (ht : s.takes row r)
    (hm : s.marginOk = true) (hj : s.joined = true) (hb : body r (s.withStatusDue false) = t) (h : s.ChangesOnly f t)
    (hd : t.statusDue = false) (hflags : t.ownFlags = s.ownFlags)
    (hf : f.all (fun p => !unflaggedPieces.contains p) = true := by rfl) :
    s.command row (fun r s => s.whenJoined (body r)) = .next t :=
  command_flags ht hm ((whenJoined_pos (s := s.withStatusDue false) hj).trans hb) h hd hflags hf

/-! ### Line changes (R99) -/

theorem onPins_marginOk (set : Pins → Pins) (hm : s.marginOk = true) : (s.onPins set).marginOk = true := by
  rw [sameView_marginOk (sameView_of_frame (onPins_frame s set)) rfl rfl, hm]

/-- A line change whose event leaves the own flags and marks nothing of R55. -/
theorem lineEvent_flags {c : Bool} {set : Pins → Pins} {body : State → State} (hr : s.running = true)
    (hset : (set s.pins).resetN = s.pins.resetN) (hc : c = true) (hm : s.marginOk = true)
    (hb : body ((s.onPins set).withStatusDue false) = t) (h : (s.onPins set).ChangesOnly f t)
    (hd : t.statusDue = false) (hflags : t.ownFlags = s.ownFlags)
    (hf : f.all (fun p => !unflaggedPieces.contains p) = true := by rfl) :
    s.lineEvent c set body = .next t := by
  have hr' : (s.onPins set).running = true := by
    rw [← hr]
    simp only [State.running, State.onPins, State.withPins, hset]
  rw [State.lineEvent, if_pos hc]
  exact event_flags hr' rfl (onPins_marginOk set hm) hb h hd hflags hf

/-! ### The service key (R133) -/

/-- A key notice with a mark of the visit that no flag tells of. -/
theorem keyNotice_eq {v : Visit} (hcur : s.visit.current = some v) (hj : s.joined = true) (k : NoticeKind) (b : Bool) :
    (s.onCurrent (fun v => { v with keyOut := b })).keyNotice k v = { s with
      visit := { s.visit with current := some { v with keyOut := b } }
      host := s.host.join (s.noticeOf k v.visitId (if v.admitting then 1 else 2) ((s.now - v.openedMs) / 60000 : Nat)
        v.actions.length) } := by
  rw [State.keyNotice, notify_eq (s := s.onCurrent (fun v => { v with keyOut := b })) hj]
  simp only [State.onCurrent, State.onVisit, hcur, Option.map_some]
  rfl

/-- The service key at level `b`. -/
def State.keyed (s : State) (b : Bool) : State := s.onPins (fun p => { p with keyOn := b })

theorem keyNotice_frame (s : State) (k : NoticeKind) (v : Visit) : s.ChangesOnly [.notices] (s.keyNotice k v) :=
  notify_frame ..

theorem onCurrent_frame (s : State) (f : Visit → Visit) : s.ChangesOnly [.visits] (s.onCurrent f) := onVisit_frame ..

/-- A key event that marks the current visit and tells of it. -/
theorem key_marks {c b : Bool} {k : NoticeKind} {v : Visit} {body : State → State} (hr : s.running = true)
    (hj : s.joined = true) (hm : s.marginOk = true) (hc : c = true) (hcur : s.visit.current = some v) (o : Bool)
    (hb : body ((s.keyed b).withStatusDue false)
      = (((s.keyed b).withStatusDue false).onCurrent (fun v => { v with keyOut := o })).keyNotice k v) :
    s.lineEvent c (fun p => { p with keyOn := b }) body = .next { s with
      statusDue := false
      pins := { s.pins with keyOn := b }
      visit := { s.visit with current := some { v with keyOut := o } }
      host := s.host.join (s.noticeOf k v.visitId (if v.admitting then 1 else 2)
        ((s.now - v.openedMs) / 60000 : Nat) v.actions.length) } := by
  have hframe : (s.keyed b).ChangesOnly [.visits, .notices] (body ((s.keyed b).withStatusDue false)) := by
    rw [hb]
    exact frame_of_event (changesOnly_then (onCurrent_frame ..) (keyNotice_frame ..) rfl rfl)
  have heq := hb.trans (keyNotice_eq (s := (s.keyed b).withStatusDue false) hcur hj k o)
  refine (lineEvent_flags hr rfl hc hm heq (heq ▸ hframe) rfl ?_).trans rfl
  simp only [State.ownFlags, hcur]
  rfl

/-- A key event that leaves the visits. -/
theorem key_quiet {c b : Bool} {body : State → State} (hr : s.running = true) (hm : s.marginOk = true) (hc : c = true)
    (hb : body ((s.keyed b).withStatusDue false) = (s.keyed b).withStatusDue false) :
    s.lineEvent c (fun p => { p with keyOn := b }) body
      = .next { s with statusDue := false, pins := { s.pins with keyOn := b } } :=
  (lineEvent_flags hr rfl hc hm hb (withStatusDue_frame ..) rfl rfl).trans rfl

/-- An overdue level of an OPEN visit, with its notice (R139). -/
theorem raiseLevel_eq {v : Visit} (hcur : s.visit.current = some v) (hj : s.joined = true) (x : OverdueLevel)
    (k : NoticeKind) : s.raiseLevel x k = { s with
      visit := { s.visit with current := some { v with overdue := x } }
      host := s.host.join (s.noticeOf k v.visitId v.scope.code v.planned x.code) } := by
  rw [State.raiseLevel, hcur]
  refine (notify_eq (s := s.onCurrent (fun v => { v with overdue := x })) hj k v.visitId v.scope.code v.planned
    x.code).trans ?_
  simp only [State.onCurrent, State.onVisit, hcur, Option.map_some]
  rfl

/-- Settles O52: the key with no visit, with a visit, and the two levels. -/
theorem keyAndOverdueLevels : Obligations.KeyAndOverdueLevels := by
  intro s hr hs hm
  have hj : s.joined = true := joined_of_state hs
  refine ⟨fun hnone => ⟨fun hkey => key_quiet hr hm hkey ?_, fun hkey => key_quiet hr hm (by simpa using hkey) ?_⟩,
    fun v hcur => ⟨fun hkey => ?_, fun hkey hout => ?_, fun hkey hout => ?_, fun hopen hlevel hdue => ?_,
      fun hopen hlevel hdue => ?_⟩⟩
  · have hnone' : ((s.keyed false).withStatusDue false).visit.current = none := hnone
    simp only [hnone']
  · have hnone' : ((s.keyed true).withStatusDue false).visit.current = none := hnone
    simp only [hnone']
  · have hcur' : ((s.keyed false).withStatusDue false).visit.current = some v := hcur
    exact key_marks hr hj hm hkey hcur true (by simp only [hcur'])
  · have hcur' : ((s.keyed true).withStatusDue false).visit.current = some v := hcur
    exact key_marks hr hj hm (by simpa using hkey) hcur false (by simp only [hcur', hout, if_true])
  · have hcur' : ((s.keyed true).withStatusDue false).visit.current = some v := hcur
    exact key_quiet hr hm (by simpa using hkey) (by simp only [hcur', hout, Bool.false_eq_true, if_false])
  · refine event_ends hr ?_ ((raiseLevel_eq (s := s.withStatusDue false) hcur hj .overdue .visitOverdue).trans rfl)
    simp [State.levelDue, hcur, hopen, hlevel, hdue]
  · refine event_ends hr ?_ ((raiseLevel_eq (s := s.withStatusDue false) hcur hj .long .visitLong).trans rfl)
    simp [State.levelDue, hcur, hopen, hlevel, hdue]

end Sys2Proof.Machine

/-! PROOFS. OPEN_VISIT: its refusals, a CABINET visit opened, a STRING visit claimed (section 6.2). -/

namespace Sys2Proof.Machine

-- One proof after another: side by side they ask for more thread stacks than there is memory for.
set_option Elab.async false

variable {s t : State} {f : List Piece} {r : List Byte}

/-- What OPEN_VISIT does in JOINED. -/
def State.openVisit (r : List Byte) (s : State) : State :=
  match s.openArgs r with
  | some a => s.badArg a
  | none =>
    if s.hostSilent then s.staleReply
    else if !s.pins.keyOn then s.badState condKey
    else if s.visit.current.isSome then s.busyReply
    else if arg8 r 4 = 1 then s.openCabinet (arg32 r 0) (arg16 r 6)
    else if s.stringIs (arg8 r 5) .test then s.badState condStringTest
    else s.openString (arg32 r 0) (arg8 r 5) (arg16 r 6)

theorem execOpenVisit_eq (s : State) :
    exec .openVisit s = s.command .openVisit (fun r s => s.whenJoined (State.openVisit r)) := rfl

theorem not_techOk_iff (n : Nat) : (!techOk n) = true ↔ n < 1 ∨ 999999 < n := not_inRange_iff ..

theorem stringIs_iff (s : State) (k : Nat) (x : StringState) :
    s.stringIs k x = true ↔ (s.strings[k]?.map (fun r => r.state)) = some x := by
  cases h : s.strings[k]? <;> simp [State.stringIs, h]

/-- The arguments in the order in which they are examined. -/
theorem openArgs_eq (s : State) (r : List Byte) : s.openArgs r =
    if arg32 r 0 < 1 ∨ 999999 < arg32 r 0 then some 1
    else if arg8 r 4 ≠ 1 ∧ arg8 r 4 ≠ 2 then some 2
    else if arg8 r 4 = 2 ∧ s.strings.length ≤ arg8 r 5 then some 3
    else if arg16 r 6 < 15 ∨ 1440 < arg16 r 6 then some 4
    else none := by
  have hscope : (arg8 r 4 < 1 ∨ 2 < arg8 r 4) ↔ (arg8 r 4 ≠ 1 ∧ arg8 r 4 ≠ 2) := by omega
  simp only [State.openArgs, not_techOk_iff, not_inRange_iff, hscope]

/-- OPEN_VISIT as the one chain of R126. -/
theorem openVisit_eq (r : List Byte) (s : State) : State.openVisit r s =
    if arg32 r 0 < 1 ∨ 999999 < arg32 r 0 then s.badArg 1
    else if arg8 r 4 ≠ 1 ∧ arg8 r 4 ≠ 2 then s.badArg 2
    else if arg8 r 4 = 2 ∧ s.strings.length ≤ arg8 r 5 then s.badArg 3
    else if arg16 r 6 < 15 ∨ 1440 < arg16 r 6 then s.badArg 4
    else if s.dog.stage = .hostStale ∨ s.dog.stage = .unsupervised then s.staleReply
    else if s.pins.keyOn = false then s.badState condKey
    else if s.visit.current ≠ none then s.busyReply
    else if arg8 r 4 = 1 then s.openCabinet (arg32 r 0) (arg16 r 6)
    else if (s.strings[arg8 r 5]?.map (fun x => x.state)) = some .test then s.badState condStringTest
    else s.openString (arg32 r 0) (arg8 r 5) (arg16 r 6) := by
  simp only [State.openVisit, openArgs_eq, hostSilent_iff, stringIs_iff, Bool.not_eq_true', Option.isSome_iff_ne_none]
  by_cases h1 : arg32 r 0 < 1 ∨ 999999 < arg32 r 0
  · simp only [if_pos h1]
  by_cases h2 : arg8 r 4 ≠ 1 ∧ arg8 r 4 ≠ 2
  · simp only [if_neg h1, if_pos h2]
  by_cases h3 : arg8 r 4 = 2 ∧ s.strings.length ≤ arg8 r 5
  · simp only [if_neg h1, if_neg h2, if_pos h3]
  by_cases h4 : arg16 r 6 < 15 ∨ 1440 < arg16 r 6
  · simp only [if_neg h1, if_neg h2, if_neg h3, if_pos h4]
  simp only [if_neg h1, if_neg h2, if_neg h3, if_neg h4]

/-- The record of a visit as it is created (R127, R128). -/
def State.newVisit (s : State) (tech : Nat) (scope : Scope) (planned : Nat) (admitting : Bool) : Visit :=
  ⟨s.visit.nextId, tech, scope, planned, s.now, admitting, false, .none, [], false, false⟩

/-- A CABINET visit that is opened (R127). -/
theorem openCabinet_eq {d : Nat} (hslot : s.host.slot = .pending r d) (hj : s.joined = true) (tech planned : Nat) :
    s.openCabinet tech planned = { s with
      visit := { s.visit with counter := s.visit.nextId, current := some (s.newVisit tech .cabinet planned false) }
      outs := { s.outs with mbsPermit := s.seq.state.onStatic }
      host := { s.host.join (s.noticeOf .visitOpened s.visit.nextId 1 (tech / 1000 : Nat) planned) with
        slot := replyTo r .ok (le16 s.visit.nextId) } } := by
  have hnotice : (s.createVisit tech .cabinet planned false).formPermit.visitOpenedNotice
      = (s.createVisit tech .cabinet planned false).formPermit.withHost
          (s.host.join (s.noticeOf .visitOpened s.visit.nextId 1 (tech / 1000 : Nat) planned)) :=
    (notify_eq (s := (s.createVisit tech .cabinet planned false).formPermit) hj .visitOpened s.visit.nextId 1
      (tech / 1000 : Nat) planned)
  have hpermit : (s.createVisit tech .cabinet planned false).permitNow = s.seq.state.onStatic := Bool.and_true _
  rw [State.openCabinet]
  simp only [hnotice]
  rw [answer_pending (r := r) (d := d) (by exact (join_slot ..).trans hslot), State.formPermit, hpermit]
  rfl

/-- A STRING visit whose claim goes out (R128). -/
theorem openString_sent {d : Nat} (hslot : s.host.slot = .pending r d) (hfree : s.claims.slot = .free) {k : Nat}
    (hcheck : s.localCheck (s.ownHyp .service (.string k)) = none) (tech planned : Nat) :
    s.openString tech k planned
      = ((s.sendClaim ⟨.visit, .service, .string k, planned, 0, false, 0⟩).createVisit tech (.string k) planned
          true).withHost { s.host with slot := replyTo r .accepted (le16 s.visit.nextId ++ le8 s.newClaimId) } := by
  rw [State.openString, requestClaim_sent hfree hcheck]
  simp only
  rw [answer_pending (r := r) (d := d) (by exact hslot)]
  rfl

theorem openString_frame (hfree : s.claims.slot = .free) {k : Nat}
    (hcheck : s.localCheck (s.ownHyp .service (.string k)) = none) (tech planned : Nat) :
    s.ChangesOnly [.visits, .claimIds, .slot, .command, .ownQueue] (s.openString tech k planned) := by
  have hsend := requestClaim_frame s .visit .service (.string k) planned
  unfold State.openString
  rw [requestClaim_sent hfree hcheck] at hsend ⊢
  exact changesOnly_then (changesOnly_then hsend (onVisit_frame ..) (e := [.visits, .claimIds, .slot, .ownQueue])
    rfl rfl) (answer_frame ..) rfl rfl

/-- Settles O49: the refusals of R126 in their order, and the two kinds of visit. -/
theorem openVisit : Obligations.OpenVisit := by
  intro r s ht hs hm
  dsimp only
  have hj : s.joined = true := joined_of_state hs
  obtain ⟨d, hslot⟩ := ht.pending
  have reply : ∀ {c : ReplyCode} {b : List Byte}, State.openVisit r (s.withStatusDue false)
      = (s.withStatusDue false).answer c b → exec .openVisit s = .next (s.repliedOnly r c b) :=
    fun hb => command_joined_reply ht hm hs hb
  refine examine_step (openVisit_eq r (s.withStatusDue false)) (fun _ h => reply h) fun _ hbody => ?_
  refine examine_step hbody (fun _ h => reply h) fun _ hbody => ?_
  refine examine_step hbody (fun _ h => reply h) fun _ hbody => ?_
  refine examine_step hbody (fun _ h => reply h) fun _ hbody => ?_
  refine examine_step hbody (fun _ h => reply h) fun _ hbody => ?_
  refine examine_step hbody (fun _ h => reply h) fun _ hbody => ?_
  refine examine_step hbody (fun _ h => reply h) fun hcurrent hbody => ?_
  have hnone : s.visit.current = none := not_not.mp hcurrent
  refine examine_step hbody (fun _ h => ?_) fun _ hbody => ?_
  · exact command_ends ht hj (h.trans (openCabinet_eq (s := s.withStatusDue false) hslot hj _ _))
  refine examine_step hbody (fun _ h => reply h) fun _ hbody => ?_
  by_cases hbusy : s.claims.slot ≠ .free
  · rw [if_pos hbusy]
    exact reply (by
      rw [hbody, State.openString, requestClaim_busy (s := s.withStatusDue false) hbusy]
      rfl)
  rw [if_neg hbusy]
  have hfree : (s.withStatusDue false).claims.slot = .free := not_not.mp hbusy
  have hcheck : (s.withStatusDue false).localCheck ((s.withStatusDue false).ownHyp .service (.string (arg8 r 5)))
      = s.localCheck ⟨s.own, .service, .string (arg8 r 5)⟩ := localCheck_withStatusDue s false _
  split
  · rename_i x hx
    exact reply (by
      rw [hbody, State.openString, requestClaim_refused hfree (hcheck.trans hx)]
      rfl)
  · rename_i hx
    have hsent := openString_sent hslot hfree (hcheck.trans hx) (arg32 r 0) (arg16 r 6)
    have hframe := openString_frame hfree (hcheck.trans hx) (arg32 r 0) (arg16 r 6)
    rw [hsent] at hframe hbody
    refine ⟨_, command_joined_flags ht hm hj hbody (frame_of_event hframe) rfl ?_, rfl, rfl, rfl, rfl,
      fun hroom => ?_, frame_of_event hframe⟩
    · simp only [State.ownFlags, hnone]
      rfl
    · have hkind : kindScopeCode .service (.string (arg8 r 5)) = 64 + 4 + arg8 r 5 := by
        simp [kindScopeCode, WKind.code, Scope.code]
        omega
      have hsends := sendClaim_sends (s.withStatusDue false)
        ⟨.visit, .service, .string (arg8 r 5), arg16 r 6, 0, false, 0⟩ hroom
      rw [hkind] at hsends
      exact sends_of_kept hsends rfl rfl

end Sys2Proof.Machine

/-! PROOFS. The four visit actions (section 6.3). -/

namespace Sys2Proof.Machine

-- One proof after another: side by side they ask for more thread stacks than there is memory for.
set_option Elab.async false

variable {s t : State} {f : List Piece} {r : List Byte}

/-! ### An action: its examination and its record (R134) -/

theorem joinAll_slot (l : List Notice) : ∀ h : HostPort, (h.joinAll l).slot = h.slot := by
  induction l with
  | nil => exact fun _ => rfl
  | cons n l ih => exact fun h => (ih (h.join n)).trans (join_slot h n)

/-- An action that is recorded: its effect `u` with the record and the reply. -/
theorem action_recorded {u : State} {v : Visit} {d : Nat} (hslot : u.host.slot = .pending r d)
    (hcur : u.visit.current = some v) (hroom : v.actions.length < 16) (a : VisitAction) (b : List Byte) :
    (u.onCurrent (Visit.addAction a)).answer .ok b = { u with
      visit := { u.visit with current := some { v with actions := v.actions ++ [a] } }
      host := { u.host with slot := replyTo r .ok b } } := by
  rw [answer_pending (r := r) (d := d) (by exact hslot)]
  simp only [State.onCurrent, State.onVisit, hcur, Option.map_some, Visit.addAction, if_pos hroom]
  rfl

section
variable {row : Instr} {listed : List Byte → Bool} {needsK : Bool} {obstacle : List Byte → State → Visit → Option Nat}
  {effect : List Byte → State → State} {kind : ActionKind} {P : Visit → Prop}

/-- The examination that the four actions share, up to their own conditions (R134). -/
theorem action_examined (ht : s.takes row r) (hs : s.startup.state = .joined) (hm : s.marginOk = true)
    (hrow : exec row s = s.command row (fun r s => s.whenJoined (fun s =>
      s.visitAction r (listed r) needsK (obstacle r s) (effect r) kind)))
    (hlisted : (!listed r) = true ↔ row = .note ∧ arg8 r 4 ≠ 4) (hneeds : needsK = true ↔ row ≠ .note)
    (hP : ∀ v, s.visit.current = some v → v.actions.length < 16 → (∀ {t : State},
      (match obstacle r (s.withStatusDue false) v with
        | some c => (s.withStatusDue false).badState c
        | none => ((effect r (s.withStatusDue false)).onCurrent (Visit.addAction
            ⟨kind, if needsK then some (arg8 r 5) else none, s.now, arg16 r 6⟩)).answer .ok
              (le8 (v.actions.length + 1))) = t →
      (s.withStatusDue false).visitAction r (listed r) needsK (obstacle r (s.withStatusDue false)) (effect r) kind = t) →
      P v) :
    let replies := fun (c : ReplyCode) (b : List Byte) => exec row s = .next (s.repliedOnly r c b)
    if arg32 r 0 < 1 ∨ 999999 < arg32 r 0 then replies .badArg (le8 1)
    else if row = .note ∧ arg8 r 4 ≠ 4 then replies .badArg (le8 2)
    else if row ≠ .note ∧ s.strings.length ≤ arg8 r 5 then replies .badArg (le8 3)
    else match s.visit.current with
      | none => replies .badState (le8 7)
      | some v =>
        if v.admitting = true then replies .badState (le8 7)
        else if s.pins.keyOn = false then replies .badState (le8 9)
        else if arg32 r 0 ≠ v.tech then replies .mismatch []
        else if 16 ≤ v.actions.length then replies .full []
        else P v := by
  intro replies
  have reply : ∀ {c : ReplyCode} {b : List Byte}, (s.withStatusDue false).visitAction r (listed r) needsK
      (obstacle r (s.withStatusDue false)) (effect r) kind = (s.withStatusDue false).answer c b → replies c b :=
    fun hb => hrow.trans (command_joined_reply ht hm hs hb)
  have hk : (needsK && Nat.ble s.strings.length (arg8 r 5)) = true ↔ row ≠ .note ∧ s.strings.length ≤ arg8 r 5 := by
    rw [Bool.and_eq_true, hneeds, Nat.ble_eq]
  have hbody : (s.withStatusDue false).visitAction r (listed r) needsK (obstacle r (s.withStatusDue false)) (effect r)
      kind = _ := rfl
  conv at hbody => rhs; unfold State.visitAction
  simp only [withStatusDue_strings, withStatusDue_visit, withStatusDue_pins, not_techOk_iff, hlisted, hk] at hbody
  simp only [Bool.not_eq_true'] at hbody
  refine examine_step hbody (fun _ h => reply h) fun _ hbody => ?_
  refine examine_step hbody (fun _ h => reply h) fun _ hbody => ?_
  refine examine_step hbody (fun _ h => reply h) fun _ hbody => ?_
  cases hcur : s.visit.current with
  | none => exact reply (hbody.trans (by rw [hcur]; rfl))
  | some v =>
    simp only [hcur] at hbody
    refine examine_step hbody (fun _ h => reply h) fun _ hbody => ?_
    refine examine_step hbody (fun _ h => reply h) fun _ hbody => ?_
    refine examine_step hbody (fun _ h => reply h) fun _ hbody => ?_
    refine examine_step hbody (fun _ h => reply h) fun hroom hbody => ?_
    exact hP v hcur (by omega) fun h => hbody.trans h

end

/-! ### What the actions do to the string (R29, R135 to R137) -/

/-- The records with record `k` replaced by `y`, in the machine and in its notices (R24). -/
def State.withRecord (s : State) (k : Nat) (y : StringRec) (due : Bool) : State := { s with
  statusDue := due
  strings := s.strings.set k y
  host := s.host.joinAll (s.classNotices (s.strings.set k y)) }

theorem withRecord_sameClass {k : Nat} {x y : StringRec} (hx : s.strings[k]? = some x) (hcls : y.cls = x.cls)
    (due : Bool) : s.withRecord k y due = (s.withStrings (s.strings.set k y)).withStatusDue due := by
  rw [State.withRecord, classNotices_set hx, State.classNotice, if_pos hcls.symm]
  rfl

theorem onString_eq {k : Nat} {x : StringRec} (hx : s.strings[k]? = some x) (f : StringRec → StringRec) :
    s.onString k f = s.withStrings (s.strings.set k (f x)) := by
  rw [State.onString, modify_eq_set hx]

theorem setStringState_eq {k : Nat} {x : StringRec} (hx : s.strings[k]? = some x) (z : StringState) :
    s.setStringState k z = s.withRecord k (StringRec.formAvail s.hostSilent { x with state := z }) true := by
  refine Eq.trans ?_ (withRecord_sameClass hx (by rfl) true).symm
  rw [State.setStringState, onString_eq hx]
  rfl

theorem isolated_avail (silent : Bool) (x : StringRec) :
    StringRec.formAvail silent { x with state := .isolated } = { x with state := .isolated, eAvail := 0 } := by
  simp [StringRec.formAvail, availOf]

theorem restoreString_eq {k : Nat} {x : StringRec} (hx : s.strings[k]? = some x) :
    s.restoreString k = s.withRecord k { x with
      state := .inService, eAvail := availOf s.hostSilent { x with state := .inService }, baseline := none } true := by
  have hlt : k < s.strings.length := (List.getElem?_eq_some_iff.mp hx).1
  refine Eq.trans ?_ (withRecord_sameClass hx (by rfl) true).symm
  have hset := (setStringState_eq hx .inService).trans (withRecord_sameClass hx (by rfl) true)
  rw [State.restoreString, hset,
    onString_eq (x := StringRec.formAvail s.hostSilent { x with state := .inService }) (by simp [hlt])]
  simp only [withStatusDue_strings, withStrings_strings, List.set_set]
  rfl

theorem replaceString_eq (hj : s.joined = true) {k : Nat} {x : StringRec} (hx : s.strings[k]? = some x) :
    s.replaceString k = s.withRecord k (x.renew.recompute (s.params k) s.hostSilent) s.statusDue := by
  have hlt : k < s.strings.length := (List.getElem?_eq_some_iff.mp hx).1
  rw [State.replaceString, onString_eq hx, recompute_eq (s := s.withStrings (s.strings.set k x.renew)) hj
    (x := x.renew) (by simp [hlt]), State.withRecord, classNotices_set hx]
  simp only [withStrings_strings, List.set_set]
  rfl

/-- Records that stay raise no notice. -/
theorem classNotices_self (s : State) : s.classNotices s.strings = [] := by
  rw [State.classNotices, List.filterMap_eq_nil_iff]
  intro x hx
  have hsame : x.1.1 = x.1.2 := by
    have hmem := (List.of_mem_zip hx).1
    rw [List.zip_eq_zipWith, List.zipWith_self] at hmem
    obtain ⟨y, -, hy⟩ := List.mem_map.mp hmem
    rw [← hy]
  rw [if_pos (by rw [hsame])]

/-! ### The actions settled -/

section
variable {row : Instr} {need : StringState} {effect : List Byte → State → State} {kind : ActionKind} {v : Visit}

/-- The conditions and the record of an action on a string (R135 to R137). -/
theorem stringAction_settles {due : Bool} {y : StringRec → StringRec} {body : State} {needed : StringState}
    {Q : StringRec → Prop} (hneed : needed = need) (ht : s.takes row r) (hcur : s.visit.current = some v) (hroom : v.actions.length < 16)
    (heffect : ∀ x, s.strings[arg8 r 5]? = some x →
      effect r (s.withStatusDue false) = (s.withStatusDue false).withRecord (arg8 r 5) (y x) due)
    (hend : ∀ {u : State}, body = u → exec row s = .next (s.ends u))
    (hreply : ∀ {c : ReplyCode} {b : List Byte}, body = (s.withStatusDue false).answer c b →
      exec row s = .next (s.repliedOnly r c b))
    (hbody : ∀ {t : State}, (match (s.withStatusDue false).stringObstacle (arg8 r 5) need v with
        | some c => (s.withStatusDue false).badState c
        | none => ((effect r (s.withStatusDue false)).onCurrent (Visit.addAction
            ⟨kind, some (arg8 r 5), s.now, arg16 r 6⟩)).answer .ok (le8 (v.actions.length + 1))) = t → body = t)
    (hQ : ∀ x, exec row s = .next (s.ends { s with
        statusDue := due
        strings := s.strings.set (arg8 r 5) (y x)
        visit := { s.visit with current := some { v with
          actions := v.actions ++ [⟨kind, some (arg8 r 5), s.now, arg16 r 6⟩] } }
        host := { s.host.joinAll (s.classNotices (s.strings.set (arg8 r 5) (y x))) with
          slot := replyTo r .ok (le8 (v.actions.length + 1)) } }) → Q x) :
    if v.scope ≠ .string (arg8 r 5) then exec row s = .next (s.repliedOnly r .badState (le8 11))
    else ∀ x, s.strings[arg8 r 5]? = some x →
      if x.state ≠ needed then exec row s = .next (s.repliedOnly r .badState (le8 3)) else Q x := by
  subst hneed
  obtain ⟨d, hslot⟩ := ht.pending
  by_cases hscope : v.scope ≠ .string (arg8 r 5)
  · rw [if_pos hscope]
    exact hreply (hbody (by rw [State.stringObstacle, if_pos hscope]; rfl))
  rw [if_neg hscope]
  intro x hx
  by_cases hstate : x.state ≠ needed
  · rw [if_pos hstate]
    exact hreply (hbody (by
      rw [State.stringObstacle, if_neg hscope, if_pos (by simp [State.stringIs, hx, hstate])]
      rfl))
  · rw [if_neg hstate]
    have hrecord := action_recorded (u := effect r (s.withStatusDue false)) (r := r) (d := d)
      (by rw [heffect x hx]; exact (joinAll_slot ..).trans hslot) (by rw [heffect x hx]; exact hcur) hroom
      ⟨kind, some (arg8 r 5), s.now, arg16 r 6⟩ (le8 (v.actions.length + 1))
    have hpass : (s.withStatusDue false).stringObstacle (arg8 r 5) needed v = none := by
      rw [State.stringObstacle, if_neg hscope, if_neg (by simpa [State.stringIs, hx] using hstate)]
    refine hQ x ((hend (hbody (Eq.trans (by rw [hpass]) hrecord))).trans ?_)
    rw [heffect x hx]
    rfl

end

/-- Settles O50: the shared examination, and the effect of each of the four actions. -/
theorem visitActions : Obligations.VisitActions := by
  intro row r s ht hmem hs hm
  have hj : s.joined = true := joined_of_state hs
  simp only [List.mem_cons, List.not_mem_nil, or_false] at hmem
  obtain rfl | rfl | rfl | rfl := hmem
  · refine action_examined ht hs hm (listed := fun _ => true) (needsK := true)
      (obstacle := fun r s => s.stringObstacle (arg8 r 5) .inService)
      (effect := fun r s => s.setStringState (arg8 r 5) .isolated) (kind := .isolated) rfl (by simp) (by simp)
      fun v hcur hroom hbody => (if_neg (by simp)).mpr ?_
    exact stringAction_settles (need := .inService) (kind := .isolated) (due := true) (if_pos rfl)
      (effect := fun r s => s.setStringState (arg8 r 5) .isolated)
      (y := fun x => { x with state := .isolated, eAvail := 0 }) ht hcur hroom
      (fun x hx => (setStringState_eq (s := s.withStatusDue false) hx .isolated).trans (by rw [isolated_avail]))
      (fun h => command_ends ht hj h) (fun h => command_joined_reply ht hm hs h) hbody
      fun x h => ⟨fun _ => h, fun hrow => by simp at hrow, fun hrow => by simp at hrow⟩
  · refine action_examined ht hs hm (listed := fun _ => true) (needsK := true)
      (obstacle := fun r s => s.stringObstacle (arg8 r 5) .isolated)
      (effect := fun r s => s.replaceString (arg8 r 5)) (kind := .replaced) rfl (by simp) (by simp)
      fun v hcur hroom hbody => (if_neg (by simp)).mpr ?_
    exact stringAction_settles (need := .isolated) (kind := .replaced) (due := false) (if_neg (by simp))
      (effect := fun r s => s.replaceString (arg8 r 5))
      (y := fun x => x.renew.recompute (s.params (arg8 r 5)) s.hostSilent) ht hcur hroom
      (fun x hx => replaceString_eq (s := s.withStatusDue false) hj hx)
      (fun h => command_ends ht hj h) (fun h => command_joined_reply ht hm hs h) hbody
      fun x h => ⟨fun hrow => by simp at hrow, fun hrow => by simp at hrow, fun _ => h⟩
  · refine action_examined ht hs hm (listed := fun _ => true) (needsK := true)
      (obstacle := fun r s => s.stringObstacle (arg8 r 5) .isolated)
      (effect := fun r s => s.restoreString (arg8 r 5)) (kind := .restored) rfl (by simp) (by simp)
      fun v hcur hroom hbody => (if_neg (by simp)).mpr ?_
    exact stringAction_settles (need := .isolated) (kind := .restored) (due := true) (if_neg (by simp))
      (effect := fun r s => s.restoreString (arg8 r 5))
      (y := fun x => { x with
        state := .inService, eAvail := availOf s.hostSilent { x with state := .inService }, baseline := none })
      ht hcur hroom (fun x hx => restoreString_eq (s := s.withStatusDue false) hx)
      (fun h => command_ends ht hj h) (fun h => command_joined_reply ht hm hs h) hbody
      fun x h => ⟨fun hrow => by simp at hrow, fun _ => h, fun hrow => by simp at hrow⟩
  · refine action_examined ht hs hm (listed := fun r => arg8 r 4 == 4) (needsK := false)
      (obstacle := fun _ _ _ => none) (effect := fun _ s => s) (kind := .note) rfl (by simp) (by simp)
      fun v hcur hroom hbody => (if_pos rfl).mpr ?_
    obtain ⟨d, hslot⟩ := ht.pending
    exact (command_ends ht hj (hbody (action_recorded (u := s.withStatusDue false) hslot hcur hroom _ _))).trans (by
      rw [classNotices_self]
      rfl)

end Sys2Proof.Machine

/-! PROOFS. CLOSE_VISIT: its refusals, an admission given up, a visit closed (sections 6.2 and 6.6). -/

namespace Sys2Proof.Machine

-- One proof after another: side by side they ask for more thread stacks than there is memory for.
set_option Elab.async false

variable {s t : State} {f : List Piece} {r : List Byte}

/-- What CLOSE_VISIT does in JOINED. -/
def State.closeCommand (r : List Byte) (s : State) : State :=
  if !techOk (arg32 r 0) then s.badArg 1
  else match s.visit.current with
    | none => s.badState condVisit
    | some v =>
      if !s.pins.keyOn then s.badState condKey
      else if arg32 r 0 ≠ v.tech then s.answer .mismatch []
      else if v.admitting then s.cancelVisit v
      else match s.closeObstacle v with
        | some c => s.badState c
        | none => (s.closeVisit v).answer .ok (le16 v.visitId)

theorem execCloseVisit_eq (s : State) :
    exec .closeVisit s = s.command .closeVisit (fun r s => s.whenJoined (State.closeCommand r)) := rfl

/-- The history with the current visit `v` closed in it (R124). -/
def State.visitHistory (s : State) (v : Visit) (a : Option (ClaimOutcome × Bool)) : List ClosedVisit :=
  (if s.visit.history.length < 8 then s.visit.history else s.visit.history.tail) ++ [⟨v, s.now, a⟩]

/-- A visit that leaves the current place for the history; no lamp is lit without one (R124, R125). -/
theorem retireVisit_eq {v : Visit} (hcur : s.visit.current = some v) (a : Option (ClaimOutcome × Bool)) :
    s.retireVisit a = { s with
      visit := { s.visit with current := none, history := s.visitHistory v a }
      outs := { s.outs with mbsPermit := false } } := by
  have hplace : placeRecord ⟨v, s.now, a⟩ s.visit.history = s.visitHistory v a := by
    rw [placeRecord, List.drop_one]
    rfl
  unfold State.retireVisit
  simp only [hcur]
  rw [State.formPermit, show (s.onVisit (fun x => { x with
    current := none, history := placeRecord ⟨v, s.now, a⟩ x.history })).permitNow = false from Bool.and_false _,
    ← hplace]
  rfl

theorem release_leaves (s : State) (c : WKind → Bool) : (s.release c).visit = s.visit ∧ (s.release c).outs = s.outs
    ∧ (s.release c).host = s.host ∧ (s.release c).us = s.us ∧ (s.release c).startup = s.startup := by
  cases hw : s.ownOfClass c with
  | none => rw [release_none hw]; exact ⟨rfl, rfl, rfl, rfl, rfl⟩
  | some w =>
    unfold State.release State.removeEntries
    simp only [hw]
    split <;> exact ⟨rfl, rfl, rfl, rfl, rfl⟩

/-- The close of an OPEN visit on a state that holds it (R141). -/
theorem closed_eq {u : State} {v : Visit} {d : Nat} (hslot : u.host.slot = .pending r d) (hj : u.joined = true)
    (hcur : u.visit.current = some v) (minutes : Nat) :
    ((u.retireVisit none).notify .visitClosed v.visitId v.actions.length (bitIf v.actionsLost 0) minutes).answer .ok
        (le16 v.visitId) = { u with
      visit := { u.visit with current := none, history := u.visitHistory v none }
      outs := { u.outs with mbsPermit := false }
      host := { u.host.join (u.noticeOf .visitClosed v.visitId v.actions.length (if v.actionsLost then 1 else 0)
          minutes) with
        slot := replyTo r .ok (le16 v.visitId) } } := by
  have hlost : ((bitIf v.actionsLost 0 : Nat) : Int) = if v.actionsLost then 1 else 0 := by
    cases v.actionsLost <;> rfl
  rw [retireVisit_eq hcur, hlost, notify_eq (by exact hj),
    answer_pending (r := r) (d := d) (by exact (join_slot ..).trans hslot)]
  rfl

/-- An admission marked given up, its request gone from the slot (R86, R131). -/
def State.dropAdmission (s : State) : State :=
  ((s.withStatusDue false).onCurrent (fun v => { v with givenUp := true })).setSlot .free

section
variable {v : Visit} (ht : s.takes .closeVisit r) (hs : s.startup.state = .joined) (hm : s.marginOk = true)
  (hcur : s.visit.current = some v)
include ht hs hcur

/-- A visit closed on the state `u` that its event has reached. -/
theorem closeVisit_closes {u : State} (hvisit : u.visit = s.visit) (houts : u.outs = s.outs) (hhost : u.host = s.host)
    (hus : u.us = s.us) (hstart : u.startup = s.startup)
    (hbody : State.closeCommand r (s.withStatusDue false) = ((u.retireVisit none).notify .visitClosed v.visitId
      v.actions.length (bitIf v.actionsLost 0) ((s.now - v.openedMs) / 60000 : Nat)).answer .ok (le16 v.visitId)) :
    exec .closeVisit s = .next (s.ends { u with
      visit := { s.visit with current := none, history := s.visitHistory v none }
      outs := { s.outs with mbsPermit := false }
      host := { s.host.join (s.noticeOf .visitClosed v.visitId v.actions.length
          (if v.actionsLost then 1 else 0) ((s.now - v.openedMs) / 60000 : Nat)) with
        slot := replyTo r .ok (le16 v.visitId) } }) := by
  obtain ⟨d, hslot⟩ := ht.pending
  have hnow : u.now = s.now := by simp only [State.now, hus]
  have hnotice : ∀ k a b c d, u.noticeOf k a b c d = s.noticeOf k a b c d := fun k a b c d => by
    simp only [State.noticeOf, hnow]
  have hhistory : u.visitHistory v none = s.visitHistory v none := by simp only [State.visitHistory, hvisit, hnow]
  have hju : u.joined = true := by simp only [State.joined, hstart]; exact joined_of_state hs
  have heq := closed_eq (u := u) (r := r) (d := d) (by rw [hhost]; exact hslot) hju (by rw [hvisit]; exact hcur)
    ((s.now - v.openedMs) / 60000)
  rw [hvisit, houts, hhost, hnotice, hhistory] at heq
  exact command_ends ht (joined_of_state hs) (hbody.trans heq)

include hm

/-- An admission whose claim is in flight is given up (R131). -/
theorem closeVisit_cancels {q : Request} {id tag d : Nat} (hgiven : v.givenUp = false)
    (hflight : s.claims.slot = .inFlight q id tag d) (hq : q.requester = .visit) (hopen : q.givenUp = false)
    (hbody : State.closeCommand r (s.withStatusDue false) = (s.withStatusDue false).cancelVisit v) :
    exec .closeVisit s = .next { s with
      statusDue := false
      visit := { s.visit with current := some { v with givenUp := true } }
      claims := { s.claims with slot := .inFlight { q with givenUp := true } id tag d }
      host := { s.host with slot := replyTo r .ok [] } } := by
  obtain ⟨e, hslot⟩ := ht.pending
  have hcur' : (s.withStatusDue false).visit.current = some v := hcur
  have hgive := giveUp_inFlight (s := (s.withStatusDue false).onCurrent (fun v => { v with givenUp := true }))
    (by exact hflight) hq hopen
  have hframe := frame_of_event (changesOnly_then (changesOnly_then
    (onCurrent_frame (s.withStatusDue false) (fun v => { v with givenUp := true }))
    (setSlot_frame _ (.inFlight { q with givenUp := true } id tag d)) (e := [.visits, .slot]) rfl rfl)
    (answer_frame _ .ok []) (e := [.visits, .slot, .command]) rfl rfl)
  rw [State.cancelVisit, hgiven, if_neg (by simp), hgive] at hbody
  rw [answer_pending (r := r) (d := e) (by exact hslot)] at hbody hframe
  refine (command_joined_flags ht hm (joined_of_state hs) hbody hframe rfl ?_).trans ?_
  · simp only [State.ownFlags, State.onCurrent, State.onVisit, withStatusDue_visit, hcur]
    rfl
  · simp only [State.onCurrent, State.onVisit, withStatusDue_visit, hcur]
    rfl

/-- An admission that waits for its retry ends ABANDONED, and its record goes to the history (R130, R131). -/
theorem closeVisit_abandons {q : Request} {d : Nat} (hadmitting : v.admitting = true) (hgiven : v.givenUp = false)
    (hwait : s.claims.slot = .retryWait q d) (hq : q.requester = .visit) (hlevel : s.admissionOk = true)
    (hbody : State.closeCommand r (s.withStatusDue false) = (s.withStatusDue false).cancelVisit v) :
    exec .closeVisit s = .next { s with
      statusDue := false
      visit := { s.visit with
        current := none, history := s.visitHistory { v with givenUp := true } (some (.abandoned, true)) }
      outs := { s.outs with mbsPermit := false }
      claims := { s.claims with slot := .free }
      host := { s.host.join (s.noticeOf .visitNotAdmitted v.visitId 7 0 12) with slot := replyTo r .ok [] } } := by
  obtain ⟨e, hslot⟩ := ht.pending
  have hj : s.joined = true := joined_of_state hs
  have hlevel' : v.overdue = .none := by simpa [State.admissionOk, hcur, hadmitting] using hlevel
  have hcurU : s.dropAdmission.visit.current = some { v with givenUp := true } := by
    show (s.visit.current.map (fun v => { v with givenUp := true })) = _
    rw [hcur]
    rfl
  have hgive : ((s.withStatusDue false).onCurrent (fun v => { v with givenUp := true })).giveUp .visit
      = (s.dropAdmission.retireVisit (some (.abandoned, true))).notify .visitNotAdmitted v.visitId 7 0 12 := by
    rw [giveUp_retryWait (s := (s.withStatusDue false).onCurrent (fun v => { v with givenUp := true }))
      (by exact hwait) hq]
    show s.dropAdmission.report q (Final.bare .abandoned) = _
    simp only [State.report, hq, State.reportVisit, hcurU, hadmitting, if_true]
    rw [if_neg (by simp [Final.bare]), State.refuseVisit]
    simp only [hcurU]
    rfl
  rw [State.cancelVisit, hgiven, if_neg (by simp), hgive] at hbody
  have hframe := frame_of_event (changesOnly_then (changesOnly_then (changesOnly_then (changesOnly_then
    (onCurrent_frame (s.withStatusDue false) (fun v => { v with givenUp := true })) (setSlot_frame _ .free)
    (e := [.visits, .slot]) rfl rfl) (retireVisit_frame s.dropAdmission (some (.abandoned, true)))
    (e := [.visits, .slot, .lamp]) rfl rfl) (notify_frame _ .visitNotAdmitted v.visitId 7 0 12)
    (e := [.visits, .slot, .lamp, .notices]) rfl rfl) (answer_frame _ .ok [])
    (e := [.visits, .slot, .lamp, .notices, .command]) rfl rfl)
  rw [retireVisit_eq hcurU, notify_eq (by exact hj),
    answer_pending (r := r) (d := e) (by exact (join_slot ..).trans hslot)] at hbody hframe
  refine (command_joined_flags ht hm hj hbody hframe rfl ?_).trans rfl
  simp only [State.ownFlags, hcur, Option.any_some, hadmitting, hlevel']
  rfl

end

/-- Settles O51: the refusals of R141 in their order, the two ways of a cancelled admission, and the close. -/
theorem closeVisit : Obligations.CloseVisit := by
  intro r s ht hs hm
  dsimp only
  have reply : ∀ {c : ReplyCode} {b : List Byte}, State.closeCommand r (s.withStatusDue false)
      = (s.withStatusDue false).answer c b → exec .closeVisit s = .next (s.repliedOnly r c b) :=
    fun hb => command_joined_reply ht hm hs hb
  have hbody : State.closeCommand r (s.withStatusDue false) = _ := rfl
  conv at hbody => rhs; unfold State.closeCommand
  simp only [withStatusDue_visit, withStatusDue_pins, not_techOk_iff] at hbody
  simp only [Bool.not_eq_true'] at hbody
  refine examine_step hbody (fun _ h => reply h) fun _ hbody => ?_
  cases hcur : s.visit.current with
  | none => exact reply (hbody.trans (by rw [hcur]; rfl))
  | some v =>
    simp only [hcur] at hbody
    refine examine_step hbody (fun _ h => reply h) fun _ hbody => ?_
    refine examine_step hbody (fun _ h => reply h) fun _ hbody => ?_
    refine examine_step hbody (fun hadmitting hbody => ⟨fun hgiven => ?_, fun q id tag d hgiven hslot hq hopen => ?_,
      fun q d hgiven hslot hq hlevel => ?_⟩) fun _ hbody => ?_
    · exact reply (hbody.trans (by rw [State.cancelVisit, if_pos hgiven]; rfl))
    · exact closeVisit_cancels ht hs hm hcur hgiven hslot hq hopen hbody
    · exact closeVisit_abandons ht hs hm hcur hadmitting hgiven hslot hq hlevel hbody
    · cases hscope : v.scope with
      | cabinet =>
        have hobstacle : (s.withStatusDue false).closeObstacle v = if s.seq.state = .maint then some condMaint else none := by
          simp only [State.closeObstacle, hscope]
          rfl
        have hclose : (s.withStatusDue false).closeVisit v = ((s.withStatusDue false).retireVisit none).notify
            .visitClosed v.visitId v.actions.length (bitIf v.actionsLost 0) ((s.now - v.openedMs) / 60000 : Nat) := by
          simp only [State.closeVisit, hscope]
          rfl
        by_cases hmaint : s.seq.state = .maint
        · simp only [hobstacle, if_pos hmaint] at hbody ⊢
          exact reply hbody
        · simp only [hobstacle, if_neg hmaint, hclose] at hbody ⊢
          exact closeVisit_closes ht hs hcur rfl rfl rfl rfl rfl hbody
      | string k =>
        have hobstacle : (s.withStatusDue false).closeObstacle v
            = if (s.strings[k]?.map (fun x => x.state)) = some .isolated then some condStringIsolated else none := by
          simp only [State.closeObstacle, hscope, stringIs_iff, withStatusDue_strings]
        have hclose : (s.withStatusDue false).closeVisit v
            = (((s.withStatusDue false).release WKind.isService).retireVisit none).notify .visitClosed v.visitId
              v.actions.length (bitIf v.actionsLost 0) ((s.now - v.openedMs) / 60000 : Nat) := by
          simp only [State.closeVisit, hscope]
          rfl
        by_cases hisolated : (s.strings[k]?.map (fun x => x.state)) = some .isolated
        · simp only [hobstacle, if_pos hisolated] at hbody ⊢
          exact reply hbody
        · simp only [hobstacle, if_neg hisolated, hclose] at hbody ⊢
          obtain ⟨hvisit, houts, hhost, hus, hstart⟩ := release_leaves (s.withStatusDue false) WKind.isService
          exact closeVisit_closes ht hs hcur hvisit houts hhost hus hstart hbody

end Sys2Proof.Machine

/-! PROOFS. INV_OK, the lock re-check, and the timers of the sequencer (sections 5.1 and 5.3 to 5.6). -/

namespace Sys2Proof.Machine

-- One proof after another: side by side they ask for more thread stacks than there is memory for.
set_option Elab.async false

variable {s t : State} {f : List Piece}

/-! ### The retransfer timer and the end of a transfer (R106, R109, R113) -/

/-- The retransfer timer runs in FORCED while INV_OK reads 1 and the lock is held (R113). -/
theorem followRetransfer_eq (s : State) : s.followRetransfer = s.withSeq { s.seq with
    retransferAt := if s.seq.state = .forced ∧ s.pins.invOk = true ∧ s.phase.lock = 4
      then some (s.seq.retransferAt.getD (s.now + s.cfg.retransferDelay * 1000)) else none } := by
  have hcond : s.retransferCond = true ↔ s.seq.state = .forced ∧ s.pins.invOk = true ∧ s.phase.lock = 4 := by
    simp [State.retransferCond, State.locked, and_assoc]
  unfold State.followRetransfer
  simp only [hcond]
  by_cases h : s.seq.state = .forced ∧ s.pins.invOk = true ∧ s.phase.lock = 4
  · rw [if_pos h, if_pos h]
    cases hat : s.seq.retransferAt with
    | none => rfl
    | some d =>
      rw [if_pos (by rfl), Option.getD_some, ← hat]
      rfl
  · rw [if_neg h, if_neg h]
    rfl

/-- A release carried out after the sequencer has gone back to ONLINE. -/
theorem goOnline_release (s : State) (c : WKind → Bool) : s.goOnline.release c = { s.release c with
    seq := { s.seq with
      state := .online, prior := none, planned := none, syncAt := none, xfer := none, retransferAt := none }
    outs := { s.outs with xferByp := false, xferInv := false, mbsPermit := false } } := by
  have hsame : s.goOnline.ownOfClass c = s.ownOfClass c := rfl
  cases hw : s.ownOfClass c with
  | none => rw [release_none (hsame.trans hw), release_none hw, goOnline_eq]
  | some w =>
    unfold State.release State.removeEntries
    simp only [hsame.trans hw, hw]
    by_cases hany : s.claims.list.any (fun x => x.isFor s.own w.claimId && c x.kind)
    · rw [if_pos hany, if_pos (by exact hany)]
      rfl
    · rw [if_neg hany, if_neg (by exact hany)]
      rfl

/-- The state that a failed TRANSFER_OUT leaves, on an event state `u` of `s` (R106). -/
def State.failedOut (s : State) (cause : Nat) (u : State) : State := { u.release WKind.isCabinet with
  seq := { s.seq with
    state := .online, prior := none, planned := none, syncAt := none, xfer := none, retransferAt := none }
  outs := { s.outs with xferByp := false, xferInv := false, mbsPermit := false }
  host := s.host.join (s.noticeOf .transferFault s.cabinetId 1 cause 1) }

theorem failTransfer_out (hj : s.joined = true) (hstate : s.seq.state = .transferOut) (c : FaultCause) :
    s.failTransfer c = s.failedOut c.code s := by
  obtain ⟨-, -, hhost, hus, hstart⟩ := release_leaves s.goOnline WKind.isCabinet
  have hjoined : (s.goOnline.release WKind.isCabinet).joined = true :=
    (congrArg (fun x : StartUp => x.state == .joined) hstart).trans hj
  unfold State.failTransfer
  simp only [hstate]
  refine (notify_eq hjoined .transferFault s.cabinetId 1 c.code 1).trans ?_
  rw [hhost, noticeOf_of_clock hus, goOnline_release]
  rfl

/-- The state that a failed TRANSFER_IN leaves (R109). -/
def State.failedIn (s : State) (back : SeqState) (inv : Bool) (cause : Nat) (u : State) : State := { u with
  seq := { s.seq with
    state := back, prior := none, xfer := none
    retransferAt := if back = .forced ∧ inv = true ∧ s.phase.lock = 4
      then some (s.now + s.cfg.retransferDelay * 1000) else none }
  outs := { s.outs with xferByp := false, xferInv := false, mbsPermit := s.cabinetVisitOpen }
  host := s.host.join (s.noticeOf .transferFault s.cabinetId 2 cause back.code) }

/-- The outputs where the sequencer stands in a bypass state. -/
theorem goto_static {x : SeqState} (hx : x.onStatic = true) : s.goto x = { s with
    seq := { s.seq with state := x, xfer := none, retransferAt := none }
    outs := { s.outs with xferByp := false, xferInv := false, mbsPermit := s.cabinetVisitOpen } } := by
  have houts : (x == .transferOut) = false ∧ (x == .transferIn) = false := by
    obtain rfl | rfl | rfl := (onStatic_iff x).mp hx <;> exact ⟨rfl, rfl⟩
  have hpermit : ((s.onSeq (fun q => { q with state := x, xfer := none, retransferAt := none })).onOuts
      (fun o => { o with xferByp := x == .transferOut, xferInv := x == .transferIn })).permitNow = s.cabinetVisitOpen :=
    (congrArg (· && s.cabinetVisitOpen) hx).trans (Bool.true_and _)
  rw [State.goto, State.formPermit, hpermit, houts.1, houts.2]
  rfl

theorem failTransfer_in (hj : s.joined = true) (hstate : s.seq.state = .transferIn) {back : SeqState}
    (hprior : s.seq.prior = some back) (hback : back.onStatic = true) (c : FaultCause) :
    s.failTransfer c = s.failedIn back s.pins.invOk c.code s := by
  unfold State.failTransfer
  simp only [hstate, hprior, Option.getD_some, followRetransfer_eq, goto_static hback]
  exact (notify_eq (by exact hj) ..).trans rfl

/-! ### The lock re-check (R105, R113) -/

theorem lockRecheck_idle (h : s.seq.xfer = none) : s.lockRecheck = s.followRetransfer := by
  simp [State.lockRecheck, h]

theorem lockRecheck_held {x : XferTimer} (h : s.seq.xfer = some x) (hx : x.held = true) : s.lockRecheck = s := by
  simp [State.lockRecheck, h, hx]

theorem lockRecheck_locked {x : XferTimer} (h : s.seq.xfer = some x) (hx : x.held = false) (hlock : s.phase.lock = 4) :
    s.lockRecheck = s.withSeq { s.seq with xfer := some { x with held := true } } := by
  simp [State.lockRecheck, h, hx, State.locked, hlock, State.onSeq]

theorem lockRecheck_lost {x : XferTimer} (h : s.seq.xfer = some x) (hx : x.held = false) (hlock : s.phase.lock ≠ 4) :
    s.lockRecheck = s.failTransfer .syncLost := by
  simp [State.lockRecheck, h, hx, State.locked, hlock]

/-! ### Events of the sequencer -/

theorem failedIn_frame (hstate : s.seq.state = .transferIn) (c : FaultCause) :
    s.ChangesOnly [.requests, .lamp, .sequencer, .notices] (s.failTransfer c) := by
  unfold State.failTransfer
  simp only [hstate]
  exact changesOnly_then (changesOnly_then (changesOnly_then (goto_frame ..) (onSeq_frame ..)
    (e := [.requests, .lamp, .sequencer]) rfl rfl) (followRetransfer_frame _) (e := [.requests, .lamp, .sequencer])
    rfl rfl) (notify_frame ..) rfl rfl

/-- The bypass states show alike, and so does a return from one (R53). -/
theorem shown_static {x : SeqState} (hx : x.onStatic = true) : x.shown = (true, false) := by
  obtain rfl | rfl | rfl := (onStatic_iff x).mp hx <;> rfl

theorem mem_static {x : SeqState} : x ∈ [SeqState.onBypass, .forced, .latched] ↔ x.onStatic = true := by
  simp [onStatic_iff]

/-- A failed TRANSFER_IN is the whole of its event. -/
theorem failedIn_event {g : Bool} {body : State → State} {back : SeqState} {c : FaultCause} (hr : s.running = true)
    (hj : s.joined = true) (hm : s.marginOk = true) (hg : g = true) (hstate : s.seq.state = .transferIn)
    (hprior : s.seq.prior = some back) (hback : back.onStatic = true)
    (hb : body (s.withStatusDue false) = (s.withStatusDue false).failTransfer c) :
    s.event g body = .next (s.failedIn back s.pins.invOk c.code (s.withStatusDue false)) := by
  have heq := failTransfer_in (s := s.withStatusDue false) hj hstate hprior hback c
  have hframe := failedIn_frame (s := s.withStatusDue false) hstate c
  rw [heq] at hframe
  refine event_flags hr hg hm (hb.trans heq) (frame_of_event hframe) rfl ?_
  exact ownFlags_of_seq (frame_of_event hframe) ((shown_static hback).trans (by rw [hstate]; rfl))

/-- The line INV_OK at level `b`. -/
def State.inverterOk (s : State) (b : Bool) : State := s.onPins (fun p => { p with invOk := b })

/-- An event of INV_OK that follows the retransfer condition (R113). -/
theorem invOk_follows {c b : Bool} {body : State → State} (hr : s.running = true) (hm : s.marginOk = true) (hc : c = true)
    (hb : body ((s.inverterOk b).withStatusDue false) = ((s.inverterOk b).withStatusDue false).followRetransfer) :
    s.lineEvent c (fun p => { p with invOk := b }) body = .next { s with
      statusDue := false
      pins := { s.pins with invOk := b }
      seq := { s.seq with
        retransferAt := if s.seq.state = .forced ∧ b = true ∧ s.phase.lock = 4
          then some (s.seq.retransferAt.getD (s.now + s.cfg.retransferDelay * 1000)) else none } } := by
  have heq := hb.trans (followRetransfer_eq _)
  have hframe := frame_of_event (followRetransfer_frame ((s.inverterOk b).withStatusDue false))
  rw [followRetransfer_eq] at hframe
  exact (lineEvent_flags hr rfl hc hm heq hframe rfl (ownFlags_of_seq (s := s.inverterOk b) hframe rfl)).trans rfl

theorem autoRetransfer_eq (hr : s.running = true) (hj : s.joined = true) (hm : s.marginOk = true)
    (hdue : s.isDue s.seq.retransferAt = true) (hforced : s.seq.state = .forced) :
    exec .autoRetransfer s = .next { s with
      statusDue := false
      seq := { s.seq with
        state := .transferIn, prior := some .forced, retransferAt := none
        xfer := some ⟨.into, .sync, false, s.now, s.now + s.cfg.confirmTimeout⟩ }
      outs := { s.outs with xferByp := false, xferInv := true, mbsPermit := false }
      host := s.host.join (s.noticeOf .autoRetransfer s.cabinetId s.cfg.retransferDelay s.phase.angle 0) } := by
  have heq := notify_eq (s := (s.withStatusDue false).startReturn .sync) hj .autoRetransfer s.cabinetId
    s.cfg.retransferDelay s.phase.angle 0
  have hframe : s.ChangesOnly [.sequencer, .requests, .lamp, .notices]
      (((s.withStatusDue false).startReturn .sync).notify .autoRetransfer s.cabinetId s.cfg.retransferDelay
        s.phase.angle 0) :=
    frame_of_event (changesOnly_then (changesOnly_then (changesOnly_then (goto_frame ..) (onSeq_frame ..)
      (e := [.sequencer, .requests, .lamp]) rfl rfl) (startXfer_frame ..) (e := [.sequencer, .requests, .lamp]) rfl rfl)
      (notify_frame ..) rfl rfl)
  rw [heq] at hframe
  refine (event_flags hr (by simp [hforced, hdue]) hm heq hframe rfl
    (ownFlags_of_seq hframe (by rw [hforced]; rfl))).trans ?_
  simp only [State.startReturn, withStatusDue_seq, hforced]
  rfl

theorem bitIf_zero (b : Bool) : ((bitIf b 0 : Nat) : Int) = if b = true then 1 else 0 := by cases b <;> rfl

theorem syncFail_eq (hr : s.running = true) (hj : s.joined = true) (hm : s.marginOk = true)
    (hdue : s.isDue s.seq.syncAt = true) (hwait : s.seq.state = .syncWait) :
    exec .syncFail s = .next { s with
      statusDue := false
      seq := { s.seq with
        state := .online, prior := none, planned := none, syncAt := none, xfer := none, retransferAt := none }
      outs := { s.outs with xferByp := false, xferInv := false, mbsPermit := false }
      host := s.host.join (s.noticeOf .syncFail 0 (if s.phase.lock = 4 then 1 else 0)
        (if s.seq.bypOk then 1 else 0) s.phase.angle) } := by
  have hlock : ((bitIf s.locked 0 : Nat) : Int) = if s.phase.lock = 4 then 1 else 0 := by
    simp [bitIf_zero, State.locked]
  have heq := notify_eq (s := (s.withStatusDue false).goOnline) hj .syncFail 0 (bitIf s.locked 0) (bitIf s.seq.bypOk 0)
    s.phase.angle
  have hframe : s.ChangesOnly [.sequencer, .requests, .lamp, .notices] ((s.withStatusDue false).goOnline.notify
      .syncFail 0 (bitIf s.locked 0) (bitIf s.seq.bypOk 0) s.phase.angle) :=
    frame_of_event (changesOnly_then (goOnline_frame _) (notify_frame ..) rfl rfl)
  rw [heq] at hframe
  refine (event_flags hr (by simp [hwait, hdue]) hm heq hframe rfl
    (ownFlags_of_seq hframe (by rw [hwait]; rfl))).trans ?_
  rw [hlock, bitIf_zero]
  rfl

theorem isDue_of_le {o : Option Nat} (h : ∃ d, o = some d ∧ d ≤ s.now) : s.isDue o = true := by
  obtain ⟨d, rfl, hd⟩ := h
  simpa [State.isDue] using hd

theorem confirmDue_of {x : XferTimer} (hx : s.seq.xfer = some x) (hd : x.expiresAt ≤ s.now) : s.confirmDue = true := by
  simp [State.confirmDue, hx, hd]

/-- Settles O48: each line, timer and re-check by the state it meets. -/
theorem sequencerTimersAndFaults : Obligations.SequencerTimersAndFaults := by
  intro s hr hs
  have hj : s.joined = true := joined_of_state hs
  refine ⟨fun hinv hm => ?_, fun hinv hm => ⟨fun hstate => ?_, fun back hstate hprior hback => ?_⟩,
    fun hdue hforced hm => autoRetransfer_eq hr hj hm (isDue_of_le hdue) hforced,
    fun hdue hwait hm => syncFail_eq hr hj hm (isDue_of_le hdue) hwait, fun x hx hd => ⟨fun back hstate hprior hback hm => ?_,
      fun hstate => ?_⟩, fun hx => ?_, fun x hx => ⟨fun hheld => lockRecheck_held hx hheld,
        fun hheld hlock => lockRecheck_locked hx hheld hlock, fun hheld hlock hstate => ?_,
        fun back hheld hlock hstate hprior hback => ?_⟩⟩
  · exact invOk_follows hr hm (by simp [hinv]) (if_pos hj)
  · refine (invOk_follows (b := false) hr hm hinv ((if_pos hj).trans (if_neg hstate))).trans ?_
    rw [if_neg (by simp)]
  · exact (if_pos hinv).trans ((failedIn_event (s := s.inverterOk false) (c := .invFault) (by exact hr) hj
      (onPins_marginOk _ hm) rfl hstate hprior (mem_static.mp hback) ((if_pos hj).trans (if_pos hstate))).trans rfl)
  · exact failedIn_event (c := .confirmTimeout) (body := fun s => s.failTransfer .confirmTimeout) hr hj hm
      (confirmDue_of hx hd) hstate hprior (mem_static.mp hback) rfl
  · exact event_ends hr (confirmDue_of hx hd) (failTransfer_out (s := s.withStatusDue false) hj hstate .confirmTimeout)
  · exact (lockRecheck_idle hx).trans (followRetransfer_eq s)
  · exact (lockRecheck_lost hx hheld hlock).trans (failTransfer_out hj hstate .syncLost)
  · exact (lockRecheck_lost hx hheld hlock).trans (failTransfer_in hj hstate hprior (mem_static.mp hback) .syncLost)

end Sys2Proof.Machine

/-! PROOFS. The switch line SS_FB: before JOIN, and its fall in every state of the sequencer (sections 5.5, 5.6 and
5.8). -/

namespace Sys2Proof.Machine

-- One proof after another: side by side they ask for more thread stacks than there is memory for.
set_option Elab.async false

variable {s t : State} {f : List Piece}

/-! ### A switch line before JOIN and where nothing follows (R99, R119) -/

theorem lineEvent_ends {c : Bool} {set : Pins → Pins} {body : State → State} (hr : s.running = true)
    (hset : (set s.pins).resetN = s.pins.resetN) (hc : c = true) (hb : body ((s.onPins set).withStatusDue false) = t) :
    s.lineEvent c set body = .next (s.ends t) := by
  have hr' : (s.onPins set).running = true := by
    rw [← hr]
    simp only [State.running, State.onPins, State.withPins, hset]
  rw [State.lineEvent, if_pos hc]
  exact (event_ends hr' rfl hb).trans rfl

section
variable {c : Bool} {set : Pins → Pins} {body : State → State} (hr : s.running = true)
  (hset : (set s.pins).resetN = s.pins.resetN) (hc : c = true)
include hr hset hc

/-- In LOADING and CONFIG_FAULT a switch line moves its level alone. -/
theorem onSwitch_level (hs : s.startup.state = .loading ∨ s.startup.state = .configFault) :
    s.lineEvent c set (fun s => s.onSwitch body) = .next ((s.onPins set).withStatusDue false) := by
  have hj : s.joined = false := not_joined_of_state (by rcases hs with hs | hs <;> simp [hs])
  have hbody : ((s.onPins set).withStatusDue false).onSwitch body = (s.onPins set).withStatusDue false := by
    have hs' : ((s.onPins set).withStatusDue false).startup.state = .loading
        ∨ ((s.onPins set).withStatusDue false).startup.state = .configFault := hs
    unfold State.onSwitch
    rcases hs' with hs | hs <;> rw [hs]
  exact lineEvent_flags hr hset hc (marginOk_of_not_joined hj) hbody (withStatusDue_frame ..) rfl rfl

/-- In the start window a switch line forms `found` (R119). -/
theorem onSwitch_found (hs : s.startup.state = .startWindow) :
    s.lineEvent c set (fun s => s.onSwitch body)
      = .next (((s.onPins set).withStatusDue false).withSeq { s.seq with found := (set s.pins).found }) := by
  have hj : s.joined = false := not_joined_of_state (by simp [hs])
  have hs' : ((s.onPins set).withStatusDue false).startup.state = .startWindow := hs
  have hbody : ((s.onPins set).withStatusDue false).onSwitch body
      = ((s.onPins set).withStatusDue false).onSeq (fun q => { q with found := (set s.pins).found }) := by
    unfold State.onSwitch
    rw [hs']
    rfl
  have hframe : (s.onPins set).ChangesOnly [.sequencer]
      (((s.onPins set).withStatusDue false).onSeq (fun q => { q with found := (set s.pins).found })) :=
    frame_of_event (onSeq_frame ..)
  exact lineEvent_flags hr hset hc (marginOk_of_not_joined hj) hbody hframe rfl
    (ownFlags_of_seq (s := s.onPins set) hframe rfl)

/-- From JOIN onward the sequencer acts on a switch line (R99). -/
theorem onSwitch_joined (hs : s.startup.state = .joined)
    (hb : body ((s.onPins set).withStatusDue false) = t) :
    s.lineEvent c set (fun s => s.onSwitch body) = .next (s.ends t) := by
  have hs' : ((s.onPins set).withStatusDue false).startup.state = .joined := hs
  refine lineEvent_ends hr hset hc ?_
  unfold State.onSwitch
  rw [hs']
  exact hb

/-- Where the sequencer does nothing, the level is all that moves. -/
theorem onSwitch_quiet (hs : s.startup.state = .joined) (hm : s.marginOk = true)
    (hb : body ((s.onPins set).withStatusDue false) = (s.onPins set).withStatusDue false) :
    s.lineEvent c set (fun s => s.onSwitch body) = .next ((s.onPins set).withStatusDue false) := by
  have hs' : ((s.onPins set).withStatusDue false).startup.state = .joined := hs
  refine lineEvent_flags hr hset hc hm ?_ (withStatusDue_frame ..) rfl rfl
  unfold State.onSwitch
  rw [hs']
  exact hb

end

/-! ### A fall of SS_FB (R109, R114) -/

/-- Back ONLINE with the cabinet's entry released, and a notice of it. -/
theorem release_goOnline_notify (hj : s.joined = true) (k : NoticeKind) (a b c d : Int) :
    (s.release WKind.isCabinet).goOnline.notify k a b c d = { s.release WKind.isCabinet with
      seq := { s.seq with
        state := .online, prior := none, planned := none, syncAt := none, xfer := none, retransferAt := none }
      outs := { s.outs with xferByp := false, xferInv := false, mbsPermit := false }
      host := s.host.join (s.noticeOf k a b c d) } := by
  obtain ⟨-, houts, hhost, hus, hstart⟩ := release_leaves s WKind.isCabinet
  have hseq : (s.release WKind.isCabinet).seq = s.seq := (release_frame ..).kept .sequencer (by decide)
  have hjoined : (s.release WKind.isCabinet).goOnline.joined = true :=
    (congrArg (fun x : StartUp => x.state == .joined) hstart).trans hj
  have hnotice : (s.release WKind.isCabinet).goOnline.noticeOf k a b c d = s.noticeOf k a b c d :=
    noticeOf_of_clock (by exact hus) k a b c d
  have hhost' : (s.release WKind.isCabinet).goOnline.host = s.host := hhost
  rw [notify_eq hjoined, hnotice, hhost', goOnline_eq, hseq, houts]
  rfl

theorem switchToInverter_done (hstate : s.seq.state = .transferIn) {x : XferTimer}
    (hx : s.seq.xfer = some x) : s.switchToInverter
      = (s.release WKind.isCabinet).goOnline.notify .transferDone s.cabinetId 2 (s.now - x.since : Nat) 1 := by
  unfold State.switchToInverter
  simp only [hstate, State.sinceAssertion, hx]
  rfl

theorem switchToInverter_static (hstatic : s.seq.state.onStatic = true) : s.switchToInverter = s.unexpectedReturn := by
  unfold State.switchToInverter
  obtain h | h | h := (onStatic_iff _).mp hstatic <;> rw [h]

theorem switchToInverter_quiet (h : s.seq.state ∈ [SeqState.online, .syncWait, .claiming, .transferOut, .maint]) :
    s.switchToInverter = s := by
  unfold State.switchToInverter
  simp only [List.mem_cons, List.not_mem_nil, or_false] at h
  obtain h | h | h | h | h := h <;> rw [h]

/-- An event's state in which SS_FB has gone to level `b`. -/
def State.switched (s : State) (b : Bool) : State := (s.onPins (fun p => { p with ssFb := b })).withStatusDue false

/-- Settles O46: the fall of SS_FB by the start-up state and the state of the sequencer. -/
theorem switchToInverter : Obligations.SwitchToInverter := by
  intro s hr hlevel
  refine ⟨fun hs => onSwitch_level hr rfl hlevel hs, fun hs => onSwitch_found hr rfl hlevel hs,
    fun hs hm hstate => onSwitch_quiet hr rfl hlevel hs hm (switchToInverter_quiet hstate),
    fun x hs hstate hx => ?_, fun hs hstate => ?_⟩
  · exact onSwitch_joined hr rfl hlevel hs ((switchToInverter_done (s := s.switched false) hstate hx).trans
      (release_goOnline_notify (s := s.switched false) (joined_of_state hs) ..))
  · exact onSwitch_joined hr rfl hlevel hs ((switchToInverter_static (s := s.switched false)
      (mem_static.mp hstate)).trans (release_goOnline_notify (s := s.switched false) (joined_of_state hs) ..))

end Sys2Proof.Machine

/-! PROOFS. What an abort of a test and the end of an event leave in their place (sections 2.3, 3.2 and 3.6). -/

namespace Sys2Proof.Machine

-- One proof after another: side by side they ask for more thread stacks than there is memory for.
set_option Elab.async false

variable {s t u : State}

/-- The request in the slot, if there is one, is none of the ageing unit. -/
def State.slotOfOthers (s : State) : Prop := ∀ q, s.claims.slot.request = some q → q.requester ≠ .ageing

/-- What was told, sent and entered in `s` stands in `t`, but for a TEST withdrawal; the job and the records are as
they were where no test is claimed or runs. -/
structure State.Keeps (s t : State) : Prop where
  notices : s.host.notices <+: t.host.notices
  sends : ∀ {k id body}, k ≠ .status → s.sends k id body → t.sends k id body
  entries : ∀ w ∈ s.claims.list, w.kind ≠ .test → w ∈ t.claims.list
  idle : s.job.state = .idle → t.job = s.job ∧ t.strings = s.strings

/-- So does a slot that is not the ageing unit's. -/
structure State.Abides (s t : State) : Prop extends s.Keeps t where
  slot : s.slotOfOthers → t.claims.slot = s.claims.slot

theorem keeps_trans (h : s.Keeps t) (k : t.Keeps u) : s.Keeps u where
  notices := h.notices.trans k.notices
  sends hk hs := k.sends hk (h.sends hk hs)
  entries w hw hn := k.entries w (h.entries w hw hn) hn
  idle hi := by
    obtain ⟨hjob, hstrings⟩ := h.idle hi
    obtain ⟨hjob', hstrings'⟩ := k.idle (by rw [hjob]; exact hi)
    exact ⟨hjob'.trans hjob, hstrings'.trans hstrings⟩

theorem abides_refl (s : State) : s.Abides s :=
  ⟨⟨List.prefix_refl _, fun _ h => h, fun _ h _ => h, fun _ => ⟨rfl, rfl⟩⟩, fun _ => rfl⟩

theorem abides_trans (h : s.Abides t) (k : t.Abides u) : s.Abides u where
  toKeeps := keeps_trans h.toKeeps k.toKeeps
  slot hs := (k.slot (fun q hq => hs q (by rw [← h.slot hs]; exact hq))).trans (h.slot hs)

/-- The pieces that what is kept is made of. -/
def keptPieces : List Piece := [.notices, .ownQueue, .image, .withdrawals, .job, .strings]

theorem keeps_of_frame {f : List Piece} (h : s.ChangesOnly f t)
    (hf : f.all (fun p => !keptPieces.contains p) = true := by rfl) : s.Keeps t := by
  have kept : ∀ p ∈ keptPieces, p.kept s t := fun p hp => h.kept p fun hpf => by
    have := List.all_eq_true.mp hf p hpf
    simp [hp] at this
  obtain ⟨hnotices, -⟩ := kept .notices (by decide)
  obtain ⟨hqueue, -⟩ := kept .ownQueue (by decide)
  obtain ⟨hlist, -⟩ := kept .withdrawals (by decide)
  have himage : t.image = s.image := kept .image (by decide)
  exact ⟨hnotices ▸ List.prefix_refl _, fun _ hs => sends_of_kept hs hqueue himage, fun w hw _ => hlist ▸ hw,
    fun _ => ⟨kept .job (by decide), kept .strings (by decide)⟩⟩

theorem abides_of_frame {f : List Piece} (h : s.ChangesOnly f t)
    (hf : f.all (fun p => !keptPieces.contains p) = true := by rfl) (hs : f.contains .slot = false := by rfl) :
    s.Abides t := ⟨keeps_of_frame h hf, fun _ => h.kept .slot (by simpa using hs)⟩

theorem notify_abides (s : State) (k : NoticeKind) (a b c d : Int) : s.Abides (s.notify k a b c d) := by
  have hframe := notify_frame s k a b c d
  obtain ⟨hqueue, -⟩ := hframe.kept .ownQueue (by decide)
  obtain ⟨hlist, -⟩ := hframe.kept .withdrawals (by decide)
  exact ⟨⟨(notify_grows s k a b c d).notices, fun _ hs => sends_of_kept hs hqueue (hframe.kept .image (by decide)),
    fun w hw _ => hlist ▸ hw, fun _ => ⟨hframe.kept .job (by decide), hframe.kept .strings (by decide)⟩⟩,
    fun _ => hframe.kept .slot (by decide)⟩

theorem queueStatus_abides (s : State) : s.Abides s.queueStatus := by
  have hframe := queueStatus_frame s
  obtain ⟨hlist, -⟩ := hframe.kept .withdrawals (by decide)
  exact ⟨⟨by rw [queueStatus_host], fun hk hs => sends_queueStatus hs hk, fun w hw _ => hlist ▸ hw,
    fun _ => ⟨hframe.kept .job (by decide), hframe.kept .strings (by decide)⟩⟩, fun _ => hframe.kept .slot (by decide)⟩

/-! ### An abort of a test (R41, R45) -/

theorem isTest_iff (k : WKind) : WKind.isTest k = true ↔ k = .test := by cases k <;> simp [WKind.isTest]

/-- A release leaves the entries of other classes, and the frames that were sent. -/
theorem release_entries (s : State) (c : WKind → Bool) : ∀ w ∈ s.claims.list, c w.kind = false →
    w ∈ (s.release c).claims.list := by
  intro w hw hc
  cases hown : s.ownOfClass c with
  | none => rw [release_none hown]; exact hw
  | some x =>
    rw [release_list hown]
    exact List.mem_filter.mpr ⟨hw, by simp [hc]⟩

theorem release_keeps_sends (s : State) (c : WKind → Bool) {k : FrameKind} {id : Nat} {body : List Byte}
    (hk : k ≠ .status) (h : s.sends k id body) : (s.release c).sends k id body := by
  cases hown : s.ownOfClass c with
  | none => rw [release_none hown]; exact h
  | some x =>
    have hframe := removeEntries_frame s (fun y => y.isFor s.own x.claimId && c y.kind)
    unfold State.release
    simp only [hown]
    exact sends_of_frame (sends_queueOwn (sends_of_frame h hframe rfl) hk .drop x.claimId _) (markStatus_frame _) rfl

theorem endTest_abides (s : State) (v : Verdict) (hrun : s.job.state = .running) : s.Abides (s.endTest v) := by
  have hrest := endTest_afterRelease s v
  have hframe := endTest_frame s v
  refine ⟨⟨(endTest_grows s v).notices, fun hk hs => ?_, fun w hw hn => ?_,
    fun hidle => absurd (hrun.symm.trans hidle) (by decide)⟩, fun _ => hframe.kept .slot (by decide)⟩
  · exact sends_of_frame (release_keeps_sends _ _ hk (by exact hs)) hrest rfl
  · rw [(hrest.kept .withdrawals (by decide)).1]
    exact release_entries _ _ w hw (by
      rw [← Bool.not_eq_true, isTest_iff]
      exact hn)

/-- A test given up while it is claimed leaves the list, and a slot that is another's. -/
theorem abortTest_claiming_claims {c : AbortCause} (h : s.job.state = .claiming) :
    (s.abortTest c).claims.list = s.claims.list ∧ (s.slotOfOthers → (s.abortTest c).claims.slot = s.claims.slot) := by
  cases hgiven : s.job.givenUp with
  | some d => simp [State.abortTest, h, hgiven]
  | none =>
    have habort : s.abortTest c = (s.withJob { s.job with givenUp := some c }).giveUp .ageing := by
      simp only [State.abortTest, h, hgiven]
    rw [habort]
    cases hslot : s.claims.slot with
    | free => simp [State.giveUp, hslot]
    | inFlight q id tag d =>
      simp only [State.giveUp, withJob_claims, hslot]
      by_cases hq : q.requester = .ageing ∧ q.givenUp = false
      · rw [if_pos hq]
        exact ⟨rfl, fun ho => absurd hq.1 (ho q (by rw [hslot]; rfl))⟩
      · rw [if_neg hq]
        exact ⟨rfl, fun _ => hslot⟩
    | retryWait q d =>
      by_cases hq : q.requester = .ageing
      · rw [← habort, abortTest_of_retryWait h hgiven hq hslot]
        refine ⟨?_, fun ho => absurd hq (ho q (by rw [hslot]; rfl))⟩
        exact (((notify_frame ..).kept .withdrawals (by decide)).1).trans rfl
      · simp [State.giveUp, hslot, hq]

theorem abortTest_ends (c : AbortCause) (h : s.job.state = .running) : s.abortTest c = s.endTest c.verdict := by
  simp only [State.abortTest, h]

theorem abortTest_abides (s : State) (c : AbortCause) : s.Abides (s.abortTest c) := by
  cases h : s.job.state with
  | idle => rw [abortTest_idle s c h]; exact abides_refl s
  | running => rw [abortTest_ends c h]; exact endTest_abides s _ h
  | claiming =>
    obtain ⟨hgrows, hloop⟩ := abortTest_claiming (c := c) h
    obtain ⟨hlist, hslot⟩ := abortTest_claiming_claims (c := c) h
    exact ⟨⟨hgrows.notices, fun _ hs => sends_of_kept hs (by rw [hloop]) ((abortTest_frame s c).kept .image (by decide)),
      fun w hw _ => hlist ▸ hw, fun hidle => absurd (h.symm.trans hidle) (by decide)⟩, hslot⟩

/-- A test that ran is over where it was aborted. -/
theorem abortTest_over (s : State) (c : AbortCause) (h : s.job.state = .running) :
    (s.abortTest c).job.state = .idle := by
  rw [abortTest_ends c h, (endTest_job s _).1]
  rfl

/-! ### The end of an event (R55, R67, R68) -/

theorem marginStep_abides (hj : s.joined = true) : s.Abides s.marginStep := by
  by_cases h : s.marginNow = s.view.margin
  · rw [marginStep_same h]
    exact abides_of_frame (figured_frame s)
  · have htold : s.Abides s.marginTold := by
      have hframe := marginTold_frame s
      obtain ⟨hqueue, -⟩ := hframe.kept .ownQueue (by decide)
      obtain ⟨hlist, -⟩ := hframe.kept .withdrawals (by decide)
      exact ⟨⟨(marginTold_grows s).notices, fun _ hs => sends_of_kept hs hqueue (hframe.kept .image (by decide)),
        fun w hw _ => hlist ▸ hw, fun _ => ⟨hframe.kept .job (by decide), hframe.kept .strings (by decide)⟩⟩,
        fun _ => hframe.kept .slot (by decide)⟩
    rw [marginStep_changed hj h]
    split
    · exact abides_trans htold (abortTest_abides ..)
    · exact htold

theorem evalMargin_abides (s : State) : s.Abides s.evalMargin := by
  by_cases hj : s.joined = true
  · have hfirst := marginStep_abides hj
    have hj' : s.marginStep.joined = true := (joined_of_frame (marginStep_frame s)).trans hj
    rw [State.evalMargin, if_pos hj]
    simp only
    split
    · exact hfirst
    · exact abides_trans hfirst (marginStep_abides hj')
  · rw [evalMargin_beforeJoin (Bool.eq_false_iff.mpr hj)]
    exact abides_refl s

theorem finish_abides (s0 s : State) : s.Abides (State.finish s0 s) := by
  unfold State.finish
  simp only
  split
  · exact abides_trans (evalMargin_abides s) (queueStatus_abides _)
  · exact evalMargin_abides s

/-- What stands in the queue of notices at the end of an event's own effect stands in it when the event has ended. -/
theorem raised_of_abides {l : List Notice} (hh : u.host = s.host.joinAll l) (h : u.Abides t) : s.raised l t := by
  unfold State.raised
  rw [← hh]
  exact h.notices

end Sys2Proof.Machine

/-! PROOFS. A forced withdrawal of the cabinet: its entry, its frame, and the steps that every one begins with
(sections 4.6 and 5.4). -/

namespace Sys2Proof.Machine

-- One proof after another: side by side they ask for more thread stacks than there is memory for.
set_option Elab.async false

variable {s t u : State}

/-! ### The entry and its FORCED frame (R92) -/

/-- An own entry that joins the list is found by its class where none of the class stood. -/
theorem ownOfClass_addOwn {c : WKind → Bool} (hnone : s.ownOfClass c = none) {w : Withdrawal} (ho : w.owner = s.own)
    (hc : c w.kind = true) : (s.addOwnEntry w).ownOfClass c = some w := by
  have hlist : (s.addOwnEntry w).ownWithdrawals = s.ownWithdrawals ++ [w] := by
    show (s.claims.list ++ [w]).filter (fun x => x.owner == s.own) = _
    rw [List.filter_append]
    simp [State.ownWithdrawals, ho]
  rw [State.ownOfClass, hlist, List.find?_append, show s.ownWithdrawals.find? (fun w => c w.kind) = none from hnone]
  simp [hc]

/-- The entry a forced withdrawal is recorded as, where the cabinet had none. -/
theorem recordForced_new (hnone : s.ownOfClass WKind.isCabinet = none) :
    s.forcedEntry ∈ s.recordForced.claims.list
    ∧ s.recordForced.ownOfClass WKind.isCabinet = some s.forcedEntry
    ∧ (s.loop.queue.length < 8 →
        s.recordForced.sends .forced s.newClaimId (le8 s.newClaimId ++ le8 17 ++ [0#8])) := by
  have henter : s.enterForced
      = (s.onClaims (fun c => { c with lastId := s.newClaimId })).addOwnEntry s.forcedEntry := by
    unfold State.enterForced
    rw [hnone]
    rfl
  have hown : s.enterForced.ownOfClass WKind.isCabinet = some s.forcedEntry := by
    rw [henter]
    exact ownOfClass_addOwn (s := s.onClaims (fun c => { c with lastId := s.newClaimId })) hnone rfl rfl
  have hrecord : s.recordForced = s.enterForced.sendForced s.forcedEntry := by
    unfold State.recordForced State.announceForced
    rw [hown]
  have hmem : s.forcedEntry ∈ s.enterForced.claims.list := by
    rw [henter]
    exact List.mem_append_right _ (List.mem_singleton.mpr rfl)
  rw [hrecord]
  refine ⟨hmem, ?_, fun hroom => ?_⟩
  · rw [ownOfClass_of_frame (sendForced_frame ..)]
    exact hown
  · refine queueOwn_sends _ .forced s.newClaimId _ ?_
    rw [henter]
    exact hroom

/-! ### The sequencer's own request superseded (R110 step 3) -/

/-- A superseded request of the sequencer that is given up: its slot, and the notice of one that waited. -/
theorem giveUp_superseded (hsup : s.seq.superseded = true) :
    s.ChangesOnly [.slot, .sequencer, .notices] (s.giveUp .sequencer) ∧ s.Keeps (s.giveUp .sequencer) := by
  unfold State.giveUp
  cases hslot : s.claims.slot with
  | free => exact ⟨changesOnly_refl .., (abides_refl s).toKeeps⟩
  | inFlight q id tag d =>
    simp only
    split
    · exact ⟨changesOnly_mono (setSlot_frame ..) rfl, keeps_of_frame (setSlot_frame ..)⟩
    · exact ⟨changesOnly_refl .., (abides_refl s).toKeeps⟩
  | retryWait q d =>
    simp only
    split
    · rename_i hq
      have hsup' : (s.setSlot .free).seq.superseded = true := hsup
      have hreport : s.finalOutcome q (Final.bare .abandoned)
          = ((s.setSlot .free).onSeq (fun q => { q with pending := false, superseded := false })).transferResult
              q.lastId resultSuperseded ClaimOutcome.abandoned.code 0 := by
        simp only [State.finalOutcome, State.report, hq, State.reportSeq, hsup', if_true, Final.bare]
        rfl
      have hfirst := changesOnly_then (setSlot_frame s .free)
        (onSeq_frame (s.setSlot .free) (fun q => { q with pending := false, superseded := false }))
        (e := [.slot, .sequencer, .notices]) rfl rfl
      rw [hreport]
      exact ⟨changesOnly_then hfirst (notify_frame ..) rfl rfl,
        keeps_trans (keeps_of_frame (changesOnly_then (setSlot_frame s .free)
          (onSeq_frame (s.setSlot .free) (fun q => { q with pending := false, superseded := false }))
          (e := [.slot, .sequencer]) rfl rfl)) (notify_abides ..).toKeeps⟩
    · exact ⟨changesOnly_refl .., (abides_refl s).toKeeps⟩

/-- Its slot and marks where the claim is in flight. -/
theorem giveUp_superseded_inFlight {q : Request} {id tag d : Nat} (hslot : s.claims.slot = .inFlight q id tag d)
    (hq : q.requester = .sequencer) : (s.giveUp .sequencer).claims.slot = .inFlight { q with givenUp := true } id tag d
      ∧ (s.giveUp .sequencer).seq = s.seq := by
  cases hgiven : q.givenUp with
  | false => rw [giveUp_inFlight hslot hq hgiven]; exact ⟨rfl, rfl⟩
  | true =>
    have hsame : q = { q with givenUp := true } := by rw [← hgiven]
    rw [← hsame]
    simp [State.giveUp, hslot, hgiven]

/-- Its slot and marks where it waits for its retry. -/
theorem giveUp_superseded_retryWait {q : Request} {d : Nat} (hsup : s.seq.superseded = true)
    (hslot : s.claims.slot = .retryWait q d) (hq : q.requester = .sequencer) :
    (s.giveUp .sequencer).claims.slot = .free
    ∧ (s.giveUp .sequencer).seq = { s.seq with pending := false, superseded := false } := by
  have hsup' : (s.setSlot .free).seq.superseded = true := hsup
  rw [giveUp_retryWait hslot hq]
  simp only [State.report, hq, State.reportSeq, hsup', if_true]
  exact ⟨(notify_frame ..).kept .slot (by decide), (notify_frame ..).kept .sequencer (by decide)⟩

/-! ### Steps 1 to 3 of R110 -/

/-- The withdrawal recorded, and a test ended or given up. -/
def State.forcedRecord (s : State) : State := s.recordForced.abortTest .bypass

theorem forcedRecord_seq (s : State) : s.forcedRecord.seq = s.seq :=
  ((abortTest_frame ..).kept .sequencer (by decide)).trans ((recordForced_frame s).kept .sequencer (by decide))

theorem forcedSteps_syncWait (h : s.seq.state = .syncWait) : s.forcedSteps
    = (s.forcedRecord.onSeq (fun q => { q with syncAt := none })).transferResult 0 resultSuperseded 0 0 := by
  simp only [State.forcedSteps, h]
  rfl

theorem forcedSteps_claiming (h : s.seq.state = .claiming) : s.forcedSteps
    = (s.forcedRecord.onSeq (fun q => { q with superseded := true })).giveUp .sequencer := by
  simp only [State.forcedSteps, h]
  rfl

theorem forcedSteps_else (hw : s.seq.state ≠ .syncWait) (hc : s.seq.state ≠ .claiming) :
    s.forcedSteps = s.forcedRecord := by
  unfold State.forcedSteps
  split
  · rename_i h; exact absurd h hw
  · rename_i h; exact absurd h hc
  all_goals rfl

/-- What the steps change behind the record of the withdrawal. -/
theorem forcedSteps_afterRecord (s : State) : s.forcedRecord.ChangesOnly [.slot, .sequencer, .notices] s.forcedSteps
    ∧ s.forcedRecord.Keeps s.forcedSteps := by
  by_cases hw : s.seq.state = .syncWait
  · rw [forcedSteps_syncWait hw]
    exact ⟨changesOnly_then (onSeq_frame ..) (notify_frame ..) rfl rfl,
      keeps_trans (keeps_of_frame (onSeq_frame ..)) (notify_abides ..).toKeeps⟩
  by_cases hc : s.seq.state = .claiming
  · rw [forcedSteps_claiming hc]
    obtain ⟨hframe, hkeeps⟩ := giveUp_superseded
      (s := s.forcedRecord.onSeq (fun q => { q with superseded := true })) rfl
    exact ⟨changesOnly_then (onSeq_frame ..) hframe rfl rfl, keeps_trans (keeps_of_frame (onSeq_frame ..)) hkeeps⟩
  · rw [forcedSteps_else hw hc]
    exact ⟨changesOnly_refl .., (abides_refl _).toKeeps⟩

theorem forcedRecord_idle (h : s.job.state = .idle) : s.forcedRecord = s.recordForced :=
  abortTest_idle _ _ (by rw [show s.recordForced.job = s.job from (recordForced_frame s).kept .job (by decide)]; exact h)

/-- The steps where no test is claimed or runs. -/
theorem forcedSteps_frame_idle (h : s.job.state = .idle) :
    s.ChangesOnly [.withdrawals, .claimIds, .ownQueue, .slot, .sequencer, .notices] s.forcedSteps := by
  have hrest := (forcedSteps_afterRecord s).1
  rw [forcedRecord_idle h] at hrest
  exact changesOnly_then (recordForced_frame s) hrest rfl rfl

/-- The steps whatever test there is. -/
theorem forcedSteps_frame (s : State) : s.ChangesOnly (.claimIds :: .sequencer :: abortPieces) s.forcedSteps :=
  changesOnly_then (changesOnly_then (recordForced_frame s) (abortTest_frame ..) (e := .claimIds :: abortPieces)
    rfl rfl) (forcedSteps_afterRecord s).1 rfl rfl

/-- What the steps leave of the entries and the frames that the record has made. -/
theorem forcedSteps_keeps (s : State) : s.recordForced.Keeps s.forcedSteps :=
  keeps_trans (abortTest_abides ..).toKeeps (forcedSteps_afterRecord s).2

/-- A test that ran is over, with its verdict (R45, R110). -/
theorem forcedSteps_test (hj : s.joined = true) (hrun : s.job.state = .running) :
    s.forcedSteps.job.state = .idle ∧ (∀ x l, s.strings[s.job.k]? = some x → x.lastTest = some l →
      ∃ y l', s.forcedSteps.strings[s.job.k]? = some y ∧ y.lastTest = some l'
        ∧ l'.verdict = some .abortedBypass ∧ y.state = .inService) := by
  have hrecord := recordForced_frame s
  have hjob : s.recordForced.job = s.job := hrecord.kept .job (by decide)
  have hrun' : s.recordForced.job.state = .running := by rw [hjob]; exact hrun
  obtain ⟨hover, hstrings⟩ := (forcedSteps_afterRecord s).2.idle (abortTest_over _ .bypass hrun')
  refine ⟨by rw [hover]; exact abortTest_over _ .bypass hrun', fun x l hx hl => ?_⟩
  have hx' : s.recordForced.strings[s.recordForced.job.k]? = some x := by
    rw [hjob, strings_of_frame hrecord]
    exact hx
  have hend := endTest_strings hx' .abortedBypass ((joined_of_frame hrecord).trans hj)
  have hgiven := verdictGiven_other hl (s.recordForced.params s.recordForced.job.k) s.recordForced.hostSilent
    s.recordForced.now (v := .abortedBypass) (by decide) (by simp)
  have hk : s.recordForced.job.k < s.recordForced.strings.length := (List.getElem?_eq_some_iff.mp hx').1
  rw [hstrings, State.forcedRecord, abortTest_ends .bypass hrun', show AbortCause.bypass.verdict = .abortedBypass from rfl,
    hend, hgiven]
  refine ⟨_, _, by rw [← hjob]; exact List.getElem?_set_self hk, rfl, rfl, rfl⟩

end Sys2Proof.Machine

/-! PROOFS. The rise of SS_FB in every state of the sequencer (sections 5.3 to 5.6). -/

namespace Sys2Proof.Machine

-- One proof after another: side by side they ask for more thread stacks than there is memory for.
set_option Elab.async false

variable {s t u : State}

/-! ### Entry to a bypass state (R106, R110) -/

/-- A bypass state entered while the maintenance bypass is open. -/
theorem enterStatic_eq (hopen : s.pins.mbsClosed = false) {x : SeqState} (hx : x.onStatic = true) :
    s.enterStatic x = { s with
      seq := { s.seq with
        state := x, prior := none, xfer := none
        retransferAt := if x = .forced ∧ s.pins.invOk = true ∧ s.phase.lock = 4
          then some (s.now + s.cfg.retransferDelay * 1000) else none }
      outs := { s.outs with xferByp := false, xferInv := false, mbsPermit := s.cabinetVisitOpen } } := by
  unfold State.enterStatic
  simp only [hopen, Bool.false_eq_true, if_false, goto_static hx, followRetransfer_eq]
  rfl

theorem enterStatic_frame_open (hopen : s.pins.mbsClosed = false) (x : SeqState) :
    s.ChangesOnly [.sequencer, .requests, .lamp] (s.enterStatic x) := by
  unfold State.enterStatic
  simp only [hopen, Bool.false_eq_true, if_false]
  exact changesOnly_then (changesOnly_then (goto_frame ..) (onSeq_frame ..) (e := [.sequencer, .requests, .lamp])
    rfl rfl) (followRetransfer_frame _) rfl rfl

/-- A TRANSFER_OUT that completes (R106). -/
theorem switchToBypass_done (hj : s.joined = true) (hstate : s.seq.state = .transferOut) {x : XferTimer}
    (hx : s.seq.xfer = some x) (hopen : s.pins.mbsClosed = false) : s.switchToBypass = { s with
      seq := { s.seq with state := .onBypass, prior := none, xfer := none, retransferAt := none }
      outs := { s.outs with xferByp := false, xferInv := false, mbsPermit := s.cabinetVisitOpen }
      host := s.host.join (s.noticeOf .transferDone s.cabinetId 1 (s.now - x.since : Nat) 5) } := by
  have hdone : s.transferDone s.cabinetId .out s.sinceAssertion SeqState.onBypass.code
      = s.withHost (s.host.join (s.noticeOf .transferDone s.cabinetId 1 (s.now - x.since : Nat) 5)) := by
    rw [show s.sinceAssertion = s.now - x.since by simp only [State.sinceAssertion, hx]]
    exact notify_eq hj ..
  unfold State.switchToBypass
  simp only [hstate, hdone]
  exact (enterStatic_eq (s := s.withHost (s.host.join (s.noticeOf .transferDone s.cabinetId 1 (s.now - x.since : Nat) 5)))
    hopen rfl).trans rfl

theorem switchToBypass_quiet (h : s.seq.state ∈ [SeqState.onBypass, .forced, .latched, .maint, .transferIn]) :
    s.switchToBypass = s := by
  unfold State.switchToBypass
  simp only [List.mem_cons, List.not_mem_nil, or_false] at h
  obtain h | h | h | h | h := h <;> rw [h]

theorem switchToBypass_forced (h : s.seq.state ∈ [SeqState.online, .syncWait, .claiming]) :
    s.switchToBypass = s.forcedTransfer := by
  unfold State.switchToBypass
  simp only [List.mem_cons, List.not_mem_nil, or_false] at h
  obtain h | h | h := h <;> rw [h]

/-! ### A forced transfer (R110, R111) -/

/-- The forced history of a forced transfer in `s` (R111). -/
def State.forcedHistory (s : State) : List Nat := historyWith s.now s.seq.history

theorem forcedHistory_eq (s : State) : s.forcedHistory =
    let recent := s.seq.history.filter (fun t => decide (s.now - t ≤ 3600000))
    (if recent.length < 4 then recent else recent.tail) ++ [s.now] := by
  have hble : (fun t => Nat.ble (s.now - t) 3600000) = fun t => decide (s.now - t ≤ 3600000) := by
    funext t
    rw [Bool.eq_iff_iff, Nat.ble_eq, decide_eq_true_iff]
  simp only [State.forcedHistory, historyWith, hble, List.drop_one]

/-- The state a forced transfer ends in (R111). -/
def State.forcedState (s : State) : SeqState := if s.forcedHistory.length = 4 then .latched else .forced

/-- Its notice (R110, R111). -/
def State.forcedKind (s : State) : NoticeKind :=
  if s.forcedHistory.length = 4 then .bypassLatched else .forcedBypass

/-- The machine after steps 1 to 4 of R110. -/
def State.forcedSoFar (s : State) : State :=
  s.forcedSteps.onSeq (fun q => { q with history := s.forcedHistory, planned := none })

theorem forcedTransfer_eq (s : State) : s.forcedTransfer
    = (s.forcedSoFar.notify s.forcedKind s.forcedSoFar.cabinetId s.forcedHistory.length s.seq.state.code 1).enterStatic
        s.forcedState := by
  unfold State.forcedTransfer State.forcedKind State.forcedState
  by_cases h : s.forcedHistory.length = 4
  · simp only [if_pos h]
    exact (if_pos h).trans rfl
  · simp only [if_neg h]
    exact (if_neg h).trans rfl

theorem forcedState_static (s : State) : s.forcedState.onStatic = true := by
  unfold State.forcedState
  split <;> rfl

/-- The machine with the notice of a forced transfer. -/
def State.forcedTold (s : State) : State :=
  s.forcedSoFar.notify s.forcedKind s.forcedSoFar.cabinetId s.forcedHistory.length s.seq.state.code 1

theorem forcedTold_afterSteps (s : State) : s.forcedSteps.ChangesOnly [.sequencer, .notices] s.forcedTold :=
  changesOnly_then (onSeq_frame ..) (notify_frame ..) rfl rfl

theorem forcedTold_seq (s : State) :
    s.forcedTold.seq = { s.forcedSteps.seq with history := s.forcedHistory, planned := none } :=
  (notify_frame ..).kept .sequencer (by decide)

theorem forcedTold_frame (s : State) : s.ChangesOnly (.claimIds :: .sequencer :: abortPieces) s.forcedTold :=
  changesOnly_then (forcedSteps_frame s) (forcedTold_afterSteps s) rfl rfl

/-- What follows the steps leaves what they have entered, sent and told. -/
theorem forcedTransfer_keeps (hopen : s.pins.mbsClosed = false) : s.forcedSteps.Abides s.forcedTransfer := by
  have hpins : s.forcedTold.pins = s.pins := (forcedTold_frame s).kept .pins (by decide)
  rw [forcedTransfer_eq]
  exact abides_trans (abides_trans (abides_of_frame (onSeq_frame ..)) (notify_abides ..))
    (abides_of_frame (enterStatic_frame_open (s := s.forcedTold) (by rw [hpins]; exact hopen) _))

/-- The sequencer and its lines after a forced transfer (R110, R111). -/
theorem forcedTransfer_seq (hopen : s.pins.mbsClosed = false) :
    s.forcedTransfer.seq = { s.forcedSteps.seq with
      state := s.forcedState, prior := none, planned := none, history := s.forcedHistory, xfer := none
      retransferAt := if s.forcedState = .forced ∧ s.pins.invOk = true ∧ s.phase.lock = 4
        then some (s.now + s.cfg.retransferDelay * 1000) else none }
    ∧ s.forcedTransfer.outs.xferByp = false ∧ s.forcedTransfer.outs.xferInv = false := by
  have hframe := forcedTold_frame s
  have hpins : s.forcedTold.pins = s.pins := hframe.kept .pins (by decide)
  have hphase : s.forcedTold.phase = s.phase := hframe.kept .phase (by decide)
  have himage : s.forcedTold.image = s.image := hframe.kept .image (by decide)
  have hus := clock_of_frame hframe
  have htransfer : s.forcedTransfer = s.forcedTold.enterStatic s.forcedState := forcedTransfer_eq s
  rw [htransfer, enterStatic_eq (by rw [hpins]; exact hopen) (forcedState_static s)]
  refine ⟨?_, rfl, rfl⟩
  simp only [forcedTold_seq, hpins, hphase, State.now, hus, State.cfg, himage]

theorem forcedTransfer_frame (hopen : s.pins.mbsClosed = false) : s.forcedSteps.ChangesOnly
    [.sequencer, .notices, .requests, .lamp] s.forcedTransfer := by
  have hpins : s.forcedTold.pins = s.pins := (forcedTold_frame s).kept .pins (by decide)
  have htransfer : s.forcedTransfer = s.forcedTold.enterStatic s.forcedState := forcedTransfer_eq s
  rw [htransfer]
  exact changesOnly_then (forcedTold_afterSteps s) (enterStatic_frame_open (by rw [hpins]; exact hopen) _) rfl rfl

/-- The slot and the marks of a superseded claim in flight. -/
theorem forcedSteps_inFlight (hstate : s.seq.state = .claiming) {q : Request} {id tag d : Nat}
    (hslot : s.claims.slot = .inFlight q id tag d) (hq : q.requester = .sequencer) :
    s.forcedSteps.seq.superseded = true
    ∧ s.forcedSteps.claims.slot = .inFlight { q with givenUp := true } id tag d := by
  have hrecord : s.recordForced.claims.slot = s.claims.slot := (recordForced_frame s).kept .slot (by decide)
  have hslot' : s.forcedRecord.claims.slot = .inFlight q id tag d := by
    rw [State.forcedRecord, (abortTest_abides s.recordForced .bypass).slot (fun p hp => ?_), hrecord, hslot]
    rw [hrecord, hslot] at hp
    cases hp
    rw [hq]
    decide
  obtain ⟨hgiven, hseq⟩ := giveUp_superseded_inFlight
    (s := s.forcedRecord.onSeq (fun q => { q with superseded := true })) hslot' hq
  rw [forcedSteps_claiming hstate]
  exact ⟨by rw [hseq]; rfl, hgiven⟩

/-- The slot and the marks of a superseded claim that waits for its retry. -/
theorem forcedSteps_retryWait (hstate : s.seq.state = .claiming) {q : Request} {d : Nat}
    (hslot : s.claims.slot = .retryWait q d) (hq : q.requester = .sequencer) :
    s.forcedSteps.seq.superseded = false ∧ s.forcedSteps.seq.pending = false ∧ s.forcedSteps.claims.slot = .free := by
  have hrecord : s.recordForced.claims.slot = s.claims.slot := (recordForced_frame s).kept .slot (by decide)
  have hslot' : s.forcedRecord.claims.slot = .retryWait q d := by
    rw [State.forcedRecord, (abortTest_abides s.recordForced .bypass).slot (fun p hp => ?_), hrecord, hslot]
    rw [hrecord, hslot] at hp
    cases hp
    rw [hq]
    decide
  obtain ⟨hfree, hseq⟩ := giveUp_superseded_retryWait
    (s := s.forcedRecord.onSeq (fun q => { q with superseded := true })) rfl hslot' hq
  rw [forcedSteps_claiming hstate, hseq]
  exact ⟨rfl, rfl, hfree⟩

theorem forcedSteps_syncAt (hstate : s.seq.state = .syncWait) : s.forcedSteps.seq.syncAt = none := by
  rw [forcedSteps_syncWait hstate, State.transferResult,
    show ∀ (u : State) k a b c d, (u.notify k a b c d).seq = u.seq from
      fun u k a b c d => (notify_frame u k a b c d).kept .sequencer (by decide)]
  rfl

/-- What the steps tell where no test and no claim of the sequencer is touched. -/
theorem forcedSteps_host (hj : s.joined = true) (hidle : s.job.state = .idle) (hstate : s.seq.state ≠ .claiming) :
    s.forcedSteps.host = s.host.joinAll (if s.seq.state = .syncWait
      then [s.noticeOf .transferResult 0 11 0 0] else []) := by
  have hrecord := recordForced_frame s
  have hhost := host_of_frame hrecord
  have hus := clock_of_frame hrecord
  by_cases hwait : s.seq.state = .syncWait
  · rw [forcedSteps_syncWait hwait, if_pos hwait, forcedRecord_idle hidle, State.transferResult,
      notify_host (by exact (joined_of_frame hrecord).trans hj),
      noticeOf_of_clock (s := s) (by exact hus)]
    exact congrArg (fun h : HostPort => h.join _) hhost
  · rw [forcedSteps_else hwait hstate, if_neg hwait, forcedRecord_idle hidle, hhost]
    rfl

theorem forcedTransfer_host (hj : s.joined = true) (hopen : s.pins.mbsClosed = false) (hidle : s.job.state = .idle)
    (hstate : s.seq.state ≠ .claiming) (hnone : s.ownOfClass WKind.isCabinet = none) :
    s.forcedTransfer.host = s.host.joinAll ((if s.seq.state = .syncWait
        then [s.noticeOf .transferResult 0 11 0 0] else [])
      ++ [s.noticeOf s.forcedKind s.newClaimId s.forcedHistory.length s.seq.state.code 1]) := by
  have hsteps := forcedSteps_frame s
  have hus := clock_of_frame hsteps
  have hpins : s.forcedTold.pins = s.pins := (forcedTold_frame s).kept .pins (by decide)
  have hid : s.forcedSoFar.cabinetId = s.newClaimId := by
    have hafter := (forcedSteps_afterRecord s).1
    rw [forcedRecord_idle hidle] at hafter
    have hown : s.forcedSoFar.ownOfClass WKind.isCabinet = some s.forcedEntry :=
      (ownOfClass_of_frame (changesOnly_then hafter (onSeq_frame ..) (e := [.slot, .sequencer, .notices]) rfl rfl)
        WKind.isCabinet).trans (recordForced_new hnone).2.1
    simp only [State.cabinetId, hown]
    rfl
  have htransfer : s.forcedTransfer = s.forcedTold.enterStatic s.forcedState := forcedTransfer_eq s
  rw [htransfer, host_of_frame (enterStatic_frame_open (by rw [hpins]; exact hopen) _), State.forcedTold, hid,
    notify_host (by exact (joined_of_frame hsteps).trans hj),
    noticeOf_of_clock (s := s) (by exact hus), joinAll_append]
  exact congrArg (fun h : HostPort => h.join _) (forcedSteps_host hj hidle hstate)

/-- What a forced transfer may change, its event's end left out. -/
theorem forcedTransfer_changes (hopen : s.pins.mbsClosed = false) : s.ChangesOnly
    ([.requests, .lamp, .sequencer, .withdrawals, .claimIds, .slot] ++ s.eventEnd) s.forcedTransfer := by
  have hrest := forcedTransfer_frame hopen
  by_cases hidle : s.job.state = .idle
  · rw [State.eventEnd, if_pos hidle]
    exact changesOnly_then (forcedSteps_frame_idle hidle) hrest rfl rfl
  · rw [State.eventEnd, if_neg hidle]
    exact changesOnly_then (forcedSteps_frame s) hrest rfl rfl

theorem forcedTransfer_idle (hopen : s.pins.mbsClosed = false) (hidle : s.job.state = .idle) :
    s.forcedTransfer.job.state = .idle := by
  have hsteps : s.forcedSteps.job = s.job := (forcedSteps_frame_idle hidle).kept .job (by decide)
  have hrest : s.forcedTransfer.job = s.forcedSteps.job := (forcedTransfer_frame hopen).kept .job (by decide)
  rw [hrest, hsteps]
  exact hidle

/-- The end of an event that began in `s`, added to what its own effect `t` may change. -/
theorem finish_changes {e : List Piece} {s0 : State} (h : s.ChangesOnly (e ++ s.eventEnd) t)
    (hidle : s.job.state = .idle → t.job.state = .idle) : s.ChangesOnly (e ++ s.eventEnd) (State.finish s0 t) := by
  refine changesOnly_trans h ⟨fun p hp => (finish_frame s0 t).kept p fun hpt => hp (List.mem_append_right _ ?_)⟩
  unfold State.eventEnd at hpt ⊢
  by_cases hi : s.job.state = .idle
  · rw [if_pos hi]
    rw [if_pos (hidle hi)] at hpt
    exact hpt
  · rw [if_neg hi]
    split at hpt
    · exact List.mem_append_left _ hpt
    · exact hpt

/-- One piece changed first, and others behind it. -/
theorem changesOnly_cons {p : Piece} {e : List Piece} (h : s.ChangesOnly [p] t) (k : t.ChangesOnly e u) :
    s.ChangesOnly (p :: e) u :=
  ⟨fun q hq => kept_trans (h.kept q fun hp => hq (by simp_all)) (k.kept q fun he => hq (List.mem_cons_of_mem _ he))⟩

theorem switched_frame (s : State) (b : Bool) : s.ChangesOnly [.pins] (s.switched b) :=
  changesOnly_then (onPins_frame ..) (withStatusDue_frame ..) rfl rfl

/-- The pieces that the end of an event leaves, whatever test there is. -/
theorem finish_leaves (s0 s : State) : s.ChangesOnly (endPieces ++ testPieces) (State.finish s0 s) := by
  have hframe := finish_frame s0 s
  unfold State.eventEnd at hframe
  split at hframe
  · exact changesOnly_mono hframe rfl
  · exact hframe

section
variable {s0 : State} (hj : s.joined = true) (hopen : s.pins.mbsClosed = false)
  (hnone : s.ownOfClass WKind.isCabinet = none)

/-- The sequencer where the event of a forced transfer has ended. -/
theorem forcedEvent_seq (s0 s : State) : (State.finish s0 s.forcedTransfer).seq = s.forcedTransfer.seq :=
  (finish_leaves ..).kept .sequencer (by decide)

include hopen

include hnone in
/-- The entry and the frame stand where the event has ended. -/
theorem forcedEvent_entry : s.forcedEntry ∈ (State.finish s0 s.forcedTransfer).claims.list
    ∧ (s.loop.queue.length < 8 → (State.finish s0 s.forcedTransfer).sends .forced s.newClaimId
      (le8 s.newClaimId ++ le8 17 ++ [0#8])) := by
  have hkeeps := keeps_trans (keeps_trans (forcedSteps_keeps s) (forcedTransfer_keeps hopen).toKeeps)
    (finish_abides s0 s.forcedTransfer).toKeeps
  obtain ⟨hentry, -, hsends⟩ := recordForced_new hnone
  exact ⟨hkeeps.entries _ hentry (fun h => absurd h (by decide : WKind.bypass ≠ .test)), fun hroom => hkeeps.sends (by decide) (hsends hroom)⟩

/-- The slot of a request that is not the ageing unit's stands. -/
theorem forcedEvent_slot (ho : s.forcedSteps.slotOfOthers) :
    (State.finish s0 s.forcedTransfer).claims.slot = s.forcedSteps.claims.slot :=
  (abides_trans (forcedTransfer_keeps hopen) (finish_abides s0 s.forcedTransfer)).slot ho

include hj in
/-- A test that ran is over. -/
theorem forcedEvent_test (hrun : s.job.state = .running) : (State.finish s0 s.forcedTransfer).job.state = .idle
    ∧ (∀ x l, s.strings[s.job.k]? = some x → x.lastTest = some l →
      ∃ y l', (State.finish s0 s.forcedTransfer).strings[s.job.k]? = some y ∧ y.lastTest = some l'
        ∧ l'.verdict = some .abortedBypass ∧ y.state = .inService) := by
  obtain ⟨hover, hverdict⟩ := forcedSteps_test hj hrun
  obtain ⟨hjob, hstrings⟩ :=
    (abides_trans (forcedTransfer_keeps hopen) (finish_abides s0 s.forcedTransfer)).idle hover
  exact ⟨by rw [hjob]; exact hover, by rw [hstrings]; exact hverdict⟩

end

/-- Settles O45: the rise of SS_FB by the start-up state and the state of the sequencer. -/
theorem switchToBypass : Obligations.SwitchToBypass := by
  intro s hr hlevel
  have hc : (!s.pins.ssFb) = true := by simp [hlevel]
  refine ⟨fun hs => onSwitch_level hr rfl hc hs, fun hs => onSwitch_found hr rfl hc hs,
    fun hs hm hstate => onSwitch_quiet hr rfl hc hs hm (switchToBypass_quiet hstate),
    fun x hs hstate hx hopen => onSwitch_joined hr rfl hc hs
      (switchToBypass_done (s := s.switched true) (joined_of_state hs) hstate hx hopen),
    fun hs hstate hopen hnone => ?_⟩
  intro recent h latches id
  have hj : (s.switched true).joined = true := joined_of_state hs
  have hopen' : (s.switched true).pins.mbsClosed = false := hopen
  have hexec := onSwitch_joined hr rfl hc hs (switchToBypass_forced (s := s.switched true) hstate)
  obtain ⟨hseq, hbyp, hinv⟩ := forcedTransfer_seq hopen'
  have hseqT := (forcedEvent_seq (s.withStatusDue false) (s.switched true)).trans hseq
  have hend := finish_leaves (s.withStatusDue false) (s.switched true).forcedTransfer
  obtain ⟨hbyp', hinv'⟩ := hend.kept .requests (by decide)
  have hhistory : (s.switched true).forcedHistory = h := forcedHistory_eq (s.switched true)
  have hpins : (s.switched true).forcedTransfer.pins = (s.switched true).pins :=
    (forcedTransfer_changes hopen').kept .pins (by unfold State.eventEnd; split <;> decide)
  obtain ⟨hentry, hsends⟩ := forcedEvent_entry (s0 := s.withStatusDue false) hopen' hnone
  refine ⟨State.finish (s.withStatusDue false) (s.switched true).forcedTransfer, hexec, ?_, ?_, ?_, ?_, ?_, ?_, fun hwait => ?_, fun q j tag d hclaiming hslot hq => ?_,
    fun q d hclaiming hslot hq => ?_, hbyp'.trans hbyp, hinv'.trans hinv, hentry, hsends, fun hrun => ?_,
    fun x l hrun hx hl => ?_, fun hidle hnot => ?_, ?_⟩
  · exact (hend.kept .pins (by decide)).trans hpins
  · exact (congrArg Sequencer.history hseqT).trans hhistory
  · exact congrArg Sequencer.planned hseqT
  · exact congrArg Sequencer.prior hseqT
  · refine (congrArg Sequencer.state hseqT).trans ?_
    simp only [State.forcedState, hhistory]
    rfl
  · have hforced : (s.switched true).forcedState = .forced ↔ ¬ latches := by
      rw [State.forcedState, hhistory]
      by_cases hl : latches
      · rw [if_pos hl]
        exact iff_of_false (by decide) (not_not.mpr hl)
      · rw [if_neg hl]
        exact iff_of_true rfl hl
    exact (congrArg Sequencer.retransferAt hseqT).trans (if_congr (and_congr hforced Iff.rfl) rfl rfl)
  · exact (congrArg Sequencer.syncAt hseqT).trans (forcedSteps_syncAt hwait)
  · obtain ⟨hsup, hflight⟩ := forcedSteps_inFlight (s := s.switched true) hclaiming hslot hq
    refine ⟨(congrArg Sequencer.superseded hseqT).trans hsup,
      (forcedEvent_slot hopen' fun p hp => ?_).trans hflight⟩
    rw [hflight] at hp
    cases hp
    exact fun h => absurd (hq.symm.trans h) (by decide)
  · obtain ⟨hsup, hpending, hfree⟩ := forcedSteps_retryWait (s := s.switched true) hclaiming hslot hq
    refine ⟨(congrArg Sequencer.superseded hseqT).trans hsup,
      (congrArg Sequencer.pending hseqT).trans hpending,
      (forcedEvent_slot hopen' fun p hp => ?_).trans hfree⟩
    rw [hfree] at hp
    cases hp
  · exact (forcedEvent_test hj hopen' hrun).1
  · exact (forcedEvent_test hj hopen' hrun).2 x l hx hl
  · have hhost := forcedTransfer_host hj hopen' hidle hnot hnone
    have hnotice : (s.switched true).noticeOf = s.noticeOf := rfl
    have hid : (s.switched true).newClaimId = s.newClaimId := rfl
    have hstate' : (s.switched true).seq.state = s.seq.state := rfl
    have hhost' : (s.switched true).host = s.host := rfl
    rw [State.forcedKind, hhistory, hnotice, hid, hstate', hhost'] at hhost
    exact raised_of_abides hhost (finish_abides _ _)
  · exact finish_changes (s := s) (e := [.pins, .requests, .lamp, .sequencer, .withdrawals, .claimIds, .slot])
      (changesOnly_cons (switched_frame s true) (forcedTransfer_changes hopen'))
      (fun hidle => forcedTransfer_idle (s := s.switched true) hopen' hidle)

end Sys2Proof.Machine

/-! PROOFS. The own cabinet entry as MAINT and back, and the actions a visit records of it (sections 4.6, 5.7 and
6.4). -/

namespace Sys2Proof.Machine

-- One proof after another: side by side they ask for more thread stacks than there is memory for.
set_option Elab.async false

variable {s t u : State} {w : Withdrawal}

/-! ### The own entry of a class and its changes (R93) -/

/-- What a weaker test finds first is what the stronger one finds, where it passes that too. -/
theorem find?_of_weaker {α : Type} {p q : α → Bool} (hpq : ∀ x, p x = true → q x = true) {l : List α} {z : α}
    (hz : l.find? q = some z) (hp : p z = true) : l.find? p = some z := by
  rw [List.find?_eq_some_iff_append] at hz ⊢
  obtain ⟨-, before, after, hl, hbefore⟩ := hz
  refine ⟨hp, before, after, hl, fun x hx => ?_⟩
  have hno := hbefore x hx
  rw [Bool.not_eq_true'] at hno ⊢
  exact Bool.eq_false_iff.mpr fun hpx => by simp [hpq x hpx] at hno

/-- An own entry of a class: it stands in the list, is the station's own, and is of the class. -/
theorem ownOfClass_some {c : WKind → Bool} (h : s.ownOfClass c = some w) :
    w ∈ s.claims.list ∧ w.owner = s.own ∧ c w.kind = true := by
  have hmem := List.mem_filter.mp (List.mem_of_find?_eq_some h)
  exact ⟨hmem.1, beq_iff_eq.mp hmem.2, by simpa using List.find?_some h⟩

/-- The own entries after a change that leaves owners. -/
theorem ownOfClass_update (p : Withdrawal → Bool) {f : Withdrawal → Withdrawal} (hf : ∀ x, (f x).owner = x.owner)
    (c : WKind → Bool) : (s.updateEntries p f).ownOfClass c
      = (s.ownWithdrawals.find? (fun x => c (if p x then f x else x).kind)).map (fun x => if p x then f x else x) := by
  have hown : (s.updateEntries p f).ownWithdrawals = s.ownWithdrawals.map (fun x => if p x then f x else x) := by
    show (s.claims.list.map _).filter _ = (s.claims.list.filter _).map _
    rw [List.filter_map]
    refine congrArg (List.map _) (List.filter_congr fun x _ => ?_)
    simp only [Function.comp]
    split
    · rw [hf]
      rfl
    · rfl
  rw [State.ownOfClass, hown, List.find?_map]
  rfl

/-- The own cabinet entry is found by its claim id after any change of the entries of that id that keeps it a cabinet
entry. -/
theorem cabinetId_update (hown : s.ownOfClass WKind.isCabinet = some w) {f : Withdrawal → Withdrawal}
    (hf : ∀ x, (f x).owner = x.owner ∧ (f x).claimId = x.claimId ∧ WKind.isCabinet (f x).kind = true) :
    ∃ z, z ∈ s.claims.list ∧ z.owner = s.own ∧ z.claimId = w.claimId
      ∧ (s.updateEntries (fun x => x.isFor s.own w.claimId) f).ownOfClass WKind.isCabinet = some (f z) := by
  obtain ⟨hmem, howner, hcab⟩ := ownOfClass_some hown
  have hwfor : w.isFor s.own w.claimId = true := by simp [Withdrawal.isFor, howner]
  rw [ownOfClass_update _ (fun x => (hf x).1)]
  cases hz : s.ownWithdrawals.find? (fun x =>
      WKind.isCabinet (if x.isFor s.own w.claimId then f x else x).kind) with
  | none =>
    have hno := List.find?_eq_none.mp hz w (List.mem_of_find?_eq_some hown)
    rw [if_pos hwfor, (hf w).2.2] at hno
    exact absurd rfl hno
  | some z =>
    have hzmem := List.mem_filter.mp (List.mem_of_find?_eq_some hz)
    by_cases hzfor : z.isFor s.own w.claimId = true
    · refine ⟨z, hzmem.1, beq_iff_eq.mp hzmem.2, ?_, by rw [Option.map_some, if_pos hzfor]⟩
      simp only [Withdrawal.isFor, Bool.and_eq_true, beq_iff_eq] at hzfor
      exact hzfor.2
    · have hzcab : WKind.isCabinet z.kind = true := by
        have h := List.find?_some hz
        rwa [if_neg hzfor] at h
      have hfirst := find?_of_weaker (p := fun x => WKind.isCabinet x.kind) (fun x hx => by
        split
        · exact (hf x).2.2
        · exact hx) hz hzcab
      rw [State.ownOfClass, hfirst] at hown
      cases hown
      exact absurd hwfor hzfor

/-- Where no two entries share owner and claim id, it is that very entry. -/
theorem ownOfClass_update_unique (hown : s.ownOfClass WKind.isCabinet = some w) (hpairs : s.pairsOk = true)
    {f : Withdrawal → Withdrawal}
    (hf : ∀ x, (f x).owner = x.owner ∧ (f x).claimId = x.claimId ∧ WKind.isCabinet (f x).kind = true) :
    (s.updateEntries (fun x => x.isFor s.own w.claimId) f).ownOfClass WKind.isCabinet = some (f w) := by
  obtain ⟨z, hz, hzown, hzid, hfound⟩ := cabinetId_update hown hf
  obtain ⟨hw, hwown, -⟩ := ownOfClass_some hown
  rw [State.pairsOk, Bool.and_eq_true, decide_eq_true_iff] at hpairs
  have hsame : z = w := List.inj_on_of_nodup_map hpairs.1 hz hw (by rw [hzown, hzid, hwown])
  rw [hfound, hsame]

/-! ### The cabinet entry as MAINT (R93, R115) -/

/-- What an entry becomes as MAINT. -/
def Withdrawal.asMaint (sanctioned : Bool) (x : Withdrawal) : Withdrawal :=
  { x with kind := .maint, unsanctioned := x.unsanctioned || !sanctioned }

theorem asMaint_keeps (b : Bool) (x : Withdrawal) : (x.asMaint b).owner = x.owner ∧ (x.asMaint b).claimId = x.claimId
    ∧ WKind.isCabinet (x.asMaint b).kind = true := ⟨rfl, rfl, rfl⟩

theorem enterMaintKind_eq (hown : s.ownOfClass WKind.isCabinet = some w) (b : Bool) : s.enterMaintKind b
    = (s.updateEntries (fun x => x.isFor s.own w.claimId) (Withdrawal.asMaint b)).markStatus := by
  unfold State.enterMaintKind
  rw [hown]
  rfl

/-- The cabinet entry is found under its claim id as MAINT too. -/
theorem enterMaintKind_own (hown : s.ownOfClass WKind.isCabinet = some w) (b : Bool) : ∃ z, z.claimId = w.claimId
    ∧ (s.enterMaintKind b).ownOfClass WKind.isCabinet = some z := by
  obtain ⟨z, -, -, hid, hfound⟩ := cabinetId_update hown (asMaint_keeps b)
  rw [enterMaintKind_eq hown]
  exact ⟨z.asMaint b, hid, hfound⟩

theorem cabinetId_of_own (hown : s.ownOfClass WKind.isCabinet = some w) : s.cabinetId = w.claimId := by
  unfold State.cabinetId
  rw [hown]

theorem enterMaintKind_cabinetId (hown : s.ownOfClass WKind.isCabinet = some w) (b : Bool) :
    (s.enterMaintKind b).cabinetId = w.claimId := by
  obtain ⟨z, hid, hfound⟩ := enterMaintKind_own hown b
  rw [cabinetId_of_own hfound, hid]

/-- The entry stands in the list as MAINT. -/
theorem enterMaintKind_mem (hown : s.ownOfClass WKind.isCabinet = some w) (b : Bool) :
    w.asMaint b ∈ (s.enterMaintKind b).claims.list := by
  obtain ⟨hmem, howner, -⟩ := ownOfClass_some hown
  rw [enterMaintKind_eq hown]
  refine List.mem_map.mpr ⟨w, hmem, if_pos ?_⟩
  simp [Withdrawal.isFor, howner]

/-! ### Actions of a CABINET visit (R138) -/

/-- The visits after an action of kind `k` on the withdrawal `id`: recorded while a CABINET visit is OPEN. -/
def State.acted (s : State) (k : ActionKind) (id : Nat) : Visits :=
  if s.cabinetVisitOpen then
    { s.visit with current := s.visit.current.map (Visit.addAction ⟨k, none, s.now, id⟩) }
  else s.visit

theorem autoAction_eq (s : State) (k : ActionKind) : s.autoAction k = s.withVisit (s.acted k s.cabinetId) := by
  unfold State.autoAction State.acted
  by_cases h : s.cabinetVisitOpen = true
  · simp only [if_pos h]
    rfl
  · simp only [if_neg h]
    rfl

end Sys2Proof.Machine

/-! PROOFS. Entry to MAINT and its events (sections 5.2, 5.7 and 4.6). -/

namespace Sys2Proof.Machine

-- One proof after another: side by side they ask for more thread stacks than there is memory for.
set_option Elab.async false

variable {s t u : State} {w : Withdrawal}

/-! ### Entry to MAINT (R115) -/

/-- The sequencer in MAINT, its state before kept. -/
def State.inMaint (s : State) (prior : SeqState) : State := (s.goto .maint).onSeq (fun q => { q with prior := some prior })

theorem inMaint_eq (s : State) (prior : SeqState) : s.inMaint prior = { s with
    seq := { s.seq with state := .maint, prior := some prior, xfer := none, retransferAt := none }
    outs := { s.outs with xferByp := false, xferInv := false, mbsPermit := false } } := rfl

theorem enterMaint_open (hvisit : s.cabinetVisitOpen = true) (prior : SeqState) (announce : Bool) :
    s.enterMaint prior announce = ((s.inMaint prior).enterMaintKind true).autoAction .maintEntered := by
  unfold State.enterMaint
  simp only [hvisit, if_true]
  rfl

theorem enterMaint_closed (hvisit : s.cabinetVisitOpen = false) (prior : SeqState) :
    s.enterMaint prior true = ((s.inMaint prior).enterMaintKind false).announceForced.notify .unsanctionedMaint
      ((s.inMaint prior).enterMaintKind false).cabinetId prior.code 0 0 := by
  unfold State.enterMaint
  simp only [hvisit, Bool.false_eq_true, if_false, if_true]
  rfl

/-- An own withdrawal as it becomes MAINT under an OPEN CABINET visit. -/
theorem asMaint_sanctioned (x : Withdrawal) : x.asMaint true = { x with kind := .maint } := by
  simp [Withdrawal.asMaint]

/-- MAINT entered under an OPEN CABINET visit: the whole of it. -/
theorem enterMaint_sanctioned (hvisit : s.cabinetVisitOpen = true) (hown : s.ownOfClass WKind.isCabinet = some w)
    (prior : SeqState) (announce : Bool) : s.enterMaint prior announce = { s with
      statusDue := true
      seq := { s.seq with state := .maint, prior := some prior, xfer := none, retransferAt := none }
      outs := { s.outs with xferByp := false, xferInv := false, mbsPermit := false }
      claims := { s.claims with list := s.claims.list.map (fun x =>
        if x.owner == s.own && x.claimId == w.claimId then { x with kind := .maint } else x) }
      visit := { s.visit with current := s.visit.current.map (Visit.addAction ⟨.maintEntered, none, s.now, w.claimId⟩) }
      } := by
  have hown' : (s.inMaint prior).ownOfClass WKind.isCabinet = some w := hown
  have hopen : ((s.inMaint prior).enterMaintKind true).cabinetVisitOpen = true :=
    (cabinetVisitOpen_of_kept ((enterMaintKind_frame ..).kept .visits (by decide))).trans hvisit
  have hkind : Withdrawal.asMaint true = fun x => { x with kind := .maint } := funext asMaint_sanctioned
  have hsame : ((s.inMaint prior).enterMaintKind true).visit = s.visit := (enterMaintKind_frame ..).kept .visits (by decide)
  have hnow : ((s.inMaint prior).enterMaintKind true).now = s.now :=
    congrArg (· / 1000) (clock_of_frame (s := s.inMaint prior) (enterMaintKind_frame (s.inMaint prior) true))
  have hfor : (fun x : Withdrawal => x.isFor (s.inMaint prior).own w.claimId)
      = fun x => x.owner == s.own && x.claimId == w.claimId := rfl
  rw [enterMaint_open hvisit, autoAction_eq, enterMaintKind_cabinetId hown', State.acted, if_pos hopen, hsame, hnow,
    enterMaintKind_eq hown', hkind, hfor, inMaint_eq]
  simp only [State.updateEntries, State.setList, State.onClaims, State.markStatus, State.withClaims, State.withStatusDue,
    State.withVisit]

/-- What an entry to MAINT makes of the sequencer and its lines. -/
theorem enterMaint_seq (s : State) (prior : SeqState) :
    (s.enterMaint prior true).seq = { s.seq with
      state := .maint, prior := some prior, xfer := none, retransferAt := none }
    ∧ (s.enterMaint prior true).outs.xferByp = false ∧ (s.enterMaint prior true).outs.xferInv = false := by
  have hrest : (s.inMaint prior).ChangesOnly [.withdrawals, .visits, .ownQueue, .notices] (s.enterMaint prior true) := by
    cases hvisit : s.cabinetVisitOpen with
    | true =>
      rw [enterMaint_open hvisit]
      exact changesOnly_then (enterMaintKind_frame ..) (autoAction_frame ..) rfl rfl
    | false =>
      rw [enterMaint_closed hvisit]
      exact changesOnly_then (changesOnly_then (enterMaintKind_frame ..) (announceForced_frame _)
        (e := [.withdrawals, .ownQueue]) rfl rfl) (notify_frame ..) rfl rfl
  have hseq : (s.enterMaint prior true).seq = (s.inMaint prior).seq := hrest.kept .sequencer (by decide)
  obtain ⟨hbyp, hinv⟩ := hrest.kept .requests (by decide)
  exact ⟨hseq, hbyp, hinv⟩

/-- The own cabinet entry stands in the list as MAINT. -/
theorem enterMaint_mem (hown : s.ownOfClass WKind.isCabinet = some w) (prior : SeqState) :
    w.asMaint s.cabinetVisitOpen ∈ (s.enterMaint prior true).claims.list := by
  have hmem := fun b => enterMaintKind_mem (s := s.inMaint prior) (w := w) hown b
  cases hvisit : s.cabinetVisitOpen with
  | true =>
    rw [enterMaint_open hvisit, ((autoAction_frame ..).kept .withdrawals (by decide)).1]
    exact hmem true
  | false =>
    have hframe := changesOnly_then (announceForced_frame ((s.inMaint prior).enterMaintKind false))
      (notify_frame _ .unsanctionedMaint ((s.inMaint prior).enterMaintKind false).cabinetId prior.code 0 0)
      (e := [.ownQueue, .notices]) rfl rfl
    rw [enterMaint_closed hvisit, (hframe.kept .withdrawals (by decide)).1]
    exact hmem false

/-- What was told before stays told. -/
theorem enterMaint_notices (s : State) (prior : SeqState) :
    s.host.notices <+: (s.enterMaint prior true).host.notices := by
  have hkind : ∀ b, ((s.inMaint prior).enterMaintKind b).host = s.host := fun b =>
    (host_of_frame (enterMaintKind_frame ..)).trans rfl
  cases hvisit : s.cabinetVisitOpen with
  | true =>
    rw [enterMaint_open hvisit, host_of_frame (autoAction_frame ..), hkind]
  | false =>
    rw [enterMaint_closed hvisit, ← hkind false, ← host_of_frame (announceForced_frame _)]
    exact (notify_grows ..).notices

/-- The frame of an entry with no CABINET visit OPEN. -/
theorem enterMaint_frame_closed (hvisit : s.cabinetVisitOpen = false) (prior : SeqState) :
    s.ChangesOnly [.sequencer, .requests, .lamp, .withdrawals, .ownQueue, .notices] (s.enterMaint prior true) := by
  rw [enterMaint_closed hvisit]
  exact changesOnly_then (changesOnly_then (changesOnly_then (changesOnly_then (goto_frame ..) (onSeq_frame ..)
    (e := [.sequencer, .requests, .lamp]) rfl rfl) (enterMaintKind_frame ..)
    (e := [.sequencer, .requests, .lamp, .withdrawals]) rfl rfl) (announceForced_frame _)
    (e := [.sequencer, .requests, .lamp, .withdrawals, .ownQueue]) rfl rfl) (notify_frame ..) rfl rfl

/-- With one entry for each owner and claim id, an unsanctioned entry is announced by its FORCED frame, and told
(R93, R115). -/
theorem enterMaint_announces (hj : s.joined = true) (hvisit : s.cabinetVisitOpen = false)
    (hown : s.ownOfClass WKind.isCabinet = some w) (hpairs : s.pairsOk = true) (hscope : w.scope = .cabinet)
    (prior : SeqState) :
    (s.loop.queue.length < 8 → (s.enterMaint prior true).sends .forced w.claimId (le8 w.claimId ++ le8 33 ++ [1#8]))
    ∧ (s.enterMaint prior true).host = s.host.join (s.noticeOf .unsanctionedMaint w.claimId prior.code 0 0) := by
  have hown' : (s.inMaint prior).ownOfClass WKind.isCabinet = some w := hown
  have hkind := enterMaintKind_frame (s.inMaint prior) false
  have hfound : ((s.inMaint prior).enterMaintKind false).ownOfClass WKind.isCabinet = some (w.asMaint false) := by
    rw [enterMaintKind_eq hown']
    exact ownOfClass_update_unique hown' (by exact hpairs) (asMaint_keeps false)
  have hannounce : ((s.inMaint prior).enterMaintKind false).announceForced
      = ((s.inMaint prior).enterMaintKind false).sendForced (w.asMaint false) := by
    unfold State.announceForced
    rw [hfound]
  have hbody : le8 (w.asMaint false).claimId ++ le8 (kindScopeCode (w.asMaint false).kind (w.asMaint false).scope)
      ++ leMark (w.asMaint false).unsanctioned = le8 w.claimId ++ le8 33 ++ [1#8] := by
    simp [Withdrawal.asMaint, hscope, kindScopeCode, WKind.code, Scope.code, leMark]
  rw [enterMaint_closed hvisit, enterMaintKind_cabinetId hown', hannounce]
  refine ⟨fun hroom => sends_of_frame ?_ (notify_frame ..) rfl, ?_⟩
  · have hsends := queueOwn_sends ((s.inMaint prior).enterMaintKind false) .forced (w.asMaint false).claimId
      (le8 (w.asMaint false).claimId ++ le8 (kindScopeCode (w.asMaint false).kind (w.asMaint false).scope)
        ++ leMark (w.asMaint false).unsanctioned) (by
        rw [queue_of_frame hkind]
        exact hroom)
    rw [← hbody]
    exact hsends
  · have hframe := changesOnly_then hkind (sendForced_frame _ (w.asMaint false)) (e := [.withdrawals, .ownQueue]) rfl rfl
    have hus := clock_of_frame hframe
    rw [notify_host (by exact (joined_of_frame hframe).trans hj), noticeOf_of_clock (s := s.inMaint prior) hus,
      host_of_frame hframe]
    rfl

end Sys2Proof.Machine

/-! PROOFS. The maintenance bypass closing and opening (sections 5.2, 5.7, 5.8 and 6.4). -/

namespace Sys2Proof.Machine

-- One proof after another: side by side they ask for more thread stacks than there is memory for.
set_option Elab.async false

variable {s t u : State} {w : Withdrawal}

/-! ### Leaving MAINT (R117) -/

/-- An action recorded leaves the visit OPEN or not, as it was. -/
theorem acted_open (s : State) (k : ActionKind) (id : Nat) :
    (s.withVisit (s.acted k id)).cabinetVisitOpen = s.cabinetVisitOpen := by
  unfold State.acted
  by_cases h : s.cabinetVisitOpen = true
  · rw [if_pos h]
    unfold State.cabinetVisitOpen
    simp only [withVisit_visit]
    cases s.visit.current with
    | none => rfl
    | some v =>
      simp only [Option.map_some, Visit.addAction]
      split <;> rfl
  · rw [if_neg h]
    rfl

theorem withVisit_release (s : State) (v : Visits) (c : WKind → Bool) :
    (s.withVisit v).release c = (s.release c).withVisit v := by
  have hsame : (s.withVisit v).ownOfClass c = s.ownOfClass c := rfl
  cases hw : s.ownOfClass c with
  | none => rw [release_none (hsame.trans hw), release_none hw]
  | some w =>
    unfold State.release State.removeEntries
    simp only [hsame.trans hw, hw]
    by_cases hany : s.claims.list.any (fun x => x.isFor s.own w.claimId && c x.kind)
    · rw [if_pos hany, if_pos (by exact hany)]
      rfl
    · rw [if_neg hany, if_neg (by exact hany)]
      rfl

/-- MAINT left on the static switch: the whole of it. -/
theorem maintOpens_static (hstate : s.seq.state = .maint) (hopen : s.pins.mbsClosed = false) (hfb : s.pins.ssFb = true)
    (hown : s.ownOfClass WKind.isCabinet = some w) {back : SeqState} (hprior : s.seq.prior = some back)
    (hback : back.onStatic = true) : s.maintOpens = { s with
      statusDue := true
      seq := { s.seq with
        state := back, prior := none, xfer := none
        retransferAt := if back = .forced ∧ s.pins.invOk = true ∧ s.phase.lock = 4
          then some (s.now + s.cfg.retransferDelay * 1000) else none }
      outs := { s.outs with xferByp := false, xferInv := false, mbsPermit := s.cabinetVisitOpen }
      claims := { s.claims with list := s.claims.list.map (fun x =>
        if x.owner == s.own && x.claimId == w.claimId then { x with kind := .bypass, unsanctioned := false } else x) }
      visit := s.acted .maintLeft w.claimId } := by
  have hown' : (s.withVisit (s.acted .maintLeft w.claimId)).ownOfClass WKind.isCabinet = some w := hown
  have hleave : (s.withVisit (s.acted .maintLeft w.claimId)).leaveMaintKind = { s with
      statusDue := true
      claims := { s.claims with list := s.claims.list.map (fun x =>
        if x.owner == s.own && x.claimId == w.claimId then { x with kind := .bypass, unsanctioned := false } else x) }
      visit := s.acted .maintLeft w.claimId } := by
    unfold State.leaveMaintKind
    rw [hown']
    rfl
  unfold State.maintOpens
  rw [if_pos hstate]
  simp only [autoAction_eq, cabinetId_of_own hown, hfb, if_true, hprior, Option.getD_some, hleave]
  refine (enterStatic_eq (by exact hopen) hback).trans ?_
  rw [← acted_open s .maintLeft w.claimId]
  rfl

/-- MAINT left on the inverter: the entry released, and told (R117). -/
theorem maintOpens_inverter (hj : s.joined = true) (hstate : s.seq.state = .maint) (hfb : s.pins.ssFb = false)
    (hown : s.ownOfClass WKind.isCabinet = some w) : s.maintOpens = { s.release WKind.isCabinet with
      seq := { s.seq with
        state := .online, prior := none, planned := none, syncAt := none, xfer := none, retransferAt := none }
      outs := { s.outs with xferByp := false, xferInv := false, mbsPermit := false }
      visit := s.acted .maintLeft w.claimId
      host := s.host.join (s.noticeOf .transferDone w.claimId 2 0 1) } := by
  unfold State.maintOpens
  rw [if_pos hstate]
  simp only [autoAction_eq, cabinetId_of_own hown, hfb, Bool.false_eq_true, if_false]
  refine (release_goOnline_notify (s := s.withVisit (s.acted .maintLeft w.claimId)) hj .transferDone w.claimId 2 0 1).trans ?_
  rw [withVisit_release]
  rfl

/-! ### A rise of MBS_CLOSED in each state (R109, R115, R118) -/

theorem maintCloses_static (h : s.seq.state.onStatic = true) : s.maintCloses = s.enterMaint s.seq.state true := by
  unfold State.maintCloses
  obtain h | h | h := (onStatic_iff _).mp h <;> rw [h]

theorem maintCloses_transferIn (h : s.seq.state = .transferIn) {back : SeqState} (hback : s.seq.prior.getD .forced = back) :
    s.maintCloses = (s.notify .transferFault s.cabinetId 2 4 8).enterMaint back true := by
  unfold State.maintCloses
  rw [h, hback]
  rfl

theorem maintCloses_inverter (h : s.seq.state ∈ [SeqState.online, .syncWait, .claiming, .transferOut]) :
    s.maintCloses = s.forcedMaint := by
  unfold State.maintCloses
  simp only [List.mem_cons, List.not_mem_nil, or_false] at h
  obtain h | h | h | h := h <;> rw [h]

/-! ### The maintenance bypass closed on the inverter (R118) -/

/-- The own cabinet entry behind the record of a forced withdrawal, which is marked forced. -/
theorem recordForced_own (s : State) :
    ∃ y, s.recordForced.ownOfClass WKind.isCabinet = some y ∧ y.forced = true := by
  cases hown : s.ownOfClass WKind.isCabinet with
  | none => exact ⟨s.forcedEntry, (recordForced_new hown).2.1, rfl⟩
  | some w =>
    have henter : s.enterForced = (s.updateEntries (fun x => x.isFor s.own w.claimId)
        (fun x => { x with forced := true })).markStatus := by
      unfold State.enterForced
      rw [hown]
    have hfor : w.isFor s.own w.claimId = true := by simp [Withdrawal.isFor, (ownOfClass_some hown).2.1]
    have hfound : s.enterForced.ownOfClass WKind.isCabinet = some { w with forced := true } := by
      have hupdate := ownOfClass_update (s := s) (fun x => x.isFor s.own w.claimId)
        (f := fun x => { x with forced := true }) (fun _ => rfl) WKind.isCabinet
      have hkind : (fun x : Withdrawal => WKind.isCabinet
          (if x.isFor s.own w.claimId then { x with forced := true } else x).kind)
          = fun x => WKind.isCabinet x.kind := by
        funext x
        split <;> rfl
      rw [hkind, show s.ownWithdrawals.find? (fun x => WKind.isCabinet x.kind) = some w from hown, Option.map_some,
        if_pos hfor] at hupdate
      rw [henter]
      exact hupdate
    exact ⟨_, (ownOfClass_of_frame (announceForced_frame _) _).trans hfound, rfl⟩

/-- A release of one class leaves the own entry of another. -/
theorem ownOfClass_release {c d : WKind → Bool} (hcd : ∀ k, c k = true → d k = false) :
    (s.release d).ownOfClass c = s.ownOfClass c := by
  cases hown : s.ownOfClass d with
  | none => rw [release_none hown]
  | some x =>
    have himage : (s.release d).image = s.image := (release_frame s d).kept .image (by decide)
    have hfilter : ∀ l : List Withdrawal, (l.filter (fun y => !(y.isFor s.own x.claimId && d y.kind))).find?
        (fun y => decide (c y.kind = true ∧ y.owner = s.own)) = l.find? (fun y => decide (c y.kind = true ∧ y.owner = s.own)) := by
      intro l
      rw [List.find?_filter]
      refine congrArg (fun p => l.find? p) (funext fun y => ?_)
      by_cases hc : c y.kind = true
      · simp [hc, hcd _ hc]
      · simp [hc]
    have hfind : ∀ u : State, u.ownOfClass c
        = u.claims.list.find? (fun y => decide (c y.kind = true ∧ y.owner = u.own)) := fun u => by
      rw [State.ownOfClass, State.ownWithdrawals, List.find?_filter]
      refine congrArg (fun p => List.find? p _) (funext fun y => ?_)
      rw [Bool.eq_iff_iff]
      simp [and_comm]
    have hsame : (s.release d).own = s.own := by simp only [State.own, State.cfg, himage]
    rw [hfind, hfind, release_list hown, hsame]
    exact hfilter _

/-- An abort of a test leaves the own cabinet entry. -/
theorem abortTest_cabinet (s : State) (c : AbortCause) :
    (s.abortTest c).ownOfClass WKind.isCabinet = s.ownOfClass WKind.isCabinet := by
  cases h : s.job.state with
  | idle => rw [abortTest_idle s c h]
  | claiming =>
    have himage : (s.abortTest c).image = s.image := (abortTest_frame s c).kept .image (by decide)
    simp only [State.ownOfClass, State.ownWithdrawals, State.own, State.cfg, himage,
      (abortTest_claiming_claims (c := c) h).1]
  | running =>
    rw [abortTest_ends c h, ownOfClass_of_frame (endTest_afterRelease s _)]
    refine (ownOfClass_release (fun k hk => ?_)).trans rfl
    cases k <;> simp_all [WKind.isCabinet, WKind.isTest]

theorem forcedSteps_own (s : State) : ∃ y, s.forcedSteps.ownOfClass WKind.isCabinet = some y ∧ y.forced = true := by
  obtain ⟨y, hy, hforced⟩ := recordForced_own s
  exact ⟨y, (ownOfClass_of_frame (forcedSteps_afterRecord s).1 _).trans ((abortTest_cabinet ..).trans hy), hforced⟩

/-- The forced history through the first three steps. -/
theorem forcedSteps_history (s : State) : s.forcedSteps.seq.history = s.seq.history := by
  have hnotify : ∀ (u : State) a b c d, (u.transferResult a b c d).seq = u.seq := fun u a b c d =>
    (notify_frame ..).kept .sequencer (by decide)
  have hrecord := congrArg Sequencer.history (forcedRecord_seq s)
  by_cases hw : s.seq.state = .syncWait
  · rw [forcedSteps_syncWait hw, hnotify]
    exact hrecord
  by_cases hc : s.seq.state = .claiming
  · rw [forcedSteps_claiming hc, State.giveUp]
    split
    · split <;> exact hrecord
    · split
      · rename_i hq
        rw [State.finalOutcome, State.report, hq]
        simp only [State.reportSeq]
        rw [if_pos (by rfl), hnotify]
        exact hrecord
      · exact hrecord
    · exact hrecord
  · rw [forcedSteps_else hw hc]
    exact hrecord

/-- The machine with the notice of a maintenance bypass closed on the inverter. -/
def State.maintTold (s : State) : State :=
  (s.forcedSteps.onSeq (fun q => { q with planned := none })).notify .forcedBypass
    (s.forcedSteps.onSeq (fun q => { q with planned := none })).cabinetId s.seq.history.length s.seq.state.code 2

theorem forcedMaint_eq (s : State) : s.forcedMaint = s.maintTold.enterMaint .forced true := rfl

theorem maintTold_afterSteps (s : State) : s.forcedSteps.ChangesOnly [.sequencer, .notices] s.maintTold :=
  changesOnly_then (onSeq_frame ..) (notify_frame ..) rfl rfl

/-- What an entry to MAINT has made where its event has ended. -/
theorem enterMaint_event (s0 : State) (prior : SeqState) (hown : s.ownOfClass WKind.isCabinet = some w) :
    let t := State.finish s0 (s.enterMaint prior true)
    t.seq = { s.seq with state := .maint, prior := some prior, xfer := none, retransferAt := none }
    ∧ t.outs.xferByp = false ∧ t.outs.xferInv = false ∧ w.asMaint s.cabinetVisitOpen ∈ t.claims.list
    ∧ s.host.notices <+: t.host.notices := by
  intro t
  obtain ⟨hseq, hbyp, hinv⟩ := enterMaint_seq s prior
  have hend := finish_leaves s0 (s.enterMaint prior true)
  obtain ⟨hbyp', hinv'⟩ := hend.kept .requests (by decide)
  have hkeeps := (finish_abides s0 (s.enterMaint prior true)).toKeeps
  have hkind : (w.asMaint s.cabinetVisitOpen).kind ≠ .test := fun h => absurd h (by decide : WKind.maint ≠ .test)
  exact ⟨(hend.kept .sequencer (by decide)).trans hseq, hbyp'.trans hbyp, hinv'.trans hinv,
    hkeeps.entries _ (enterMaint_mem hown prior) hkind, (enterMaint_notices s prior).trans hkeeps.notices⟩

/-- The jobs through an entry to MAINT. -/
theorem enterMaint_job (s : State) (prior : SeqState) : (s.enterMaint prior true).job = s.job :=
  (enterMaint_frame ..).kept .job (by decide)

/-- An event's state in which the maintenance bypass has gone to level `b`. -/
def State.maintained (s : State) (b : Bool) : State := (s.onPins (fun p => { p with mbsClosed := b })).withStatusDue false

theorem maintained_frame (s : State) (b : Bool) : s.ChangesOnly [.pins] (s.maintained b) :=
  changesOnly_then (onPins_frame ..) (withStatusDue_frame ..) rfl rfl

theorem eventEnd_cases (s : State) : s.eventEnd = endPieces ∨ s.eventEnd = endPieces ++ testPieces := by
  unfold State.eventEnd
  split
  · exact .inl rfl
  · exact .inr rfl

/-- A change inside the pieces of an event and of its end. -/
theorem changesOnly_into {f e : List Piece} (h : s.ChangesOnly f t)
    (hf : f.all (e ++ endPieces).contains = true := by rfl) : s.ChangesOnly (e ++ u.eventEnd) t := by
  obtain hu | hu := eventEnd_cases u
  · rw [hu]
    exact changesOnly_mono h hf
  · rw [hu, ← List.append_assoc]
    exact ⟨fun p hp => (changesOnly_mono h hf).kept p fun hpe => hp (List.mem_append_left _ hpe)⟩

/-- The event of an unsanctioned entry to MAINT from a bypass state (R115). -/
theorem maint_unsanctioned (hj : s.joined = true) (hvisit : s.cabinetVisitOpen = false)
    (hown : s.ownOfClass WKind.isCabinet = some w) (hpairs : s.pairsOk = true) (hscope : w.scope = .cabinet)
    (s0 : State) (prior : SeqState) :
    let t := State.finish s0 (s.enterMaint prior true)
    (∃ x ∈ t.claims.list, x = { w with kind := .maint, unsanctioned := true })
    ∧ (s.loop.queue.length < 8 → t.sends .forced w.claimId (le8 w.claimId ++ le8 33 ++ [1#8]))
    ∧ s.raised [s.noticeOf .unsanctionedMaint w.claimId prior.code 0 0] t := by
  intro t
  obtain ⟨-, -, -, hmem, -⟩ := enterMaint_event s0 prior hown
  obtain ⟨hsends, hhost⟩ := enterMaint_announces hj hvisit hown hpairs hscope prior
  have hkeeps := finish_abides s0 (s.enterMaint prior true)
  have hmark : w.asMaint s.cabinetVisitOpen = { w with kind := .maint, unsanctioned := true } := by
    simp [Withdrawal.asMaint, hvisit]
  exact ⟨⟨_, hmem, hmark⟩, fun hroom => hkeeps.sends (by decide) (hsends hroom), raised_of_abides hhost hkeeps⟩

/-- The scope of an own cabinet entry (R71, R119). -/
theorem scope_of_cabinetOk (hok : s.cabinetOk = true) (hown : s.ownOfClass WKind.isCabinet = some w) :
    w.scope = .cabinet := by
  obtain ⟨hmem, howner, hcab⟩ := ownOfClass_some hown
  have hall : s.ownWithdrawals.all (fun w => w.active && pairs w.kind w.scope) = true := by
    unfold State.cabinetOk at hok
    simp only [Bool.and_eq_true] at hok
    obtain ⟨⟨⟨-, h⟩, -⟩, -⟩ := hok
    exact h
  have hw := List.all_eq_true.mp hall w (List.mem_filter.mpr ⟨hmem, beq_iff_eq.mpr howner⟩)
  cases hk : w.kind <;> cases hs : w.scope <;> simp_all [pairs, WKind.isCabinet]

/-- What the own effect of a maintenance bypass closed on the inverter may change. -/
theorem forcedMaint_changes (s : State) : s.ChangesOnly
    ([.requests, .lamp, .sequencer, .withdrawals, .claimIds, .slot, .visits] ++ s.eventEnd) s.forcedMaint := by
  have hrest := changesOnly_then (e := .notices :: movePieces) (maintTold_afterSteps s)
    (enterMaint_frame s.maintTold .forced true) rfl rfl
  rw [← forcedMaint_eq] at hrest
  by_cases hidle : s.job.state = .idle
  · rw [State.eventEnd, if_pos hidle]
    exact changesOnly_then (forcedSteps_frame_idle hidle) hrest rfl rfl
  · rw [State.eventEnd, if_neg hidle]
    exact changesOnly_then (forcedSteps_frame s) hrest rfl rfl

theorem forcedMaint_job (s : State) : s.forcedMaint.job = s.forcedSteps.job :=
  (enterMaint_job ..).trans ((maintTold_afterSteps s).kept .job (by decide))

/-- What is told where neither a test nor a wait or claim of the sequencer is touched. -/
theorem maintTold_host (hj : s.joined = true) (hidle : s.job.state = .idle) (hstate : s.seq.state = .online)
    (hnone : s.ownOfClass WKind.isCabinet = none) : s.maintTold.host
      = s.host.joinAll [s.noticeOf .forcedBypass s.newClaimId s.seq.history.length 1 2] := by
  have hsteps := forcedSteps_frame s
  have hus := clock_of_frame hsteps
  have hafter := (forcedSteps_afterRecord s).1
  rw [forcedRecord_idle hidle] at hafter
  have hown : (s.forcedSteps.onSeq (fun q => { q with planned := none })).ownOfClass WKind.isCabinet
      = some s.forcedEntry :=
    (ownOfClass_of_frame (changesOnly_then hafter (onSeq_frame ..) (e := [.slot, .sequencer, .notices]) rfl rfl)
      WKind.isCabinet).trans (recordForced_new hnone).2.1
  have hhost := forcedSteps_host hj hidle (by rw [hstate]; decide)
  rw [if_neg (by rw [hstate]; decide)] at hhost
  rw [State.maintTold, cabinetId_of_own hown, notify_host (by exact (joined_of_frame hsteps).trans hj),
    noticeOf_of_clock (s := s) (by exact hus), hstate]
  exact congrArg (fun h : HostPort => h.join _) hhost

/-- Settles O47: the maintenance bypass closing and opening, by the start-up state and the state of the sequencer. -/
theorem maintenanceBypass : Obligations.MaintenanceBypass := by
  intro w s hr shut opened mine acted
  refine ⟨fun hlevel => ?_, fun hlevel => ?_⟩
  · have hc : (!s.pins.mbsClosed) = true := by simp [hlevel]
    refine ⟨fun hs => onSwitch_level hr rfl hc hs, fun hs => onSwitch_found hr rfl hc hs, fun hs hm hstate => ?_,
      fun hs hstate hown => ⟨fun hvisit => ?_, fun hvisit hok hpairs => ?_⟩, fun hs hstate hown => ?_,
      fun hs hstate => ?_⟩
    · refine onSwitch_quiet hr rfl hc hs hm ?_
      have hstate' : (s.maintained true).seq.state = .maint := hstate
      show (s.maintained true).maintCloses = s.maintained true
      rw [State.maintCloses, hstate']
    · exact onSwitch_joined hr rfl hc hs ((maintCloses_static (s := s.maintained true) (mem_static.mp hstate)).trans
        (enterMaint_sanctioned (s := s.maintained true) hvisit hown ..))
    · have hexec := onSwitch_joined hr rfl hc hs
        (maintCloses_static (s := s.maintained true) (mem_static.mp hstate))
      have hown' : (s.maintained true).ownOfClass WKind.isCabinet = some w := hown
      have hvisit' : (s.maintained true).cabinetVisitOpen = false := hvisit
      obtain ⟨hseq, -⟩ := enterMaint_event (s.withStatusDue false) s.seq.state hown'
      obtain ⟨hmem, hsends, hraised⟩ := maint_unsanctioned (s := s.maintained true) (joined_of_state hs) hvisit' hown'
        hpairs (scope_of_cabinetOk hok hown) (s.withStatusDue false) s.seq.state
      refine ⟨_, hexec, hseq, hmem, hsends, hraised, finish_changes (s := s)
        (e := [.pins, .requests, .lamp, .sequencer, .withdrawals]) ?_ fun hidle => ?_⟩
      · exact changesOnly_into (changesOnly_cons (maintained_frame s true) (enterMaint_frame_closed hvisit' _))
      · rw [enterMaint_job]
        exact hidle
    · have hown' : (s.maintained true).ownOfClass WKind.isCabinet = some w := hown
      have htold := notify_frame (s.maintained true) .transferFault (s.maintained true).cabinetId 2 4 8
      have hexec := onSwitch_joined hr rfl hc hs (maintCloses_transferIn (s := s.maintained true)
        (back := s.seq.prior.getD .forced) hstate rfl)
      obtain ⟨hseq, -, hinv, hmem, hnotices⟩ := enterMaint_event (s.withStatusDue false) (s.seq.prior.getD .forced)
        ((ownOfClass_of_frame htold _).trans hown')
      have hseq' := hseq.trans (by rw [show ((s.maintained true).notify .transferFault
        (s.maintained true).cabinetId 2 4 8).seq = s.seq from htold.kept .sequencer (by decide)])
      refine ⟨_, hexec, congrArg Sequencer.state hseq', congrArg Sequencer.prior hseq', congrArg Sequencer.xfer hseq',
        hinv, ⟨_, hmem, (ownOfClass_some hown).2.1, rfl, rfl⟩, ?_, finish_changes (s := s)
          (e := [.pins, .requests, .lamp, .sequencer, .withdrawals, .visits]) ?_ fun hidle => ?_⟩
      · rw [notify_host (s := s.maintained true) (joined_of_state hs)] at hnotices
        rw [← cabinetId_of_own hown']
        exact hnotices
      · exact changesOnly_into (changesOnly_cons (maintained_frame s true)
          (changesOnly_then htold (enterMaint_frame ..) (e := movePieces) rfl rfl))
      · rw [enterMaint_job, show ((s.maintained true).notify .transferFault (s.maintained true).cabinetId 2 4 8).job
          = s.job from htold.kept .job (by decide)]
        exact hidle
    · have hj : (s.maintained true).joined = true := joined_of_state hs
      have hexec := onSwitch_joined hr rfl hc hs (maintCloses_inverter (s := s.maintained true) hstate)
      obtain ⟨y, hown, hforced⟩ := forcedSteps_own (s.maintained true)
      have hafter := maintTold_afterSteps (s.maintained true)
      have hown' := (ownOfClass_of_frame hafter WKind.isCabinet).trans hown
      obtain ⟨hseq, hbyp, -, hmem, hnotices⟩ := enterMaint_event (s.withStatusDue false) .forced hown'
      have htold := changesOnly_then (forcedSteps_frame (s.maintained true)) hafter
        (e := .claimIds :: .sequencer :: abortPieces) rfl rfl
      have himage : (s.maintained true).maintTold.image = s.image := htold.kept .image (by decide)
      have hvisit : (s.maintained true).maintTold.cabinetVisitOpen = s.cabinetVisitOpen :=
        cabinetVisitOpen_of_kept (htold.kept .visits (by decide))
      have hhistory : (s.maintained true).maintTold.seq.history = s.seq.history :=
        (congrArg Sequencer.history ((notify_frame ..).kept .sequencer (by decide))).trans
          (forcedSteps_history (s.maintained true))
      have hkeeps := (finish_abides (s.withStatusDue false) (s.maintained true).forcedMaint).toKeeps
      refine ⟨_, hexec, congrArg Sequencer.state hseq, congrArg Sequencer.prior hseq,
        (congrArg Sequencer.history hseq).trans hhistory, hbyp, ⟨_, hmem, ?_, rfl, hforced, fun hclosed => ?_⟩,
        fun hrun => ?_, fun hidle honline hnone => ?_, finish_changes (s := s)
          (e := [.pins, .requests, .lamp, .sequencer, .withdrawals, .claimIds, .slot, .visits])
          (changesOnly_cons (maintained_frame s true) (forcedMaint_changes (s.maintained true))) fun hidle => ?_⟩
      · rw [(asMaint_keeps ..).1, (ownOfClass_some hown').2.1]
        simp only [State.own, State.cfg, himage]
      · rw [hvisit, hclosed]
        simp [Withdrawal.asMaint]
      · have hover : (s.maintained true).forcedMaint.job.state = .idle := by
          rw [forcedMaint_job]
          exact (forcedSteps_test (s := s.maintained true) hj hrun).1
        exact (congrArg TestJob.state (hkeeps.idle hover).1).trans hover
      · rw [maintTold_host hj hidle honline hnone] at hnotices
        exact hnotices
      · rw [forcedMaint_job, show (s.maintained true).forcedSteps.job = s.job from
          (forcedSteps_frame_idle (s := s.maintained true) hidle).kept .job (by decide)]
        exact hidle
  · refine ⟨fun hs => onSwitch_level hr rfl hlevel hs, fun hs => onSwitch_found hr rfl hlevel hs, fun hs hm hstate => ?_,
      fun back hs hstate hprior hback hown => ⟨fun hfb => ?_, fun hfb => ?_⟩⟩
    · refine onSwitch_quiet hr rfl hlevel hs hm ?_
      exact if_neg hstate
    · exact onSwitch_joined hr rfl hlevel hs (maintOpens_static (s := s.maintained false) hstate rfl hfb hown hprior
        (mem_static.mp hback))
    · exact onSwitch_joined hr rfl hlevel hs (maintOpens_inverter (s := s.maintained false) (joined_of_state hs) hstate
        hfb hown)

end Sys2Proof.Machine

/-! PROOFS. The own CLAIM come home (section 4.4). -/

namespace Sys2Proof.Machine

-- One proof after another: side by side they ask for more thread stacks than there is memory for.
set_option Elab.async false

/-- Nothing stands against the own view: no duplicate, no entry lost, no DEFICIT (R81). -/
def State.clearView (s : State) : Prop :=
  s.view.duplicate = false ∧ s.claims.incomplete = false ∧ s.view.margin = .normal

theorem viewObstacle_clear {s : State} (h : s.clearView) : s.viewObstacle = none := by
  obtain ⟨hdup, hfull, hmargin⟩ := h
  rw [viewObstacle_eq, if_neg (by simp [hdup]), if_neg (by simp [hfull]), if_neg (by simp [hmargin])]

/-- What stands against a view that is not clear, in its order. -/
theorem viewObstacle_of_not_clear {s : State} (h : ¬ s.clearView) : s.viewObstacle = some
    (if s.view.duplicate = true then .duplicate
      else if s.claims.incomplete = true then .viewFull else .deficit) := by
  rw [viewObstacle_eq]
  by_cases hdup : s.view.duplicate = true
  · simp [hdup]
  by_cases hfull : s.claims.incomplete = true
  · simp [hdup, hfull]
  · have hdeficit : s.view.margin = .deficit := by
      cases hm : s.view.margin
      · exact absurd ⟨by simpa using hdup, by simpa using hfull, hm⟩ h
      · rfl
    simp [hdup, hfull, hdeficit]

/-- The CLAIM was visited by every PRESENT peer, and by a quorum (R81). -/
def State.heardBy (s : State) (b : List Byte) : Prop :=
  (∀ n ∈ s.peerNumbers, (s.peer n).state = .present → maskHas (frVisited b) n = true)
  ∧ s.cfg.quorum ≤ maskCount (frVisited b) + 1

/-- The test for UNHEARD is the negation of being heard. -/
theorem not_heardBy_iff (s : State) (b : List Byte) :
    (s.missingPeers (frVisited b) ≠ 0 ∨ maskCount (frVisited b) + 1 < s.cfg.quorum) ↔ ¬ s.heardBy b := by
  rw [State.heardBy, ← missingPeers_eq_zero, not_and_or, Nat.not_le]

/-- An objected CLAIM is CONTENDED for that reason, OBJECTED for another (R83). -/
theorem returnFailure_objected {s : State} {q : Request} {b : List Byte} (h : claimObjections b ≠ 0) :
    s.returnFailure q b = some (if claimReason b = 7 then ⟨.contended, 0, claimFirst b, 0, 0⟩
      else ⟨.objected, 0, claimFirst b, 0, claimReason b⟩) := by
  rw [State.returnFailure, if_pos h, apply_ite some]
  rfl

/-- An unobjected CLAIM that was not heard by all it should reach is UNHEARD (R83). -/
theorem returnFailure_unheard {s : State} {q : Request} {b : List Byte} (h : claimObjections b = 0)
    (hheard : ¬ s.heardBy b) :
    s.returnFailure q b = some ⟨.unheard, 0, 0, s.missingPeers (frVisited b), 0⟩ := by
  rw [State.returnFailure, if_neg (not_not.mpr h), if_pos ((not_heardBy_iff s b).mpr hheard)]

/-- A CLAIM unobjected and heard fails by the own re-check alone (R81, R83). -/
theorem returnFailure_heard {s : State} {q : Request} {b : List Byte} (h : claimObjections b = 0)
    (hheard : s.heardBy b) : s.returnFailure q b =
      (s.recheck (s.ownHyp q.kind q.scope)).map (fun r => ⟨.marginLocal, 0, 0, 0, r.code⟩) := by
  rw [State.returnFailure, if_neg (not_not.mpr h), if_neg (not_not.mpr hheard ∘ (not_heardBy_iff s b).mp)]
  cases s.recheck (s.ownHyp q.kind q.scope) <;> rfl

theorem recheck_clear {s : State} (h : s.clearView) (w : Hyp) : s.recheck w = s.policy.failing (s.totals [w]) := by
  rw [State.recheck, viewObstacle_clear h]

theorem recheck_of_not_clear {s : State} (h : ¬ s.clearView) (w : Hyp) : s.recheck w = some
    (if s.view.duplicate = true then .duplicate
      else if s.claims.incomplete = true then .viewFull else .deficit) := by
  rw [State.recheck, viewObstacle_of_not_clear h]

section
variable {s : State} {b : List Byte} {q : Request} {id tag d : Nat}

/-- A CLAIM that comes home with another tag is late (R84). -/
theorem claimReturned_late (h : s.claims.slot = .inFlight q id tag d) (htag : frTag b ≠ tag) :
    s.claimReturned b = s := by
  simp [State.claimReturned, h, htag]

theorem claimReturned_granted (h : s.claims.slot = .inFlight q id tag d) (htag : frTag b = tag)
    (hf : s.returnFailure q b = none) : s.claimReturned b = s.settleGranted q id := by
  simp [State.claimReturned, h, htag, hf]

theorem claimReturned_failed (h : s.claims.slot = .inFlight q id tag d) (htag : frTag b = tag) {f : Final}
    (hf : s.returnFailure q b = some f) : s.claimReturned b = s.settleFailed q id f := by
  simp [State.claimReturned, h, htag, hf]
end

/-- What a claim that succeeds has done when it is reported: its entry stands and its GRANT is queued; after
a give-up a GRANT and a DROP (R82). -/
def State.granted (s : State) (q : Request) (id : Nat) : State :=
  if q.givenUp then ((s.setSlot .free).sendGrant id q.kind q.scope).sendDrop id .released
  else ((s.setSlot .free).addOwnEntry (s.grantedEntry q id)).sendGrant id q.kind q.scope

theorem settleGranted_eq (s : State) (q : Request) (id : Nat) :
    s.settleGranted q id = (s.granted q id).report q ⟨.granted, id, 0, 0, 0⟩ := by
  unfold State.settleGranted State.granted
  split <;> rfl

theorem granted_frame (s : State) (q : Request) (id : Nat) :
    s.ChangesOnly [.withdrawals, .slot, .ownQueue] (s.granted q id) := by
  unfold State.granted
  refine changesOnly_ite ?_ ?_
  · exact changesOnly_then (changesOnly_then (setSlot_frame ..) (sendGrant_frame ..) (e := [.slot, .ownQueue])
      rfl rfl) (sendDrop_frame ..) rfl rfl
  · exact changesOnly_then (changesOnly_then (setSlot_frame ..) (addOwnEntry_frame ..)
      (e := [.withdrawals, .slot]) rfl rfl) (sendGrant_frame ..) rfl rfl

/-- A GRANT or a DROP that finds room joins the queue behind the others. -/
theorem queueOwn_length {s : State} {k : FrameKind} (hk : k ≠ .status) (id : Nat) (body : List Byte)
    (hroom : s.loop.queue.length < 8) :
    (s.queueOwn k id body).1.loop.queue.length = s.loop.queue.length + 1 := by
  show (joinQueue _ (queueFor k s.loop.queue) _).1.length = _
  have hfor : queueFor k s.loop.queue = s.loop.queue := if_neg hk
  rw [hfor, joinQueue, if_pos hroom]
  simp

theorem sendGrant_sends (s : State) (id : Nat) (k : WKind) (c : Scope) (hroom : s.loop.queue.length < 8) :
    (s.sendGrant id k c).sends .grant id (le8 id ++ le8 (kindScopeCode k c)) :=
  queueOwn_sends s .grant id _ hroom

theorem sendDrop_sends (s : State) (id : Nat) (r : DropReason) (hroom : s.loop.queue.length < 8) :
    (s.sendDrop id r).sends .drop id (le8 id ++ le8 r.code) :=
  queueOwn_sends s .drop id _ hroom

theorem granted_sends {s : State} {q : Request} (h : q.givenUp = false) (id : Nat)
    (hroom : s.loop.queue.length < 8) :
    (s.granted q id).sends .grant id (le8 id ++ le8 (kindScopeCode q.kind q.scope)) := by
  rw [State.granted, if_neg (by simp [h])]
  exact sendGrant_sends _ _ _ _ hroom

theorem granted_sends_givenUp {s : State} {q : Request} (h : q.givenUp = true) (id : Nat)
    (hroom : s.loop.queue.length < 7) :
    (s.granted q id).sends .grant id (le8 id ++ le8 (kindScopeCode q.kind q.scope))
    ∧ (s.granted q id).sends .drop id (le8 id ++ le8 2) := by
  have hlength := queueOwn_length (s := s.setSlot .free) (k := .grant) (by decide) id
    (le8 id ++ le8 (kindScopeCode q.kind q.scope)) (show s.loop.queue.length < 8 by omega)
  rw [State.granted, if_pos h]
  exact ⟨sends_queueOwn (sendGrant_sends _ _ _ _ (show s.loop.queue.length < 8 by omega)) (by decide) ..,
    sendDrop_sends _ _ _ (by
      have : (s.setSlot .free).loop.queue.length < 7 := hroom
      exact (show ((s.setSlot .free).sendGrant id q.kind q.scope).loop.queue.length = _ from hlength) ▸ by omega)⟩

/-- Settles O39: the return fails by the first condition that fails, and is granted where none does. -/
theorem claimReturn : Obligations.ClaimReturn := by
  intro b q id tag d s hslot heard quorum own clear code freed
  refine ⟨claimReturned_late hslot, fun htag => ?_⟩
  have hfailed : ∀ {f}, s.returnFailure q b = some f → s.claimReturned b = s.settleFailed q id f :=
    fun hf => claimReturned_failed hslot htag hf
  refine ⟨fun hobj hheard hquorum hclear htests => ?_, fun hobj hreason => ?_, fun hobj hreason => ?_,
    fun hobj hheard => hfailed (returnFailure_unheard hobj hheard),
    fun hobj hheard hquorum hclear => ?_, fun r hobj hheard hquorum hclear htests => ?_⟩
  · have hnone : s.returnFailure q b = none := by
      rw [returnFailure_heard hobj ⟨hheard, hquorum⟩, recheck_clear hclear]
      exact congrArg (Option.map _) htests
    refine ⟨s.granted q id, (claimReturned_granted hslot htag hnone).trans (settleGranted_eq ..),
      granted_frame .., fun hg => ?_, fun hg => ?_⟩
    · have heq : s.granted q id = _ := if_neg (by simp [hg])
      exact ⟨by rw [heq]; rfl, by rw [heq]; rfl, granted_sends hg id⟩
    · have heq : s.granted q id = _ := if_pos hg
      exact ⟨by rw [heq]; rfl, granted_sends_givenUp hg id⟩
  · exact hfailed ((returnFailure_objected hobj).trans (congrArg some (if_pos hreason)))
  · exact hfailed ((returnFailure_objected hobj).trans (congrArg some (if_neg hreason)))
  · refine hfailed ?_
    rw [returnFailure_heard hobj ⟨hheard, hquorum⟩, recheck_of_not_clear hclear]
    rfl
  · refine hfailed ?_
    rw [returnFailure_heard hobj ⟨hheard, hquorum⟩, recheck_clear hclear]
    exact congrArg (Option.map _) htests

end Sys2Proof.Machine

/-! PROOFS. Failed claims, their retries, and the claim and retry timers (sections 4.2 and 4.4). -/

namespace Sys2Proof.Machine

-- One proof after another: side by side they ask for more thread stacks than there is memory for.
set_option Elab.async false

/-- A failed claim when its outcome is retried or reported: the slot is FREE and its DROP is queued (R83). -/
def State.failed (s : State) (id : Nat) : State := (s.setSlot .free).sendDrop id .failed

theorem failed_frame (s : State) (id : Nat) : s.ChangesOnly [.slot, .ownQueue] (s.failed id) :=
  changesOnly_then (setSlot_frame ..) (sendDrop_frame ..) rfl rfl

/-- CONTENDED, UNHEARD and LOST are retried (R85). -/
theorem settleFailed_retried {s : State} {f : Final} (h : f.outcome = .contended ∨ f.outcome = .unheard ∨ f.outcome = .lost)
    (q : Request) (id : Nat) : s.settleFailed q id f = (s.failed id).retryOrEnd q f := by
  unfold State.settleFailed
  obtain h | h | h := h <;> rw [h] <;> rfl

theorem retryDelay_eq {s : State} {o : ClaimOutcome} (h : o = .contended ∨ o = .unheard ∨ o = .lost) :
    s.retryDelay o = if o = .contended then 20 + s.own * 10 else s.cfg.claimTimeout := by
  obtain rfl | rfl | rfl := h <;> rfl

/-- OBJECTED and MARGIN_LOCAL are final (R85). -/
theorem settleFailed_final {s : State} {f : Final} (h : f.outcome = .objected ∨ f.outcome = .marginLocal)
    (q : Request) (id : Nat) : s.settleFailed q id f = (s.failed id).report q f := by
  unfold State.settleFailed
  obtain h | h := h <;> rw [h] <;> rfl

theorem claimDue_of_inFlight {s : State} {q : Request} {id tag d : Nat} (h : s.claims.slot = .inFlight q id tag d)
    (hd : d ≤ s.now) : s.claimDue = true := by
  simp [State.claimDue, h, hd]

theorem retryDue_of_retryWait {s : State} {q : Request} {d : Nat} (h : s.claims.slot = .retryWait q d)
    (hd : d ≤ s.now) : s.retryDue = true := by
  simp [State.retryDue, h, hd]

/-- The claim timer takes a CLAIM still queued out of the queue and makes it LOST (R84, R159). -/
theorem claimExpires_inFlight {s : State} {q : Request} {id tag d : Nat} (h : s.claims.slot = .inFlight q id tag d) :
    s.claimExpires = (s.unqueueClaim tag).settleFailed q id ⟨.lost, 0, 0, 0, 0⟩ := by
  simp [State.claimExpires, h, Final.bare]

section
variable {s : State} {q : Request} {d : Nat}

/-- A retry that the local check refuses ends REFUSED (R85). -/
theorem retryExpires_refused (h : s.claims.slot = .retryWait q d) {r : Reason}
    (hr : s.localCheck (s.ownHyp q.kind q.scope) = some r) :
    s.retryExpires = (s.setSlot .free).report { q with retries := q.retries + 1 } ⟨.refused, 0, 0, 0, r.code⟩ := by
  simp [State.retryExpires, State.finalOutcome, h, hr]

theorem retryExpires_sent (h : s.claims.slot = .retryWait q d)
    (hr : s.localCheck (s.ownHyp q.kind q.scope) = none) :
    s.retryExpires = s.sendClaim { q with retries := q.retries + 1 } := by
  simp [State.retryExpires, h, hr]
end

/-- Settles O40: the branches of a failed claim's settlement, and the two timers' events. -/
theorem failedClaimsAndTimers : Obligations.FailedClaimsAndTimers := by
  refine ⟨fun q id f s => ⟨s.failed id, rfl, failed_frame s id, sendDrop_sends _ id .failed, fun hf => ?_,
    fun hf => settleFailed_final hf q id⟩, fun q id tag d s hr hslot hd => ?_, fun q d s hr hslot hd => ?_⟩
  · rw [settleFailed_retried hf]
    refine ⟨fun hg => if_pos hg, fun hg hlimit => ?_, fun hg hlimit => ?_⟩
    · exact (if_neg (by simp [hg])).trans (if_pos hlimit)
    · refine ((if_neg (by simp [hg])).trans (if_neg (Nat.not_le.mpr hlimit))).trans ?_
      rw [retryDelay_eq hf]
      rfl
  · have hbody : (s.withStatusDue false).claimExpires
        = ((s.withStatusDue false).unqueueClaim tag).settleFailed q id ⟨.lost, 0, 0, 0, 0⟩ :=
      claimExpires_inFlight (s := s.withStatusDue false) hslot
    exact event_ends (body := State.claimExpires) hr (claimDue_of_inFlight hslot hd) hbody
  · refine ⟨fun r hcheck => ?_, fun hcheck hm => ?_⟩
    · exact event_ends hr (retryDue_of_retryWait hslot hd)
        (retryExpires_refused (s := s.withStatusDue false) hslot ((localCheck_withStatusDue ..).trans hcheck))
    · have hnext : exec .retryTimerExpiry s
          = .next ((s.withStatusDue false).sendClaim { q with retries := q.retries + 1 }) :=
        event_outside hr (retryDue_of_retryWait hslot hd) hm
          (retryExpires_sent (s := s.withStatusDue false) hslot ((localCheck_withStatusDue ..).trans hcheck))
          (sendClaim_frame ..) rfl
      exact ⟨_, hnext, rfl, rfl, fun hroom => sendClaim_sends (s.withStatusDue false) _ hroom,
        frame_of_event (sendClaim_frame ..)⟩

end Sys2Proof.Machine

/-! PROOFS. What a requester does with a final outcome (sections 2.2, 2.3, 4.4, 5.3 and 6.2). -/

namespace Sys2Proof.Machine

-- One proof after another: side by side they ask for more thread stacks than there is memory for.
set_option Elab.async false

variable {s : State} {q : Request} {f : Final}

/-! ### The ageing unit (R39, R40) -/

/-- TEST_DENIED brings the job back to IDLE with its notice (R40). -/
theorem testDenied_eq (hj : s.joined = true) (o : ClaimOutcome) (a b : Nat) : s.testDenied o a b = { s with
    job := TestJob.blank
    host := s.host.join (s.noticeOf .testDenied s.job.k o.code a b) } :=
  notify_eq (s := s.jobIdle) hj ..

theorem report_ageing (h : q.requester = .ageing) (s : State) (f : Final) : s.report q f = s.reportTest f := by
  simp [State.report, h]

theorem reportTest_givenUp (hc : s.job.state = .claiming) {c : AbortCause} (h : s.job.givenUp = some c) (f : Final) :
    s.reportTest f = s.testDenied f.outcome f.objector c.code := by
  simp [State.reportTest, hc, h]

theorem reportTest_failed (hc : s.job.state = .claiming) (h : s.job.givenUp = none) (hf : f.outcome ≠ .granted) :
    s.reportTest f = s.testDenied f.outcome f.objector f.testReason := by
  simp [State.reportTest, hc, h, hf]

theorem reportTest_granted (hc : s.job.state = .claiming) (h : s.job.givenUp = none) (hf : f.outcome = .granted) :
    s.reportTest f = if s.testFit s.job.k then s.startTest f.id
      else (s.release WKind.isTest).testDenied .granted 0 codeStringUnfit := by
  simp [State.reportTest, hc, h, hf]

/-- The second check of a granted test, on the string as it stands (R39). -/
theorem testFit_iff {k : Nat} {x : StringRec} (hx : s.strings[k]? = some x) : s.testFit k = true ↔
    x.state = .inService ∧ x.unmeasured = false ∧ 9000 ≤ x.soc
      ∧ (x.cls ≠ .ended ∨ ({ x with testCap := none }.recompute (s.params k) false).cls ≠ .ended) := by
  simp [State.testFit, hx, StringRec.endOk, StringRec.classUncapped]
  tauto

/-- A test that starts: the string is out of service with a new record, DISCH_REQ is asserted and the limit
timer runs (R39). -/
theorem startTest_eq (hj : s.joined = true) {x : StringRec} (hx : s.strings[s.job.k]? = some x) (id : Nat) :
    s.startTest id = { s with
      statusDue := true
      strings := s.strings.set s.job.k { x with
        state := .test, eAvail := 0
        lastTest := some ⟨s.now, x.soc, s.job.target, s.job.limitMin, 0, none, none, none⟩ }
      outs := { s.outs with dischReq := true }
      job := { s.job with
        state := .running, limitAt := some (s.now + s.job.limitMin * 60000) }
      host := s.host.join (s.noticeOf .testStarted s.job.k id x.soc s.job.limitMin) } := by
  have hlength : s.job.k < s.strings.length := (List.getElem?_eq_some_iff.mp hx).1
  simp only [State.startTest, hx]
  rw [notify_eq (by exact hj), State.setStringState, onString_eq hx,
    onString_eq (x := { x with lastTest := some (newLastTest s.now x.soc s.job.target s.job.limitMin) })
      (by simp [State.withStrings, hlength])]
  simp only [withStrings_strings, List.set_set]
  rfl

/-! ### The sequencer (R104, R106, R112) -/

theorem report_sequencer (h : q.requester = .sequencer) (s : State) (f : Final) :
    s.report q f = s.reportSeq q.lastId f := by
  simp [State.report, h]

theorem readyForBypass_iff (s : State) : s.readyForBypass = true ↔ s.phase.lock = 4 ∧ s.seq.bypOk = true := by
  simp [State.readyForBypass, State.locked]

/-- A claim that fails brings the sequencer back to ONLINE with its notice (R104). -/
theorem backOnline_eq (hj : s.joined = true) (id a b c : Nat) :
    (s.onSeq (fun x => { x with pending := false })).goOnline.transferResult id a b c = { s with
      seq := { s.seq with
        state := .online, prior := none, planned := none, pending := false, syncAt := none
        xfer := none, retransferAt := none }
      outs := { s.outs with xferByp := false, xferInv := false, mbsPermit := false }
      host := s.host.join (s.noticeOf .transferResult id a b c) } := by
  rw [State.transferResult, goOnline_eq, notify_eq (by exact hj)]
  rfl

theorem withSeq_release (s : State) (x : Sequencer) (c : WKind → Bool) :
    (s.withSeq x).release c = (s.release c).withSeq x := by
  have hsame : (s.withSeq x).ownOfClass c = s.ownOfClass c := rfl
  cases hw : s.ownOfClass c with
  | none => rw [release_none (hsame.trans hw), release_none hw]
  | some w =>
    unfold State.release State.removeEntries
    simp only [hsame.trans hw, hw]
    by_cases hany : s.claims.list.any (fun x => x.isFor s.own w.claimId && c x.kind)
    · rw [if_pos hany, if_pos (by exact hany)]
      rfl
    · rw [if_neg hany, if_neg (by exact hany)]
      rfl

/-! ### The visit unit (R129, R130) -/

theorem report_visit (h : q.requester = .visit) (s : State) (f : Final) : s.report q f = s.reportVisit f := by
  simp [State.report, h]

theorem reportVisit_admitting {v : Visit} (hcur : s.visit.current = some v) (ha : v.admitting = true) (f : Final) :
    s.reportVisit f = if f.outcome = .granted ∧ v.givenUp = false then s.admitVisit
      else s.refuseVisit f.outcome f.second f.reason := by
  simp [State.reportVisit, hcur, ha]

/-- A visit that is admitted is OPEN, with the lamp as its scope gives it and its notice (R129). -/
theorem admitVisit_eq (hj : s.joined = true) {v : Visit} (hcur : s.visit.current = some v) : s.admitVisit = { s with
    visit := { s.visit with current := some { v with admitting := false } }
    outs := { s.outs with mbsPermit := s.seq.state.onStatic && v.scope == .cabinet }
    host := s.host.join
      (s.noticeOf .visitOpened v.visitId v.scope.code (v.tech / 1000 : Nat) v.planned) } := by
  have hcurrent : s.onCurrent (fun v => { v with admitting := false })
      = { s with visit := { s.visit with current := some { v with admitting := false } } } := by
    rw [State.onCurrent, State.onVisit, hcur]
    rfl
  have hpermit : (s.onCurrent (fun v => { v with admitting := false })).permitNow
      = (s.seq.state.onStatic && v.scope == .cabinet) := by
    rw [hcurrent]
    exact congrArg (s.seq.state.onStatic && ·) (Bool.and_true _)
  rw [State.admitVisit, State.formPermit, hpermit, hcurrent]
  exact notify_eq (by exact hj) ..

/-- A visit that is not admitted goes to the history with its notice (R130). -/
theorem refuseVisit_eq (hj : s.joined = true) {v : Visit} (hcur : s.visit.current = some v) (o : ClaimOutcome)
    (a b : Nat) : s.refuseVisit o a b = { s with
      visit := { s.visit with current := none, history := s.visitHistory v (some (o, v.givenUp)) }
      outs := { s.outs with mbsPermit := false }
      host := s.host.join (s.noticeOf .visitNotAdmitted v.visitId o.code a (if v.givenUp then 12 else b : Nat)) } := by
  simp only [State.refuseVisit, hcur]
  rw [retireVisit_eq hcur, notify_eq (by exact hj), Nat.cast_ite]
  rfl

/-- Settles O41: each requester's branches of a final outcome. -/
theorem outcomesReported : Obligations.OutcomesReported := by
  intro q f s hs
  have hj := joined_of_state hs
  refine ⟨?_, ?_, ?_⟩
  · intro hq hc k denied
    rw [report_ageing hq]
    have hdenied : ∀ {x : Nat}, s.reportTest f = s.testDenied f.outcome f.objector x → s.reportTest f = denied x :=
      fun h => h.trans (testDenied_eq hj ..)
    refine ⟨fun c h => hdenied (reportTest_givenUp hc h f), fun h hf => ?_, fun h hg ho hr => ?_, ?_⟩
    · refine hdenied ((reportTest_failed hc h ?_).trans ?_)
      · obtain hf | hf := hf <;> simp [hf]
      · obtain hf | hf := hf <;> simp [Final.testReason, hf]
    · refine hdenied ((reportTest_failed hc h hg).trans ?_)
      cases hf : f.outcome <;> simp_all [Final.testReason]
    intro x h hg hx fit
    refine ⟨fun hfit => ?_, fun hfit => ?_⟩
    · rw [reportTest_granted hc h hg, if_pos ((testFit_iff hx).mpr hfit)]
      exact startTest_eq hj hx f.id
    · refine ⟨s.release WKind.isTest, rfl, ?_⟩
      rw [reportTest_granted hc h hg, if_neg (fun h => hfit ((testFit_iff hx).mp h))]
      obtain ⟨-, -, hhost, hus, hstartup⟩ := release_leaves s WKind.isTest
      have hjob : (s.release WKind.isTest).job = s.job := (release_frame s WKind.isTest).kept .job (by decide)
      rw [testDenied_eq (by rw [State.joined, hstartup]; exact hj), hhost, hjob, noticeOf_of_clock hus]
      rfl
  · intro hq result online
    rw [report_sequencer hq]
    refine ⟨fun h => ?_, fun h hg hlock hok => ?_, fun h hg hlost => ?_, fun h hg => ?_⟩
    · rw [State.reportSeq, if_pos h]
      exact notify_eq (by exact hj) ..
    · rw [State.reportSeq, if_neg (by simp [h]), if_pos hg, if_pos ((readyForBypass_iff s).mpr ⟨hlock, hok⟩)]
      rfl
    · have hready : ¬ s.readyForBypass = true := by
        rw [readyForBypass_iff]
        rintro ⟨hlock, hok⟩
        simp [hlock, hok] at hlost
      rw [State.reportSeq, if_neg (by simp [h]), if_pos hg, if_neg hready]
      refine (release_goOnline_notify (s := s.withSeq { s.seq with pending := false }) hj .transferResult q.lastId
        resultSyncLost 0 0).trans ?_
      obtain ⟨-, houts, -⟩ := release_leaves s WKind.isCabinet
      rw [withSeq_release]
      exact congrArg (fun (o : Lines) => result { online (s.release WKind.isCabinet) with
        outs := { o with xferByp := false, xferInv := false, mbsPermit := false } } 10 0 0) houts.symm
    · rw [State.reportSeq, if_neg (by simp [h]), if_neg hg]
      exact backOnline_eq hj q.lastId f.outcome.code f.second f.reason
  · intro v hq hcur ha opened
    rw [report_visit hq, reportVisit_admitting hcur ha]
    refine ⟨fun hg hkept => ?_, fun h => ?_⟩
    · rw [if_pos ⟨hg, hkept⟩]
      exact admitVisit_eq hj hcur
    · rw [if_neg (by rintro ⟨hg, hkept⟩; simp [hg, hkept] at h)]
      exact refuseVisit_eq hj hcur ..

end Sys2Proof.Machine

/-! PROOFS. Silent peers, the status period, FORGET_STATION, and the timers and releases of the withdrawal list
(sections 3.2 to 3.4, 4.5 and 4.7). -/

namespace Sys2Proof.Machine

-- One proof after another: side by side they ask for more thread stacks than there is memory for.
set_option Elab.async false

variable {s : State}

/-! ### Entries that leave the list, or change in it -/

theorem blt_eq_decide (a b : Nat) : Nat.blt a b = decide (a < b) := by
  rw [Bool.eq_iff_iff]
  simp

theorem ble_eq_decide (a b : Nat) : Nat.ble a b = decide (a ≤ b) := by
  rw [Bool.eq_iff_iff]
  simp

/-- A removal, whether it finds an entry or not (R74). -/
theorem removeEntries_eq (s : State) (p : Withdrawal → Bool) : s.removeEntries p = s.withClaims { s.claims with
    list := s.claims.list.filter (fun w => !p w)
    incomplete := s.claims.incomplete
      && (!s.claims.list.any p || decide (28 < (s.claims.list.filter (fun w => !p w)).length)) } := by
  unfold State.removeEntries
  by_cases hany : s.claims.list.any p = true
  · rw [if_pos hany, hany, Bool.not_true, Bool.false_or, ← blt_eq_decide]
    rfl
  · have hall : s.claims.list.filter (fun w => !p w) = s.claims.list := by
      rw [List.filter_eq_self]
      intro w hw
      simpa using fun hp => hany (List.any_eq_true.mpr ⟨w, hw, hp⟩)
    rw [if_neg hany, hall, Bool.eq_false_iff.mpr hany, Bool.not_false, Bool.true_or, Bool.and_true]
    rfl

/-- A removal that finds an entry. -/
theorem removeEntries_found {p : Withdrawal → Bool} {w : Withdrawal} (hw : w ∈ s.claims.list) (hp : p w = true) :
    s.removeEntries p = s.withClaims { s.claims with
      list := s.claims.list.filter (fun w => !p w)
      incomplete := s.claims.incomplete && decide (28 < (s.claims.list.filter (fun w => !p w)).length) } := by
  rw [removeEntries_eq, List.any_eq_true.mpr ⟨w, hw, hp⟩, Bool.not_true, Bool.false_or]

/-- A release takes its entry out of the list (R95). -/
theorem release_claims {c : WKind → Bool} {w : Withdrawal} (hw : s.ownOfClass c = some w) :
    (s.release c).claims = { s.claims with
      list := s.claims.list.filter (fun x => !(x.owner == s.own && x.claimId == w.claimId && c x.kind))
      incomplete := s.claims.incomplete && decide (28 < (s.claims.list.filter
        (fun x => !(x.owner == s.own && x.claimId == w.claimId && c x.kind))).length) } := by
  obtain ⟨hmem, howner, hkind⟩ := ownOfClass_some hw
  have hremoved := removeEntries_found (p := fun x => x.isFor s.own w.claimId && c x.kind) hmem
    (by simp [Withdrawal.isFor, howner, hkind])
  unfold State.release
  simp only [hw]
  exact congrArg State.claims hremoved

theorem ownOfClass_eq_none {c : WKind → Bool} (h : ∀ w ∈ s.ownWithdrawals, c w.kind = false) :
    s.ownOfClass c = none := by
  rw [State.ownOfClass, List.find?_eq_none]
  exact fun w hw => by simp [h w hw]

theorem release_statusDue {c : WKind → Bool} {w : Withdrawal} (hw : s.ownOfClass c = some w) :
    (s.release c).statusDue = true := by
  simp only [State.release, hw]
  rfl

/-! ### Silent peers (R58) -/

theorem silentFor_of {n : Nat} {x : EntryState} {times : Nat} (hj : s.joined = true) (hn : isStation n = true)
    (hpeer : n ≠ s.own) (hx : (s.peer n).state = x) (hage : times * (s.peer n).core.period < (s.peer n).age) :
    s.silentFor n x times = true := by
  simp [State.silentFor, hj, hn, hpeer, hx, hage]

theorem movePeer_eq (hj : s.joined = true) (n : Nat) (x : EntryState) : s.movePeer n x = { s with
    view := { s.view with peers := s.view.peers.set (n - 1) { s.peer n with state := x } }
    host := s.host.join (s.noticeOf .peerState n (s.peer n).state.code x.code (s.peer n).core.period) } :=
  notify_eq (s := s.setPeer n { s.peer n with state := x }) hj ..

/-! ### FORGET_STATION (R62) -/

/-- What FORGET_STATION does in JOINED. -/
def State.forgetCommand (r : List Byte) (s : State) : State :=
  let n := arg8 r 0
  if !isStation n then s.badArg 1
  else if n = s.own ∨ (s.peer n).state ≠ .lost then s.badState 0
  else (s.forget n).answer .ok (le8 (s.claims.list.filter (fun w => w.owner == n)).length)

theorem isStation_iff (n : Nat) : isStation n = true ↔ 1 ≤ n ∧ n ≤ 16 := by
  simp [isStation]

theorem forgetCommand_range {r : List Byte} (h : arg8 r 0 < 1 ∨ 16 < arg8 r 0) :
    s.forgetCommand r = s.badArg 1 := by
  have hn : (!isStation (arg8 r 0)) = true := by
    rw [Bool.not_eq_true', ← Bool.not_eq_true, isStation_iff]
    omega
  exact if_pos hn

theorem forgetCommand_station {r : List Byte} (hlo : 1 ≤ arg8 r 0) (hhi : arg8 r 0 ≤ 16) : s.forgetCommand r =
    if arg8 r 0 = s.own ∨ (s.peer (arg8 r 0)).state ≠ .lost then s.badState 0
    else (s.forget (arg8 r 0)).answer .ok (le8 (s.claims.list.filter (fun w => w.owner == arg8 r 0)).length) :=
  if_neg (by simp [(isStation_iff _).mpr ⟨hlo, hhi⟩])

/-- An accepted FORGET_STATION with its reply. -/
theorem forget_answer {r : List Byte} {d : Nat} (hj : s.joined = true) (hslot : s.host.slot = .pending r d) (n : Nat)
    (b : List Byte) : (s.forget n).answer .ok b = { s with
      view := { s.view with peers := s.view.peers.set (n - 1) PeerEntry.blank }
      claims := { s.claims with
        list := s.claims.list.filter (fun w => !(w.owner == n))
        incomplete := s.claims.incomplete && (!s.claims.list.any (fun w => w.owner == n)
          || decide (28 < (s.claims.list.filter (fun w => !(w.owner == n))).length)) }
      host := { s.host.join (s.noticeOf .peerState n 4 1 1000) with slot := replyTo r .ok b } } := by
  have hforgotten : s.forget n = { s with
      view := { s.view with peers := s.view.peers.set (n - 1) PeerEntry.blank }
      claims := { s.claims with
        list := s.claims.list.filter (fun w => !(w.owner == n))
        incomplete := s.claims.incomplete && (!s.claims.list.any (fun w => w.owner == n)
          || decide (28 < (s.claims.list.filter (fun w => !(w.owner == n))).length)) }
      host := s.host.join (s.noticeOf .peerState n 4 1 1000) } := by
    rw [State.forget, notify_eq (s := s.setPeer n PeerEntry.blank) hj, removeEntries_eq]
    rfl
  rw [hforgotten, answer_pending (r := r) (d := d) ((join_slot ..).trans hslot)]
  rfl

/-! ### The timers of the list (R90, R96) -/

/-- The entries a hold expiry takes out of the list. -/
theorem holdDue_eq (s : State) (w x : Withdrawal) : (x.isFor w.owner w.claimId && s.holdDue x)
    = (x.owner == w.owner && x.claimId == w.claimId && !x.active
      && decide (x.enteredMs + 10 * s.cfg.statusPeriod ≤ s.now)) := by
  rw [Withdrawal.isFor, State.holdDue, ble_eq_decide, Bool.and_assoc _ (!x.active)]

theorem overdueDue_of {w : Withdrawal} {m : Nat} (howner : w.owner = s.own) (hkind : w.kind ≠ .test)
    (hover : w.overdue = false) (hplanned : w.planned = some m) (hdue : w.enteredMs + m * 60000 ≤ s.now) :
    s.overdueDue w = true := by
  simp [State.overdueDue, howner, WKind.isTest, hkind, hover, hplanned, hdue]

/-- Where one own entry bears the claim id, it is the one found overdue. -/
theorem find_overdue {w : Withdrawal} (hw : w ∈ s.claims.list) (hdue : s.overdueDue w = true)
    (honly : ∀ x ∈ s.claims.list, x.owner = s.own → x.claimId = w.claimId → x = w) :
    s.claims.list.find? (fun x => x.claimId == w.claimId && s.overdueDue x) = some w := by
  have hfound : (s.claims.list.find? (fun x => x.claimId == w.claimId && s.overdueDue x)).isSome = true :=
    List.find?_isSome.mpr ⟨w, hw, by simp [hdue]⟩
  obtain ⟨x, hx⟩ := Option.isSome_iff_exists.mp hfound
  have hp := List.find?_some hx
  simp only [State.overdueDue, Bool.and_eq_true, beq_iff_eq] at hp
  obtain ⟨hid, ⟨⟨howner, -⟩, -⟩, -⟩ := hp
  rw [hx, honly x (List.mem_of_find?_eq_some hx) howner hid]

theorem markOverdue_eq (hj : s.joined = true) {w : Withdrawal} {m : Nat} (howner : w.owner = s.own)
    (hplanned : w.planned = some m) (honly : ∀ x ∈ s.claims.list, x.owner = s.own → x.claimId = w.claimId → x = w) :
    s.markOverdue w = { s with
      claims := { s.claims with
        list := s.claims.list.map (fun x => if x = w then { x with overdue := true } else x) }
      host := s.host.join (s.noticeOf .withdrawalOverdue w.claimId w.kind.code w.scope.code m) } := by
  have hlist : s.claims.list.map (fun x => if x.isFor s.own w.claimId then { x with overdue := true } else x)
      = s.claims.list.map (fun x => if x = w then { x with overdue := true } else x) := by
    refine List.map_congr_left fun x hx => if_congr ?_ rfl rfl
    simp only [Withdrawal.isFor, Bool.and_eq_true, beq_iff_eq]
    exact ⟨fun ⟨ho, hid⟩ => honly x hx ho hid, fun h => by rw [h]; exact ⟨howner, rfl⟩⟩
  rw [State.markOverdue, State.updateEntries, hlist, hplanned]
  exact notify_eq (by exact hj) ..

/-- Settles O38: each timer's event, the branches of FORGET_STATION, and a release. -/
theorem floorTimersAndForget : Obligations.FloorTimersAndForget := by
  refine ⟨fun s hr hs => ⟨fun n hn hpeer => ?_, fun ⟨d, hd, hdue⟩ => ?_, fun r ht => ?_⟩, fun s hr hs =>
    ⟨fun w hw hactive hdue => ?_, fun w hw m howner hkind hover hplanned hdue honly => ?_, fun c => ⟨fun hnone =>
      release_none (ownOfClass_eq_none hnone), fun w hw => ⟨release_claims hw, release_statusDue hw, release_frame s c,
        release_sends hw⟩⟩⟩⟩
  all_goals have hj := joined_of_state hs
  · intro e moved
    exact ⟨fun hx hage => event_ends hr (silentFor_of hj hn hpeer hx hage)
        (movePeer_eq (s := s.withStatusDue false) hj n .stale),
      fun hx hage => event_ends hr (silentFor_of hj hn hpeer hx hage)
        (movePeer_eq (s := s.withStatusDue false) hj n .lost)⟩
  · exact event_ends hr (by rw [hj]; exact isDue_of_le ⟨d, hd, hdue⟩) rfl
  · intro n gone l
    have hexec : exec .forgetStation s = s.command .forgetStation (fun r s => s.whenJoined (State.forgetCommand r)) := rfl
    refine ⟨fun hn hm => ?_, fun hlo hhi hbad hm => ?_, fun hlo hhi hpeer hlost => ?_⟩
    · exact command_joined_reply ht hm hs (forgetCommand_range hn)
    · exact command_joined_reply ht hm hs ((forgetCommand_station hlo hhi).trans (if_pos hbad))
    · obtain ⟨d, hslot⟩ := ht.2.1
      have hbody := (forgetCommand_station (s := s.withStatusDue false) hlo hhi).trans
        (if_neg (not_or.mpr ⟨hpeer, not_not.mpr hlost⟩))
      exact command_ends (body := State.forgetCommand) ht hj
        (hbody.trans (forget_answer (s := s.withStatusDue false) hj hslot (arg8 r 0) _))
  · intro l
    have hfound : (s.joined && s.claims.list.any (fun x => x.isFor w.owner w.claimId && s.holdDue x)) = true := by
      rw [hj, Bool.true_and]
      exact List.any_eq_true.mpr ⟨w, hw, by simp [holdDue_eq, hactive, hdue]⟩
    have hremoved := removeEntries_found (s := s.withStatusDue false)
      (p := fun x => x.isFor w.owner w.claimId && s.holdDue x) hw (by simp [holdDue_eq, hactive, hdue])
    simp only [holdDue_eq] at hremoved
    refine event_ends hr hfound (.trans ?_ hremoved)
    exact congrArg (State.removeEntries _) (funext fun x => holdDue_eq (s.withStatusDue false) w x)
  · have hoverdue := overdueDue_of howner hkind hover hplanned hdue
    have hany : (s.joined && s.claims.list.any (fun x => x.claimId == w.claimId && s.overdueDue x)) = true := by
      rw [hj, Bool.true_and]
      exact List.any_eq_true.mpr ⟨w, hw, by simp [hoverdue]⟩
    have hfind := find_overdue (s := s.withStatusDue false) hw hoverdue honly
    refine event_ends hr hany (.trans ?_ (markOverdue_eq (s := s.withStatusDue false) hj howner hplanned honly))
    rw [hfind]

end Sys2Proof.Machine

/-! PROOFS. A completed frame that passes its checks, and frames of the own number (section 7.4). -/

namespace Sys2Proof.Machine

-- One proof after another: side by side they ask for more thread stacks than there is memory for.
set_option Elab.async false

variable {s t : State} {p : Port} {b : List Byte} {rest : List (List Byte)} {f : List Piece}

/-! ### A change of one port -/

theorem onPort_statusDue (s : State) (p : Port) (g : PortState → PortState) :
    (s.onPort p g).statusDue = s.statusDue := by cases p <;> rfl

theorem port_onPort (s : State) (p : Port) (g : PortState → PortState) : (s.onPort p g).port p = g (s.port p) := by
  cases p <;> rfl

theorem port_onPort_other (s : State) (p : Port) (g : PortState → PortState) :
    (s.onPort p g).port (otherPort p) = s.port (otherPort p) := by cases p <;> rfl

/-- Two changes of one port are one. -/
theorem onPort_onPort (s : State) (p : Port) (g h : PortState → PortState) :
    (s.onPort p g).onPort p h = s.onPort p (h ∘ g) := by cases p <;> rfl

theorem forwardBy_frame (s : State) (p q : Port) (b : List Byte) : s.ChangesOnly [.portA, .portB] (s.forwardBy p q b) :=
  changesOnly_ite (onPort_frame ..) (onPort_frame ..)

theorem forward_frame (s : State) (p : Port) (b : List Byte) : s.ChangesOnly [.portA, .portB] (s.forward p b) :=
  changesOnly_ite (forwardBy_frame ..) (forwardBy_frame ..)

theorem forward_statusDue (s : State) (p : Port) (b : List Byte) : (s.forward p b).statusDue = s.statusDue := by
  simp only [State.forward, State.forwardBy, apply_ite State.statusDue, onPort_statusDue, ite_self]

theorem handed_frame (s : State) (p : Port) (rest : List (List Byte)) :
    s.ChangesOnly [.portA, .portB] (s.handed p rest) := frame_of_event (onPort_frame ..)

theorem handed_statusDue (s : State) (p : Port) (rest : List (List Byte)) : (s.handed p rest).statusDue = false :=
  onPort_statusDue ..

/-- Taking the oldest assembled frame leaves every unit but the port. -/
theorem handed_leaves (s : State) (p : Port) (rest : List (List Byte)) :
    (s.handed p rest).startup = s.startup ∧ (s.handed p rest).own = s.own ∧ (s.handed p rest).view = s.view
    ∧ (s.handed p rest).claims = s.claims ∧ (s.handed p rest).host = s.host ∧ (s.handed p rest).us = s.us
    ∧ (s.handed p rest).loop.inFlight = s.loop.inFlight
    ∧ ∀ q, ((s.handed p rest).port q).up = (s.port q).up := by
  cases p <;> exact ⟨rfl, rfl, rfl, rfl, rfl, rfl, rfl, fun q => by cases q <;> rfl⟩

/-- The completion of a frame that passes its checks ends as its handling does (R148, R151). -/
theorem frameCompleted_ends (h : s.meets p b rest) (ht : (s.handed p rest).handleFrame p b = t) :
    exec (.frameCompleted p) s = .next (s.ends t) := by
  obtain ⟨hr, hup, hcompleted, hok⟩ := h
  obtain ⟨-, -, -, -, -, -, -, hports⟩ := handed_leaves s p rest
  have hcheck : (s.handed p rest).checkFrame p b = t := by
    rw [State.checkFrame, hports, if_neg (by simp [hup]), if_pos hok, ht]
  have hport : (s.withStatusDue false).port p = s.port p := by cases p <;> rfl
  refine event_ends hr (by simp [hcompleted]) ?_
  rw [hport, hcompleted]
  exact hcheck

theorem ends_eq_finish (s u : State) : s.ends u = State.finish s u := rfl

/-- A handling that leaves the view and what R55 watches is all that the completion does. -/
theorem frameCompleted_quiet (h : s.meets p b rest) (hm : s.marginOk = true)
    (ht : (s.handed p rest).handleFrame p b = t) (hframe : s.ChangesOnly f t) (hd : t.statusDue = false)
    (hf : f.all (fun p => !viewPieces.contains p) = true := by rfl) : exec (.frameCompleted p) s = .next t := by
  rw [frameCompleted_ends h ht, ends_eq_finish, finish_outside hm hframe hd hf]

/-- A frame that is only forwarded. -/
theorem frameCompleted_forwards (h : s.meets p b rest) (hm : s.marginOk = true)
    (ht : (s.handed p rest).handleFrame p b = (s.handed p rest).forward p b) :
    exec (.frameCompleted p) s = .next ((s.handed p rest).forward p b) :=
  frameCompleted_quiet h hm ht (changesOnly_trans (handed_frame ..) (forward_frame ..))
    ((forward_statusDue ..).trans (handed_statusDue ..))

/-! ### Frames of the own number (R152) -/

section
variable (hj : s.joined = true) (hown : frOrigin b = s.own)
include hj hown

theorem handleFrame_own (p : Port) : s.handleFrame p b = s.handleOwn p b := by
  rw [State.handleFrame, if_neg (by simp [hj]), if_pos hown]

/-- A frame in flight is home at port A, and at port B while A is DOWN. -/
theorem handleFrame_home (hflight : ∃ f ∈ s.loop.inFlight, f.tag = frTag b) (hp : p = .a ∨ s.loop.a.up = false) :
    s.handleFrame p b = s.comeHome b := by
  have hany : s.loop.inFlight.any (fun f => f.tag == frTag b) = true := by simpa using hflight
  rw [handleFrame_own hj hown p]
  cases p with
  | a => exact if_pos hany
  | b => exact (if_pos hany).trans (if_neg (by simpa using hp))

theorem handleFrame_passing (hflight : ∃ f ∈ s.loop.inFlight, f.tag = frTag b) (hp : p = .b) (hup : s.loop.a.up = true) :
    s.handleFrame p b = s.forward p b := by
  subst hp
  rw [handleFrame_own hj hown .b]
  exact (if_pos (by simpa using hflight)).trans (if_pos hup)

theorem handleFrame_unknown (hflight : ∀ f ∈ s.loop.inFlight, f.tag ≠ frTag b) :
    s.handleFrame p b = (s.foundDuplicate p b).forward p b := by
  rw [handleFrame_own hj hown p]
  exact if_neg (by simpa using hflight)
end

theorem comeHome_claim (h : frameKindOf (byteAt b 0) = some .claim) :
    s.comeHome b = (s.endFlight (frTag b)).claimReturned b := if_pos h

theorem comeHome_other (h : frameKindOf (byteAt b 0) ≠ some .claim) : s.comeHome b = s.endFlight (frTag b) := if_neg h

theorem foundDuplicate_quiet (h : s.view.duplicate = true ∨ frameKindOf (byteAt b 0) = some .grant
    ∨ frameKindOf (byteAt b 0) = some .drop) : s.foundDuplicate p b = s := by
  unfold State.foundDuplicate
  obtain h | h | h := h
  · split
    · rfl
    · rfl
    · rfl
    · exact if_pos h
  · rw [h]
  · rw [h]

/-- A STATUS, CLAIM or FORCED with the own number and another tag sets the fault (R61). -/
theorem foundDuplicate_first (hj : s.joined = true) (h : s.view.duplicate = false)
    (hkind : byteAt b 0 ∈ [0x41, 0x42, 0x45]) : s.foundDuplicate p b = { s with
      view := { s.view with duplicate := true }
      host := s.host.join (s.noticeOf .duplicateStation s.own (byteAt b 0) (frTag b) (portCode p)) } := by
  have hfault : ∀ k : FrameKind, frameKindOf (byteAt b 0) = some k → k.byte.toNat = byteAt b 0 → k ≠ .grant → k ≠ .drop →
      s.foundDuplicate p b = { s with
        view := { s.view with duplicate := true }
        host := s.host.join (s.noticeOf .duplicateStation s.own (byteAt b 0) (frTag b) (portCode p)) } := by
    intro k hk hbyte hgrant hdrop
    have hnotice : s.foundDuplicate p b = (s.onView (fun v => { v with duplicate := true })).notify .duplicateStation
        s.own k.byte.toNat (frTag b) (portCode p) := by
      unfold State.foundDuplicate
      rw [hk]
      cases k with
      | grant => exact absurd rfl hgrant
      | drop => exact absurd rfl hdrop
      | status => exact if_neg (by simp [h])
      | claim => exact if_neg (by simp [h])
      | forced => exact if_neg (by simp [h])
    rw [hnotice, hbyte]
    exact notify_eq (by exact hj) ..
  simp only [List.mem_cons, List.not_mem_nil, or_false] at hkind
  obtain hkind | hkind | hkind := hkind
  · exact hfault .status (by rw [hkind]; rfl) (by rw [hkind]; rfl) (by decide) (by decide)
  · exact hfault .claim (by rw [hkind]; rfl) (by rw [hkind]; rfl) (by decide) (by decide)
  · exact hfault .forced (by rw [hkind]; rfl) (by rw [hkind]; rfl) (by decide) (by decide)

/-- Settles O33: the branches of a completed frame that bears the own number. -/
theorem ownNumberFrames : Obligations.OwnNumberFrames := by
  intro p b rest s h hs hown s1 home
  obtain ⟨hstart, hnumber, hview, -, hhost, hus, hflights, -⟩ := handed_leaves s p rest
  have hj : (s.handed p rest).joined = true := joined_of_state (hstart ▸ hs)
  have horigin : frOrigin b = (s.handed p rest).own := hown.trans hnumber.symm
  refine ⟨fun hflight => ⟨fun hp => ?_, fun hp hup hm => ?_⟩, fun hflight hm => ⟨fun hquiet => ?_, fun hdup hkind => ?_⟩⟩
  · have hup : p = .a ∨ (s.handed p rest).loop.a.up = false := by
      cases p with
      | a => exact .inl rfl
      | b => exact hp
    have hhome := handleFrame_home hj horigin (hflights ▸ hflight) hup
    refine ⟨fun hclaim => frameCompleted_ends h (hhome.trans (comeHome_claim hclaim)), fun hclaim hm => ?_⟩
    refine frameCompleted_quiet (f := [.portA, .portB, .inFlight]) h hm (hhome.trans (comeHome_other hclaim)) ?_
      (handed_statusDue ..)
    exact changesOnly_then (handed_frame ..) (moves_frame (endFlight_moves (g := .all) ..)) rfl rfl
  · refine frameCompleted_forwards h hm (handleFrame_passing hj horigin (hflights ▸ hflight) hp ?_)
    subst hp
    exact hup
  · refine frameCompleted_forwards h hm ((handleFrame_unknown hj horigin (hflights ▸ hflight)).trans ?_)
    rw [foundDuplicate_quiet (hview ▸ hquiet)]
  · have hfirst := foundDuplicate_first (p := p) hj (hview ▸ hdup) hkind
    rw [hhost, hnumber, noticeOf_of_clock hus] at hfirst
    have hbody := handleFrame_unknown (p := p) hj horigin (hflights ▸ hflight)
    rw [hfirst] at hbody
    refine frameCompleted_quiet (f := [.portA, .portB, .duplicate, .notices]) h hm hbody ?_
      ((forward_statusDue ..).trans (handed_statusDue ..))
    refine changesOnly_then (f := [.portA, .portB, .duplicate, .notices]) ?_ (forward_frame ..) rfl rfl
    rw [← hfirst]
    exact changesOnly_then (handed_frame ..) (moves_frame (foundDuplicate_moves (g := .all) ..)) rfl rfl

end Sys2Proof.Machine

/-! PROOFS. A GRANT, a DROP or a FORCED of a peer at its first meeting (sections 4.5 and 4.6). -/

namespace Sys2Proof.Machine

-- One proof after another: side by side they ask for more thread stacks than there is memory for.
set_option Elab.async false

variable {s t : State} {p : Port} {b : List Byte} {rest : List (List Byte)}

/-! ### The list takes an entry of a peer (R71, R74) -/

theorem not_listFull_iff (s : State) : s.listFull = false ↔ (s.claims.list.filter (fun w => w.owner != s.own)).length < 29 := by
  rw [State.listFull, ble_eq_decide, decide_eq_false_iff_not, Nat.not_le]
  rfl

theorem addPeerEntry_room (h : (s.claims.list.filter (fun w => w.owner != s.own)).length < 29) (w : Withdrawal) :
    s.addPeerEntry w = s.setList (s.claims.list ++ [w]) :=
  if_neg (by simp [(not_listFull_iff s).mpr h])

theorem addPeerEntry_full (h : ¬ (s.claims.list.filter (fun w => w.owner != s.own)).length < 29) (w : Withdrawal) :
    s.addPeerEntry w = s.loseEntry w :=
  if_pos (by simpa using mt (not_listFull_iff s).mp h)

/-- An entry lost to a full list is counted, and noticed where none was lost before (R74). -/
theorem loseEntry_eq (hj : s.joined = true) (w : Withdrawal) : s.loseEntry w = { s with
    claims := { s.claims with lost := min 65535 (s.claims.lost + 1), incomplete := true }
    host := if s.claims.incomplete then s.host
      else s.host.join (s.noticeOf .viewFull w.owner w.claimId w.kind.code s.claims.list.length) } := by
  unfold State.loseEntry
  by_cases h : s.claims.incomplete = true
  · rw [if_pos h, if_pos h]
    rfl
  · rw [if_neg h, if_neg h]
    exact notify_eq (by exact hj) ..

/-- An entry is held under the pair. -/
def State.holds (s : State) (n id : Nat) : Prop := ∃ w ∈ s.claims.list, w.owner = n ∧ w.claimId = id

theorem any_isFor_iff (s : State) (n id : Nat) : s.claims.list.any (fun w => w.isFor n id) = true ↔ s.holds n id := by
  simp [State.holds, isFor_iff]

/-- The list with the entries under one pair changed. -/
theorem updateEntries_isFor (s : State) (n id : Nat) (f : Withdrawal → Withdrawal) :
    s.updateEntries (fun w => w.isFor n id) f = s.withClaims { s.claims with
      list := s.claims.list.map (fun w => if w.owner = n ∧ w.claimId = id then f w else w) } := by
  simp only [State.updateEntries, isFor_iff]
  rfl

theorem bodyKindScope_eq {i : Nat} {k : WKind} {x : Scope} (h : kindScopeOf (body8 b i) = some (k, x)) :
    bodyKindScope b i = (k, x) := by
  simp [bodyKindScope, h]

/-! ### What each frame makes of the list (R88, R89, R94) -/

section
variable {k : WKind} {x : Scope} (hks : kindScopeOf (body8 b 1) = some (k, x))

theorem takeGrant_held (h : s.holds (frOrigin b) (body8 b 0)) : s.takeGrant b =
    s.updateEntries (fun w => w.isFor (frOrigin b) (body8 b 0)) (fun w => { w with active := true }) :=
  if_pos ((any_isFor_iff ..).mpr h)

theorem takeForced_held (h : s.holds (frOrigin b) (body8 b 0)) : s.takeForced b =
    s.updateEntries (fun w => w.isFor (frOrigin b) (body8 b 0)) (fun w => { w with
      active := true, kind := (bodyKindScope b 1).1, scope := (bodyKindScope b 1).2, unsanctioned := forcedMark b }) :=
  if_pos ((any_isFor_iff ..).mpr h)

include hks

theorem takeGrant_new (h : ¬ s.holds (frOrigin b) (body8 b 0)) : s.takeGrant b =
    s.addPeerEntry ⟨frOrigin b, body8 b 0, k, x, true, false, false, none, s.now, false⟩ := by
  have hnew : s.takeGrant b = s.addPeerEntry ⟨frOrigin b, body8 b 0, (bodyKindScope b 1).1, (bodyKindScope b 1).2,
    true, false, false, none, s.now, false⟩ := if_neg (mt (any_isFor_iff ..).mp h)
  rw [hnew, bodyKindScope_eq hks]

theorem takeForced_new (h : ¬ s.holds (frOrigin b) (body8 b 0)) : s.takeForced b =
    s.addPeerEntry ⟨frOrigin b, body8 b 0, k, x, true, true, forcedMark b, none, s.now, false⟩ := by
  have hnew : s.takeForced b = s.addPeerEntry ⟨frOrigin b, body8 b 0, (bodyKindScope b 1).1, (bodyKindScope b 1).2,
    true, true, forcedMark b, none, s.now, false⟩ := if_neg (mt (any_isFor_iff ..).mp h)
  rw [hnew, bodyKindScope_eq hks]
end

theorem takeDrop_held (h : s.holds (frOrigin b) (body8 b 0)) : s.takeDrop b = s.withClaims { s.claims with
    list := s.claims.list.filter (fun w => !(w.owner == frOrigin b && w.claimId == body8 b 0))
    incomplete := s.claims.incomplete && decide (28 < (s.claims.list.filter
      (fun w => !(w.owner == frOrigin b && w.claimId == body8 b 0))).length) } := by
  obtain ⟨w, hw, howner, hid⟩ := h
  exact removeEntries_found hw ((isFor_iff ..).mpr ⟨howner, hid⟩)

theorem takeDrop_new (h : ¬ s.holds (frOrigin b) (body8 b 0)) : s.takeDrop b = s :=
  if_neg (mt (any_isFor_iff ..).mp h)

/-! ### The first meeting (R151, R153) -/

/-- A frame met for the first time is taken in and goes on as it was taken. -/
theorem handleFrame_peer {k : FrameKind} (h : s.firstMeeting k b) :
    s.handleFrame p b = (s.takeIn b).1.forward p (s.takeIn b).2 := by
  obtain ⟨hs, hpeer, hnew, -⟩ := h
  rw [State.handleFrame, if_neg (by simp [joined_of_state hs]), if_neg hpeer, if_neg (by simp [hnew])]

/-- The frame still is one of a first meeting when it has been taken from its port. -/
theorem firstMeeting_handed {k : FrameKind} (h : s.firstMeeting k b) (p : Port) (rest : List (List Byte)) :
    (s.handed p rest).firstMeeting k b := by
  obtain ⟨hstart, hnumber, -⟩ := handed_leaves s p rest
  rw [State.firstMeeting, hstart, hnumber]
  exact h

/-- The completion of a frame met for the first time, with what its take-in made. -/
theorem frameCompleted_met {k : FrameKind} {c : List Byte} (h : s.meets p b rest) (hk : s.firstMeeting k b)
    (ht : (s.handed p rest).takeIn b = (t, c)) : exec (.frameCompleted p) s = .next (s.ends (t.forward p c)) := by
  refine frameCompleted_ends h ((handleFrame_peer (firstMeeting_handed hk p rest)).trans ?_)
  rw [ht]

theorem takeIn_grant (h : frameKindOf (byteAt b 0) = some .grant) (s : State) :
    s.takeIn b = (s.takeGrant b, setVisited b s.own) := by
  simp [State.takeIn, h]

theorem takeIn_drop (h : frameKindOf (byteAt b 0) = some .drop) (s : State) :
    s.takeIn b = (s.takeDrop b, setVisited b s.own) := by
  simp [State.takeIn, h]

theorem takeIn_forced (h : frameKindOf (byteAt b 0) = some .forced) (s : State) :
    s.takeIn b = (s.takeForced b, setVisited b s.own) := by
  simp [State.takeIn, h]

/-- Settles O34: the branches of each of the three frames. -/
theorem settlementFrames : Obligations.SettlementFrames := by
  intro p b rest s h n id c holds room goesOn changed added lost full
  obtain ⟨hstart, hnumber, -, hclaims, hhost, hus, -, -⟩ := handed_leaves s p rest
  have hholds : (s.handed p rest).holds n id ↔ holds := by rw [State.holds, hclaims]
  have hroom : ((s.handed p rest).claims.list.filter (fun w => w.owner != (s.handed p rest).own)).length < 29 ↔ room := by
    rw [hclaims, hnumber]
  have hfull : ∀ {k : FrameKind} (_ : s.firstMeeting k b) (w : Withdrawal), w.owner = n → w.claimId = id →
      (s.handed p rest).loseEntry w = { s.handed p rest with claims := lost, host := full w.kind } := by
    intro k hk w howner hid
    rw [loseEntry_eq (joined_of_state (hstart ▸ hk.1)), hclaims, hhost, noticeOf_of_clock hus, howner, hid]
  have hadded : ∀ w, room → (s.handed p rest).addPeerEntry w = { s.handed p rest with claims := added w, host := s.host } := by
    intro w hw
    rw [addPeerEntry_room (hroom.mpr hw), ← hhost, show added w = { (s.handed p rest).claims with
      list := (s.handed p rest).claims.list ++ [w] } by rw [hclaims]]
    rfl
  have hchanged : ∀ f, (s.handed p rest).updateEntries (fun w => w.isFor n id) f
      = { s.handed p rest with claims := changed f, host := s.host } := by
    intro f
    rw [updateEntries_isFor, hclaims, ← hhost]
    rfl
  have hgoes : ∀ {k : FrameKind} {l : Claims} {x : HostPort}, s.firstMeeting k b →
      (s.handed p rest).takeIn b = ({ s.handed p rest with claims := l, host := x }, setVisited b (s.handed p rest).own) →
      goesOn l x := by
    intro k l x hk ht
    have hnext := frameCompleted_met h hk ht
    rw [hnumber] at hnext
    exact hnext
  refine ⟨fun k x hk hks => ?_, fun hk => ?_, fun k x hk hks => ?_⟩
  · have htake := takeIn_grant hk.2.2.2 (s.handed p rest)
    have hnew := fun hw => takeGrant_new hks (mt hholds.mp hw)
    refine ⟨fun hw => hgoes hk ?_, fun hw hr => hgoes hk ?_, fun hw hr => hgoes hk ?_⟩
    · rw [htake, takeGrant_held (hholds.mpr hw), hchanged]
    · rw [htake, hnew hw, hadded _ hr, State.now, hus]
      rfl
    · rw [htake, hnew hw, addPeerEntry_full (mt hroom.mp hr), hfull hk _ rfl rfl]
  · intro l
    have htake := takeIn_drop hk.2.2.2 (s.handed p rest)
    refine ⟨fun hw => hgoes hk ?_, fun hw => hgoes hk ?_⟩
    · rw [htake, takeDrop_held (hholds.mpr hw), hclaims, ← hhost]
      rfl
    · rw [htake, takeDrop_new (mt hholds.mp hw), ← hhost, show c = _ from hclaims.symm]
  · have htake := takeIn_forced hk.2.2.2 (s.handed p rest)
    have hnew := fun hw => takeForced_new hks (mt hholds.mp hw)
    refine ⟨fun hw => hgoes hk ?_, fun hw hr => hgoes hk ?_, fun hw hr => hgoes hk ?_⟩
    · rw [htake, takeForced_held (hholds.mpr hw), hchanged, bodyKindScope_eq hks]
    · rw [htake, hnew hw, hadded _ hr, State.now, hus]
      rfl
    · rw [htake, hnew hw, addPeerEntry_full (mt hroom.mp hr), hfull hk _ rfl rfl]

end Sys2Proof.Machine

/-! PROOFS. Forwarding, and when a frame is damaged (sections 7.1, 7.3, 7.4 and 11.1). -/

namespace Sys2Proof.Machine

-- One proof after another: side by side they ask for more thread stacks than there is memory for.
set_option Elab.async false

variable {s t : State} {p : Port} {b : List Byte} {rest : List (List Byte)}

/-! ### A frame changed on its way (R154, R155) -/

theorem foldl_xor (l : List Byte) : ∀ x : Byte, l.foldl (· ^^^ ·) x = x ^^^ checkByte l := by
  induction l with
  | nil => exact fun x => (BitVec.xor_zero).symm
  | cons y l ih =>
    intro x
    have hy : checkByte (y :: l) = 0#8 ^^^ y ^^^ checkByte l := ih _
    rw [List.foldl_cons, ih, hy, BitVec.zero_xor, BitVec.xor_assoc]

theorem checkByte_append (l m : List Byte) : checkByte (l ++ m) = checkByte l ^^^ checkByte m := by
  unfold checkByte
  rw [List.foldl_append, foldl_xor m]
  rfl

theorem checkByte_singleton (x : Byte) : checkByte [x] = x := BitVec.zero_xor

/-- A frame closed by its check byte passes that check. -/
theorem checkByte_sealed (l : List Byte) : checkByte (sealed l) = 0#8 := by
  rw [sealed, checkByte_append, checkByte_singleton, BitVec.xor_self]

/-- The check byte of a frame is the exclusive-or of the bytes before it. -/
theorem checkByte_eq_zero_iff {b : List Byte} (h : b ≠ []) : checkByte b = 0#8 ↔
    b.getLast? = some (b.dropLast.foldl (fun x y => x ^^^ y) 0#8) := by
  have hsplit : checkByte b = checkByte b.dropLast ^^^ b.getLast h := by
    conv_lhs => rw [← List.dropLast_append_getLast h]
    rw [checkByte_append, checkByte_singleton]
  rw [hsplit, List.getLast?_eq_some_getLast h, Option.some_inj, BitVec.xor_eq_zero_iff]
  exact eq_comm

/-! ### The two ports of a forwarded frame (R155, R156, R160) -/

theorem onPort_congr {g h : PortState → PortState} (hgh : g (s.port p) = h (s.port p)) : s.onPort p g = s.onPort p h := by
  cases p
  · exact congrArg (fun x => s.onLoop (fun l => { l with a := x })) hgh
  · exact congrArg (fun x => s.onLoop (fun l => { l with b := x })) hgh

/-- A frame leaves by the far port where that is UP, and is turned back there otherwise. -/
theorem forward_eq (s : State) (p : Port) (b : List Byte) : s.forward p b =
    s.forwardBy (if (s.port (otherPort p)).up then p else otherPort p)
      (if (s.port (otherPort p)).up then otherPort p else p) b := by
  unfold State.forward
  split <;> rfl

theorem forwardBy_circulating (h : 64 ≤ frHops b) (s : State) (p q : Port) :
    s.forwardBy p q b = s.onPort p (fun x => { x with circ := min 65535 (x.circ + 1) }) :=
  if_pos (by omega)

theorem forwardBy_joins (h : frHops b < 64) (s : State) (p q : Port) :
    s.forwardBy p q b = s.onPort q (PortState.joinForward (setHops b (frHops b + 1))) :=
  if_neg (by omega)

theorem joinForward_room {c : List Byte} (h : ((s.port p).fwd.map List.length).sum + c.length ≤ 256) :
    s.onPort p (PortState.joinForward c) = s.onPort p (fun x => { x with fwd := x.fwd ++ [c] }) :=
  onPort_congr (if_pos h)

theorem joinForward_overrun {c : List Byte} (h : 256 < ((s.port p).fwd.map List.length).sum + c.length) :
    s.onPort p (PortState.joinForward c) = s.onPort p (fun x => { x with overruns := min 65535 (x.overruns + 1) }) :=
  onPort_congr (if_neg (Nat.not_le.mpr h))

/-! ### What a completed frame gets -/

theorem handleFrame_early (h : s.joined = false) : s.handleFrame p b = s.forward p b := if_pos (by simp [h])

theorem handleFrame_met (hj : s.joined = true) (hpeer : frOrigin b ≠ s.own) (hmet : maskHas (frVisited b) s.own = true) :
    s.handleFrame p b = s.forward p b := by
  rw [State.handleFrame, if_neg (by simp [hj]), if_neg hpeer, if_pos hmet]

/-- A frame that fails its checks is counted and dropped (R149). -/
theorem frameCompleted_damaged (hr : s.running = true) (hcompleted : (s.port p).completed = b :: rest)
    (hup : (s.port p).up = true) (hbad : frameOk b = false) (hm : s.marginOk = true) :
    exec (.frameCompleted p) s = .next ((s.handed p rest).onPort p (fun x =>
      { x with frmErr := min 65535 (x.frmErr + 1) })) := by
  obtain ⟨-, -, -, -, -, -, -, hports⟩ := handed_leaves s p rest
  have hcheck : (s.handed p rest).checkFrame p b = (s.handed p rest).onPort p (fun x =>
      { x with frmErr := min 65535 (x.frmErr + 1) }) := by
    rw [State.checkFrame, hports, if_neg (by simp [hup]), if_neg (by simp [hbad])]
    rfl
  have hport : (s.withStatusDue false).port p = s.port p := by cases p <;> rfl
  refine event_outside (f := [.portA, .portB]) hr (by simp [hcompleted]) hm ?_
    (changesOnly_trans (onPort_frame ..) (onPort_frame ..)) ((onPort_statusDue ..).trans (handed_statusDue ..))
  rw [hport, hcompleted]
  exact hcheck

/-! ### When a frame is damaged (R148, R149) -/

/-- The two codes of a kind-and-scope byte that make a pair of R72. -/
theorem kindScopeOf_codes : ∀ k < 8, ∀ c < 8, ((kindScopeOf (16 * k + c)).isSome = true ↔
    ((k = 1 ∨ k = 2) ∧ c = 1) ∨ ((k = 3 ∨ k = 4) ∧ 4 ≤ c)) := by decide

theorem kindScopeOf_isSome_iff (n : Nat) : (kindScopeOf n).isSome = true ↔
    ((n / 16 % 8 = 1 ∨ n / 16 % 8 = 2) ∧ n % 8 = 1) ∨ ((n / 16 % 8 = 3 ∨ n / 16 % 8 = 4) ∧ 4 ≤ n % 8) := by
  have hcodes : kindScopeOf n = kindScopeOf (16 * (n / 16 % 8) + n % 8) := by
    unfold kindScopeOf
    rw [show (16 * (n / 16 % 8) + n % 8) / 16 % 8 = n / 16 % 8 by omega,
      show (16 * (n / 16 % 8) + n % 8) % 8 = n % 8 by omega]
  rw [hcodes, kindScopeOf_codes _ (by omega) _ (by omega)]

theorem coreOk_iff (b : List Byte) (o : Nat) : coreOk b o = true ↔
    ∀ k, k < 4 → byteAt b (10 + (o + 8 + 4 * k)) / 4 % 4 ≠ 3 := by
  have hall : coreOk b o = true ↔ ∀ j ∈ [8, 12, 16, 20], body8 b (o + j) / 4 % 4 ≠ 3 := by
    simp [coreOk]
  rw [hall]
  constructor
  · intro h k hk
    have hmem : 8 + 4 * k ∈ [8, 12, 16, 20] := by
      have : k = 0 ∨ k = 1 ∨ k = 2 ∨ k = 3 := by omega
      obtain rfl | rfl | rfl | rfl := this <;> decide
    have := h _ hmem
    rwa [body8, ← Nat.add_assoc o] at this
  · intro h j hj
    simp only [List.mem_cons, List.not_mem_nil, or_false] at hj
    obtain rfl | rfl | rfl | rfl := hj
    · exact h 0 (by decide)
    · exact h 1 (by decide)
    · exact h 2 (by decide)
    · exact h 3 (by decide)

/-- The content check of each kind's body (R149). -/
theorem bodyOk_status_iff (b : List Byte) : bodyOk b .status = true ↔
    body8 b 31 ≤ 3 ∧ frLength b = 32 + 3 * body8 b 31 ∧ coreOk b 1 = true
    ∧ (∀ i, i < body8 b 31 → body8 b (32 + 3 * i) ≠ 0 ∧ pairOk b (33 + 3 * i) = true)
    ∧ (body8 b 29 = 0 ∨ body8 b 29 = 1 ∨ (4 ≤ body8 b 29 ∧ body8 b 29 ≤ 7)) ∧ body8 b 30 ≤ 2 := by
  simp only [bodyOk, Bool.and_eq_true, Bool.or_eq_true, Nat.ble_eq, beq_iff_eq, inRange_iff, List.all_eq_true,
    List.mem_range, bne_iff_ne, ne_eq, or_assoc, and_assoc]

theorem bodyOk_claim_iff (b : List Byte) : bodyOk b .claim = true ↔
    frLength b = 35 ∧ body8 b 0 ≠ 0 ∧ pairOk b 1 = true ∧ coreOk b 4 = true ∧ body8 b 33 ≤ 16 ∧ body8 b 34 ≤ 7 := by
  simp only [bodyOk, Bool.and_eq_true, Nat.ble_eq, beq_iff_eq, bne_iff_ne, ne_eq, and_assoc, claimFirst, claimReason]

theorem bodyOk_grant_iff (b : List Byte) : bodyOk b .grant = true ↔
    frLength b = 2 ∧ body8 b 0 ≠ 0 ∧ pairOk b 1 = true := by
  simp only [bodyOk, Bool.and_eq_true, beq_iff_eq, bne_iff_ne, ne_eq, and_assoc]

theorem bodyOk_drop_iff (b : List Byte) : bodyOk b .drop = true ↔
    frLength b = 2 ∧ body8 b 0 ≠ 0 ∧ (body8 b 1 = 1 ∨ body8 b 1 = 2) := by
  simp only [bodyOk, Bool.and_eq_true, Bool.or_eq_true, beq_iff_eq, bne_iff_ne, ne_eq, and_assoc]

theorem bodyOk_forced_iff (b : List Byte) : bodyOk b .forced = true ↔
    frLength b = 3 ∧ body8 b 0 ≠ 0 ∧ pairOk b 1 = true := by
  simp only [bodyOk, Bool.and_eq_true, beq_iff_eq, bne_iff_ne, ne_eq, and_assoc]

/-- The first byte of a frame names one of the five kinds. -/
theorem frameKindOf_iff (n : Nat) (k : FrameKind) : frameKindOf n = some k ↔ n = k.byte.toNat := by
  unfold frameKindOf
  constructor
  · intro h
    split_ifs at h <;> cases h <;> assumption
  · rintro rfl
    cases k <;> rfl

/-- The checks of a frame, its body's content last (R148, R149). -/
theorem frameOk_iff (b : List Byte) : frameOk b = true ↔
    frLength b ≤ 112 ∧ b.length = 11 + frLength b ∧ checkByte b = 0#8 ∧ 1 ≤ frOrigin b ∧ frOrigin b ≤ 16
    ∧ frTag b ≠ 0 ∧ byteAt b 7 = 0 ∧ byteAt b 8 = 0 ∧ byteAt b 9 = 0
    ∧ ∃ k, frameKindOf (byteAt b 0) = some k ∧ bodyOk b k = true := by
  have hkind : (match frameKindOf (byteAt b 0) with
      | some k => bodyOk b k
      | none => false) = true ↔ ∃ k, frameKindOf (byteAt b 0) = some k ∧ bodyOk b k = true := by
    cases frameKindOf (byteAt b 0) <;> simp
  rw [frameOk, Bool.and_eq_true]
  simp only [Bool.and_eq_true, Nat.ble_eq, beq_iff_eq, inRange_iff, bne_iff_ne, ne_eq, and_assoc]
  exact Iff.and .rfl (Iff.and .rfl (Iff.and .rfl (Iff.and .rfl (Iff.and .rfl (Iff.and .rfl (Iff.and .rfl
    (Iff.and .rfl (Iff.and .rfl hkind))))))))

/-- The kind of a frame with the content check that goes with it. -/
theorem kindOk_iff (b : List Byte) : (∃ k, frameKindOf (byteAt b 0) = some k ∧ bodyOk b k = true) ↔
    (byteAt b 0 = 0x41 ∧ bodyOk b .status = true) ∨ (byteAt b 0 = 0x42 ∧ bodyOk b .claim = true)
    ∨ (byteAt b 0 = 0x43 ∧ bodyOk b .grant = true) ∨ (byteAt b 0 = 0x44 ∧ bodyOk b .drop = true)
    ∨ (byteAt b 0 = 0x45 ∧ bodyOk b .forced = true) := by
  simp only [frameKindOf_iff]
  constructor
  · rintro ⟨k, hk, hok⟩
    cases k with
    | status => exact .inl ⟨hk, hok⟩
    | claim => exact .inr (.inl ⟨hk, hok⟩)
    | grant => exact .inr (.inr (.inl ⟨hk, hok⟩))
    | drop => exact .inr (.inr (.inr (.inl ⟨hk, hok⟩)))
    | forced => exact .inr (.inr (.inr (.inr ⟨hk, hok⟩)))
  · rintro (⟨hk, hok⟩ | ⟨hk, hok⟩ | ⟨hk, hok⟩ | ⟨hk, hok⟩ | ⟨hk, hok⟩)
    · exact ⟨.status, hk, hok⟩
    · exact ⟨.claim, hk, hok⟩
    · exact ⟨.grant, hk, hok⟩
    · exact ⟨.drop, hk, hok⟩
    · exact ⟨.forced, hk, hok⟩

/-- Settles O31: the two ports of a forwarded frame, the frame as it goes on, its completion, and its checks. -/
theorem forwarding : Obligations.Forwarding := by
  intro p b rest s far leave arrival b1 w
  have hforward : s.forward p b = s.forwardBy arrival leave b := forward_eq s p b
  refine ⟨fun hh => hforward.trans (forwardBy_circulating hh ..),
    fun hh hroom => (hforward.trans (forwardBy_joins hh ..)).trans (joinForward_room hroom),
    fun hh hroom => (hforward.trans (forwardBy_joins hh ..)).trans (joinForward_overrun hroom),
    fun hlength hh => ⟨length_setFrameByte _ _ (by rintro rfl; simp at hlength), frHops_setHops hlength (by omega),
      checkByte_sealed _, fun i hi hlt => (byteAt_setFrameByte hlt).trans (if_neg (Ne.symm hi))⟩,
    fun hr hcompleted => ⟨fun hup hok hs => ?_, fun hup hbad hm => frameCompleted_damaged hr hcompleted hup hbad hm,
      fun hup hok hs hm hpeer hmet => ?_⟩, ?_⟩
  · obtain ⟨hstart, -⟩ := handed_leaves s p rest
    have hj : s.joined = false := not_joined_of_state hs
    exact frameCompleted_forwards ⟨hr, hup, hcompleted, hok⟩ (marginOk_of_not_joined hj)
      (handleFrame_early (by rw [State.joined, hstart]; exact hj))
  · obtain ⟨hstart, hnumber, -⟩ := handed_leaves s p rest
    exact frameCompleted_forwards ⟨hr, hup, hcompleted, hok⟩ hm
      (handleFrame_met (joined_of_state (hstart ▸ hs)) (hnumber ▸ hpeer) (hnumber ▸ hmet))
  · intro n body kind scope pair classes
    have hpair : ∀ i, pairOk b i = true ↔ pair i := fun i => kindScopeOf_isSome_iff (body8 b i)
    have hclasses : ∀ o, coreOk b o = true ↔ classes o := coreOk_iff b
    rw [frameOk_iff, kindOk_iff, bodyOk_status_iff, bodyOk_claim_iff, bodyOk_grant_iff, bodyOk_drop_iff,
      bodyOk_forced_iff]
    simp only [hpair, hclasses]
    exact Iff.and .rfl (and_congr_right fun hlength =>
      Iff.and (checkByte_eq_zero_iff (by rintro rfl; simp at hlength; omega)) .rfl)

end Sys2Proof.Machine

/-! PROOFS. What a take-in makes of an entry, with its notices, and the reconciliation of an owner's entries with
its STATUS (sections 3.3 and 4.5). -/

namespace Sys2Proof.Machine

-- One proof after another: side by side they ask for more thread stacks than there is memory for.
set_option Elab.async false

variable {s t u : State} {n : Nat}

/-! ### An entry refreshed (R56, R57, R59, R60, R140) -/

/-- A notice raised under a condition. -/
theorem notify_if (hj : s.joined = true) (c : Prop) [Decidable c] (k : NoticeKind) (x y z w : Int) :
    (if c then s.notify k x y z w else s)
      = s.withHost (s.host.joinAll (if c then [s.noticeOf k x y z w] else [])) := by
  split
  · exact notify_eq hj ..
  · rfl

theorem notify_unless (hj : s.joined = true) (c : Prop) [Decidable c] (k : NoticeKind) (x y z w : Int) :
    (if c then s else s.notify k x y z w)
      = s.withHost (s.host.joinAll (if c then [] else [s.noticeOf k x y z w])) := by
  split
  · rfl
  · exact notify_eq hj ..

/-- The notices of a take-in that makes `e` of the entry of station `n`. -/
def State.refreshNotices (s : State) (n : Nat) (e : PeerEntry) : List Notice :=
  (if (s.peer n).state = .present then []
    else [s.noticeOf .peerState n (s.peer n).state.code 2 e.core.period])
  ++ (if s.policyNotice (s.peer n) e then
      [s.noticeOf .policyMismatch n e.core.reserve e.core.autonomy e.core.exposure] else [])
  ++ (if e.core.flags.visitLong && !(s.peer n).core.flags.visitLong then
      [s.noticeOf .peerVisitLong n (visitScopeCode e.visitScope) e.overdue.code 0] else [])

theorem refreshPeer_eq (hj : s.joined = true) (n : Nat) (e : PeerEntry) : s.refreshPeer n e = { s with
    view := { s.view with peers := s.view.peers.set (n - 1) e }
    host := s.host.joinAll (s.refreshNotices n e) } := by
  unfold State.refreshPeer State.refreshNotices
  simp only
  rw [notify_unless (s := s.setPeer n e) (by exact hj),
    notify_if (by exact hj) (s.policyNotice (s.peer n) e = true), notify_if (by exact hj), joinAll_append,
    joinAll_append]
  rfl

/-- POLICY_MISMATCH is raised where the carried policy differs from the own one, and is new (R60). -/
theorem policyNotice_iff (s : State) (old new : PeerEntry) : s.policyNotice old new = true ↔
    (new.core.reserve, new.core.autonomy, new.core.exposure)
        ≠ (s.cfg.reservePct, s.cfg.autonomyMin, s.cfg.exposurePct)
      ∧ (old.state = .absent ∨ (old.core.reserve, old.core.autonomy, old.core.exposure)
        ≠ (new.core.reserve, new.core.autonomy, new.core.exposure)) := by
  simp [State.policyNotice, StatusCore.policy, State.policy]

/-! ### A carried withdrawal taken into the list (R91) -/

/-- An entry has the values that a carried withdrawal brings. -/
def Carried.gives (c : Carried) (w : Withdrawal) : Prop :=
  w.active = true ∧ w.kind = c.kind ∧ w.scope = c.scope ∧ w.overdue = c.overdue ∧ w.forced = c.forced
  ∧ w.unsanctioned = c.unsanctioned

/-- The entry a carried withdrawal makes of one held. -/
def Carried.renew (c : Carried) (w : Withdrawal) : Withdrawal := { w with
  active := true, kind := c.kind, scope := c.scope, overdue := c.overdue
  forced := c.forced, unsanctioned := c.unsanctioned }

/-- The entry a carried withdrawal of `n` adds. -/
def Carried.entry (c : Carried) (n now : Nat) : Withdrawal :=
  ⟨n, c.claimId, c.kind, c.scope, true, c.forced, c.unsanctioned, none, now, c.overdue⟩

/-- A carried withdrawal changes the entry held under its pair, or adds one, or is lost. -/
theorem takeCarried_cases (s : State) (n : Nat) (c : Carried) :
    (s.holds n c.claimId ∧ s.takeCarried n c = s.updateEntries (fun w => w.isFor n c.claimId) c.renew)
    ∨ (¬ s.holds n c.claimId ∧ s.peerEntries.length < 29
      ∧ s.takeCarried n c = s.setList (s.claims.list ++ [c.entry n s.now]))
    ∨ (¬ s.holds n c.claimId ∧ 29 ≤ s.peerEntries.length ∧ s.takeCarried n c = s.loseEntry (c.entry n s.now)) := by
  by_cases h : s.holds n c.claimId
  · exact .inl ⟨h, if_pos ((any_isFor_iff ..).mpr h)⟩
  · have hnew : s.takeCarried n c = s.addPeerEntry (c.entry n s.now) := if_neg (mt (any_isFor_iff ..).mp h)
    by_cases hroom : s.peerEntries.length < 29
    · exact .inr (.inl ⟨h, hroom, hnew.trans (addPeerEntry_room hroom _)⟩)
    · exact .inr (.inr ⟨h, Nat.le_of_not_lt hroom, hnew.trans (addPeerEntry_full hroom _)⟩)

theorem loseEntry_list (s : State) (w : Withdrawal) : (s.loseEntry w).claims.list = s.claims.list := by
  unfold State.loseEntry
  split
  · rfl
  · rw [(notify_frame ..).kept .withdrawals (by decide) |>.1]
    rfl

/-- The entries of a list in which those of one pair are renewed. -/
theorem mem_renewed {w : Withdrawal} {c : Carried}
    (hw : w ∈ (s.updateEntries (fun w => w.isFor n c.claimId) c.renew).claims.list) :
    (w.owner = n ∧ w.claimId = c.claimId ∧ c.gives w)
    ∨ (w ∈ s.claims.list ∧ ¬ (w.owner = n ∧ w.claimId = c.claimId)) := by
  obtain ⟨x, hx, rfl⟩ := List.mem_map.mp hw
  by_cases hfor : x.isFor n c.claimId = true
  · obtain ⟨howner, hid⟩ := (isFor_iff ..).mp hfor
    rw [if_pos hfor]
    exact .inl ⟨howner, hid, rfl, rfl, rfl, rfl, rfl, rfl⟩
  · rw [if_neg hfor]
    exact .inr ⟨hx, mt (isFor_iff ..).mpr hfor⟩

/-- What each entry is after a carried withdrawal has been taken in: one of its pair with its values, or one held
before. -/
theorem mem_takeCarried {w : Withdrawal} {c : Carried} (hw : w ∈ (s.takeCarried n c).claims.list) :
    (w.owner = n ∧ w.claimId = c.claimId ∧ c.gives w) ∨ w ∈ s.claims.list := by
  obtain ⟨-, heq⟩ | ⟨-, -, heq⟩ | ⟨-, -, heq⟩ := takeCarried_cases s n c
  · exact (mem_renewed (heq ▸ hw)).imp_right And.left
  · rw [heq] at hw
    obtain hw | hw := List.mem_append.mp hw
    · exact .inr hw
    · rw [List.mem_singleton.mp hw]
      exact .inl ⟨rfl, rfl, rfl, rfl, rfl, rfl, rfl, rfl⟩
  · rw [heq, loseEntry_list] at hw
    exact .inr hw

/-- Entries that a filter by owner keeps are not renewed. -/
theorem takeCarried_others (s : State) (n : Nat) (c : Carried) :
    (s.takeCarried n c).claims.list.filter (fun w => w.owner != n) = s.claims.list.filter (fun w => w.owner != n) := by
  obtain ⟨-, heq⟩ | ⟨-, -, heq⟩ | ⟨-, -, heq⟩ := takeCarried_cases s n c
  · rw [heq]
    show (s.claims.list.map _).filter _ = _
    induction s.claims.list with
    | nil => rfl
    | cons x l ih =>
      rw [List.map_cons, List.filter_cons, List.filter_cons, ih]
      by_cases hfor : x.isFor n c.claimId = true
      · obtain ⟨howner, -⟩ := (isFor_iff ..).mp hfor
        simp [hfor, Carried.renew, howner]
      · rw [if_neg hfor]
  · rw [heq]
    show (s.claims.list ++ [_]).filter _ = _
    simp [Carried.entry]
  · rw [heq, loseEntry_list]

theorem takeCarried_notices (s : State) (n : Nat) (c : Carried) :
    s.host.notices <+: (s.takeCarried n c).host.notices := by
  obtain ⟨-, heq⟩ | ⟨-, -, heq⟩ | ⟨-, -, heq⟩ := takeCarried_cases s n c
  · rw [heq]
    exact List.prefix_refl _
  · rw [heq]
    exact List.prefix_refl _
  · rw [heq, State.loseEntry]
    split
    · exact List.prefix_refl _
    · exact (notify_grows (s.onClaims (fun c => { c with lost := satAdd 16 c.lost 1, incomplete := true }))
        ..).notices

/-- A carried withdrawal adds at most one entry. -/
theorem takeCarried_length (hpeer : n ≠ s.own) (c : Carried) :
    (s.takeCarried n c).peerEntries.length ≤ s.peerEntries.length + 1 := by
  have hown : (s.takeCarried n c).own = s.own := moves_own (takeCarried_moves (g := .all) hpeer c)
  unfold State.peerEntries
  rw [hown]
  obtain ⟨-, heq⟩ | ⟨-, -, heq⟩ | ⟨-, -, heq⟩ := takeCarried_cases s n c
  · rw [heq]
    show ((s.claims.list.map _).filter _).length ≤ _
    rw [List.filter_map, List.length_map]
    refine (le_of_eq (congrArg List.length (List.filter_congr fun w _ => ?_))).trans (Nat.le_succ _)
    show ((if w.isFor n c.claimId then c.renew w else w).owner != s.own) = _
    split <;> rfl
  · rw [heq]
    show ((s.claims.list ++ [_]).filter _).length ≤ _
    rw [List.filter_append, List.length_append]
    exact Nat.add_le_add_left (List.length_filter_le ..) _
  · rw [heq, loseEntry_list]
    exact Nat.le_succ _

/-- Where there is room, the pair is held, and with the carried values. -/
theorem takeCarried_holds (hroom : s.peerEntries.length < 29) (n : Nat) (c : Carried) :
    (s.takeCarried n c).holds n c.claimId := by
  obtain ⟨⟨w, hw, howner, hid⟩, heq⟩ | ⟨-, -, heq⟩ | ⟨-, hfull, -⟩ := takeCarried_cases s n c
  · rw [heq]
    refine ⟨c.renew w, List.mem_map.mpr ⟨w, hw, if_pos ((isFor_iff ..).mpr ⟨howner, hid⟩)⟩, howner, hid⟩
  · rw [heq]
    exact ⟨c.entry n s.now, List.mem_append_right _ (List.mem_singleton.mpr rfl), rfl, rfl⟩
  · omega

/-- An entry of another pair stays. -/
theorem holds_takeCarried {c : Carried} {m id : Nat} (h : s.holds m id) : (s.takeCarried n c).holds m id := by
  obtain ⟨w, hw, howner, hid⟩ := h
  obtain ⟨-, heq⟩ | ⟨-, -, heq⟩ | ⟨-, -, heq⟩ := takeCarried_cases s n c
  · rw [heq]
    refine ⟨_, List.mem_map_of_mem hw, ?_, ?_⟩
    · split <;> exact howner
    · split <;> exact hid
  · rw [heq]
    exact ⟨w, List.mem_append_left _ hw, howner, hid⟩
  · rw [State.holds, heq, loseEntry_list]
    exact ⟨w, hw, howner, hid⟩

theorem takeCarried_gives {w : Withdrawal} {c : Carried} (hroom : s.peerEntries.length < 29)
    (hw : w ∈ (s.takeCarried n c).claims.list) (howner : w.owner = n) (hid : w.claimId = c.claimId) : c.gives w := by
  obtain ⟨-, heq⟩ | ⟨hnew, -, heq⟩ | ⟨-, hfull, -⟩ := takeCarried_cases s n c
  · obtain ⟨-, -, hgives⟩ | ⟨-, hother⟩ := mem_renewed (heq ▸ hw)
    · exact hgives
    · exact absurd ⟨howner, hid⟩ hother
  · rw [heq] at hw
    obtain hw | hw := List.mem_append.mp hw
    · exact absurd ⟨w, hw, howner, hid⟩ hnew
    · rw [List.mem_singleton.mp hw]
      exact ⟨rfl, rfl, rfl, rfl, rfl, rfl⟩
  · omega

/-! ### All that a STATUS carries (R91) -/

/-- What the carried withdrawals of `n` leave of a list as they are taken in. -/
theorem carried_leaves (cs : List Carried) (s : State) (n : Nat) :
    (cs.foldl (State.takeCarried n) s).claims.list.filter (fun w => w.owner != n)
        = s.claims.list.filter (fun w => w.owner != n)
    ∧ s.host.notices <+: (cs.foldl (State.takeCarried n) s).host.notices
    ∧ ∀ w ∈ (cs.foldl (State.takeCarried n) s).claims.list, w.active = false → w ∈ s.claims.list := by
  induction cs generalizing s with
  | nil => exact ⟨rfl, List.prefix_refl _, fun w hw _ => hw⟩
  | cons c cs ih =>
    obtain ⟨hothers, hnotices, hheld⟩ := ih (s.takeCarried n c)
    refine ⟨hothers.trans (takeCarried_others s n c), (takeCarried_notices s n c).trans hnotices,
      fun w hw hactive => ?_⟩
    obtain ⟨-, -, hgives⟩ | hw := mem_takeCarried (hheld w hw hactive)
    · exact absurd hgives.1 (by simp [hactive])
    · exact hw

/-- An entry of a pair that the rest does not carry is held as it is. -/
theorem mem_of_not_carried {cs : List Carried} {w : Withdrawal} (hnot : ∀ c ∈ cs, w.claimId ≠ c.claimId)
    (hw : w ∈ (cs.foldl (State.takeCarried n) s).claims.list) : w ∈ s.claims.list := by
  induction cs generalizing s with
  | nil => exact hw
  | cons c cs ih =>
    obtain ⟨-, hid, -⟩ | hw := mem_takeCarried (ih (fun c hc => hnot c (List.mem_cons_of_mem _ hc)) hw)
    · exact absurd hid (hnot c (List.mem_cons_self ..))
    · exact hw

theorem holds_carried {cs : List Carried} {m id : Nat} (h : s.holds m id) :
    (cs.foldl (State.takeCarried n) s).holds m id := by
  induction cs generalizing s with
  | nil => exact h
  | cons c cs ih => exact ih (holds_takeCarried h)

/-- Where there is room for all, each carried withdrawal is held with its values. -/
theorem carried_taken {cs : List Carried} (hpeer : n ≠ s.own) (hroom : s.peerEntries.length + cs.length ≤ 29)
    (hids : cs.Pairwise (fun x y => x.claimId ≠ y.claimId)) : ∀ c ∈ cs,
      (cs.foldl (State.takeCarried n) s).holds n c.claimId
      ∧ ∀ w ∈ (cs.foldl (State.takeCarried n) s).claims.list, w.owner = n → w.claimId = c.claimId → c.gives w := by
  induction cs generalizing s with
  | nil => exact fun c hc => absurd hc (List.not_mem_nil)
  | cons c cs ih =>
    obtain ⟨hfirst, hrest⟩ := List.pairwise_cons.mp hids
    rw [List.length_cons] at hroom
    have hlength := takeCarried_length hpeer c
    have hown : (s.takeCarried n c).own = s.own := moves_own (takeCarried_moves (g := .all) hpeer c)
    intro d hd
    obtain rfl | hd := List.mem_cons.mp hd
    · have hheld : (s.takeCarried n d).holds n d.claimId := takeCarried_holds (by omega) n d
      refine ⟨holds_carried (s := s.takeCarried n d) hheld, fun w hw howner hid => ?_⟩
      exact takeCarried_gives (s := s) (by omega)
        (mem_of_not_carried (fun c hc => hid ▸ hfirst c hc) hw) howner hid
    · exact ih (hown ▸ hpeer) (by omega) hrest d hd

end Sys2Proof.Machine

/-! PROOFS. A STATUS of a peer at its first meeting (sections 3.3 and 4.5). -/

namespace Sys2Proof.Machine

-- One proof after another: side by side they ask for more thread stacks than there is memory for.
set_option Elab.async false

variable {s t u : State} {n : Nat} {p : Port} {b : List Byte} {rest : List (List Byte)}

/-! ### The reconciliation (R91) -/

/-- An entry is left where its owner is another, or where the STATUS keeps it. -/
theorem mem_reconcile {cs : List Carried} {i : Option Nat} {w : Withdrawal} :
    w ∈ (s.reconcile n cs i).claims.list ↔ w ∈ (cs.foldl (State.takeCarried n) s).claims.list
      ∧ (w.owner = n → w.keptBy cs i = true) := by
  rw [State.reconcile, removeEntries_list, List.mem_filter]
  simp [imp_iff_not_or]

theorem reconcile_others (s : State) (n : Nat) (cs : List Carried) (i : Option Nat) :
    (s.reconcile n cs i).claims.list.filter (fun w => w.owner != n) = s.claims.list.filter (fun w => w.owner != n) := by
  obtain ⟨hothers, -⟩ := carried_leaves cs s n
  rw [State.reconcile, removeEntries_list, List.filter_filter, ← hothers]
  refine List.filter_congr fun w _ => ?_
  by_cases h : w.owner = n <;> simp [h]

theorem reconcile_notices (s : State) (n : Nat) (cs : List Carried) (i : Option Nat) :
    s.host.notices <+: (s.reconcile n cs i).host.notices := by
  obtain ⟨-, hnotices, -⟩ := carried_leaves cs s n
  rw [State.reconcile, host_of_frame (removeEntries_frame ..)]
  exact hnotices

/-- An entry of the owner is left where the STATUS carries it, or where it is PROVISIONAL and the claim in flight. -/
theorem reconcile_kept {cs : List Carried} {i : Option Nat} {w : Withdrawal}
    (hw : w ∈ (s.reconcile n cs i).claims.list) (howner : w.owner = n) :
    (∃ c ∈ cs, c.claimId = w.claimId) ∨ (w ∈ s.claims.list ∧ w.active = false ∧ i = some w.claimId) := by
  obtain ⟨hmem, hkept⟩ := mem_reconcile.mp hw
  have hkept := hkept howner
  simp only [Withdrawal.keptBy, Bool.or_eq_true, List.any_eq_true, beq_iff_eq, Bool.and_eq_true,
    Bool.not_eq_true'] at hkept
  obtain hcarried | ⟨hactive, hid⟩ := hkept
  · exact .inl hcarried
  · obtain ⟨-, -, hheld⟩ := carried_leaves cs s n
    exact .inr ⟨hheld w hmem hactive, hactive, hid⟩

/-- Where there is room for all, each carried withdrawal stands in the list with its values. -/
theorem reconcile_carried {cs : List Carried} {i : Option Nat} (hpeer : n ≠ s.own)
    (hroom : s.peerEntries.length + cs.length ≤ 29) (hids : cs.Pairwise (fun x y => x.claimId ≠ y.claimId)) :
    ∀ c ∈ cs, (s.reconcile n cs i).holds n c.claimId
      ∧ ∀ w ∈ (s.reconcile n cs i).claims.list, w.owner = n → w.claimId = c.claimId → c.gives w := by
  intro c hc
  obtain ⟨⟨w, hw, howner, hid⟩, hgives⟩ := carried_taken hpeer hroom hids c hc
  refine ⟨⟨w, mem_reconcile.mpr ⟨hw, fun _ => ?_⟩, howner, hid⟩, fun w hw => hgives w (mem_reconcile.mp hw).1⟩
  rw [Withdrawal.keptBy, List.any_eq_true.mpr ⟨c, hc, by simp [hid]⟩, Bool.true_or]

theorem reconcile_frame (hpeer : n ≠ s.own) (cs : List Carried) (i : Option Nat) :
    s.ChangesOnly [.withdrawals, .notices] (s.reconcile n cs i) :=
  moves_frame (reconcile_moves (g := .all) hpeer cs i)

/-! ### A STATUS that is taken in (R56) -/

theorem isOld_iff (e : PeerEntry) (q : Nat) : e.isOld q = true ↔
    e.state = .present ∧ e.seqOpen = false ∧ ((q + 256 - e.lastSeq) % 256 = 0 ∨ 128 ≤ (q + 256 - e.lastSeq) % 256) := by
  simp [PeerEntry.isOld, and_assoc]

/-- The scope of the visit in a STATUS, as its byte carries it. -/
theorem visitScopeCode_scopeOf {v : Nat} (h : v = 0 ∨ v = 1 ∨ (4 ≤ v ∧ v ≤ 7)) : visitScopeCode (scopeOf v) = v := by
  obtain rfl | rfl | ⟨hlo, hhi⟩ := h
  · rfl
  · rfl
  · rw [scopeOf, if_neg (by omega), if_pos ⟨hlo, hhi⟩]
    exact Nat.add_sub_of_le hlo

theorem overdueOf_code {v : Nat} (h : v ≤ 2) : (overdueOf v).code = v := by
  obtain rfl | rfl | rfl : v = 0 ∨ v = 1 ∨ v = 2 := by omega
  · rfl
  · rfl
  · rfl

/-- The notices of a STATUS taken in, as its bytes give them. -/
theorem statusNotices_eq (hok : bodyOk b .status = true) (s : State) :
    s.refreshNotices n (statusEntry b) =
      (if (s.peer n).state = .present then []
        else [s.noticeOf .peerState n (s.peer n).state.code 2 (max 50 (min 1000 (coreOf b 1).period) : Nat)])
      ++ (if ((coreOf b 1).reserve, (coreOf b 1).autonomy, (coreOf b 1).exposure)
            ≠ (s.cfg.reservePct, s.cfg.autonomyMin, s.cfg.exposurePct)
            ∧ ((s.peer n).state = .absent
              ∨ ((s.peer n).core.reserve, (s.peer n).core.autonomy, (s.peer n).core.exposure)
                ≠ ((coreOf b 1).reserve, (coreOf b 1).autonomy, (coreOf b 1).exposure)) then
          [s.noticeOf .policyMismatch n (coreOf b 1).reserve (coreOf b 1).autonomy (coreOf b 1).exposure] else [])
      ++ (if (coreOf b 1).flags.visitLong = true ∧ (s.peer n).core.flags.visitLong = false then
          [s.noticeOf .peerVisitLong n (body8 b 29) (body8 b 30) 0] else []) := by
  obtain ⟨-, -, -, -, hscope, hlevel⟩ := (bodyOk_status_iff b).mp hok
  have hvisit : visitScopeCode (statusEntry b).visitScope = body8 b 29 := visitScopeCode_scopeOf hscope
  have hoverdue : (statusEntry b).overdue.code = body8 b 30 := overdueOf_code hlevel
  unfold State.refreshNotices
  rw [hvisit, hoverdue]
  refine congrArg₂ _ (congrArg₂ _ rfl ?_) ?_
  · exact if_congr (policyNotice_iff s (s.peer n) (statusEntry b)) rfl rfl
  · exact if_congr (by rw [Bool.and_eq_true, Bool.not_eq_true']; exact Iff.rfl) rfl rfl

theorem takeIn_status (h : frameKindOf (byteAt b 0) = some .status) (s : State) :
    s.takeIn b = (s.takeStatus b, setVisited b s.own) := by
  simp [State.takeIn, h]

theorem bodyOk_of_frameOk {k : FrameKind} (hok : frameOk b = true) (hk : frameKindOf (byteAt b 0) = some k) :
    bodyOk b k = true := by
  obtain ⟨-, -, -, -, -, -, -, -, -, k', hk', hbody⟩ := (frameOk_iff b).mp hok
  obtain rfl : k' = k := Option.some_inj.mp (hk'.symm.trans hk)
  exact hbody

/-- Settles O35: a STATUS that is old goes on; another makes its entry and reconciles the list. -/
theorem statusTakenIn : Obligations.StatusTakenIn := by
  intro p b rest s h hk hpeers n e d old core policy
  obtain ⟨hstart, hnumber, hview, hclaims, hhost, hus, -, -⟩ := handed_leaves s p rest
  have himage : (s.handed p rest).image = s.image := (handed_frame s p rest).kept .image (by decide)
  have hentry : (s.handed p rest).peer n = e := by rw [State.peer, hview]; rfl
  have hj : (s.handed p rest).joined = true := joined_of_state (hstart ▸ hk.1)
  have hpeer : n ≠ (s.handed p rest).own := hnumber ▸ hk.2.1
  have htake := takeIn_status hk.2.2.2 (s.handed p rest)
  refine ⟨fun hold hm => ?_, fun hnew => ?_⟩
  · have hquiet : (s.handed p rest).takeStatus b = s.handed p rest :=
      if_pos (hentry ▸ (isOld_iff e (body8 b 0)).mpr hold)
    have hbody := handleFrame_peer (p := p) (firstMeeting_handed hk p rest)
    rw [htake, hquiet, hnumber] at hbody
    exact frameCompleted_quiet h hm hbody (changesOnly_trans (handed_frame ..) (forward_frame ..))
      ((forward_statusDue ..).trans (handed_statusDue ..))
  have htaken : (s.handed p rest).takeStatus b = ((s.handed p rest).refreshPeer n (statusEntry b)).reconcile n
      (carriedOf b) (idOf (body8 b 28)) :=
    if_neg (mt (isOld_iff e (body8 b 0)).mp hnew ∘ fun h => hentry ▸ h)
  have hrefreshed := refreshPeer_eq hj n (statusEntry b)
  have hlist : ((s.handed p rest).refreshPeer n (statusEntry b)).claims = s.claims := by rw [hrefreshed, ← hclaims]
  have hown : ((s.handed p rest).refreshPeer n (statusEntry b)).own = (s.handed p rest).own := by
    rw [hrefreshed]
    rfl
  have hframe := reconcile_frame (hown ▸ hpeer) (carriedOf b) (idOf (body8 b 28))
  have hentries : ((s.handed p rest).refreshPeer n (statusEntry b)).peerEntries = s.peerEntries := by
    rw [State.peerEntries, hlist, hown, hnumber]
    rfl
  refine ⟨(s.handed p rest).takeStatus b, hnumber ▸ frameCompleted_met h hk htake, ?_⟩
  rw [htaken]
  refine ⟨?_, ?_, ?_, fun w hw howner => ?_, fun hroom hids => ?_, ?_⟩
  · rw [hframe.kept .peers (by decide), hrefreshed, hview]
    rfl
  · refine List.IsPrefix.trans (?_ : _ <+: ((s.handed p rest).refreshPeer n (statusEntry b)).host.notices)
      (reconcile_notices ..)
    rw [hrefreshed, statusNotices_eq (bodyOk_of_frameOk h.2.2.2 hk.2.2.2), hentry, hhost]
    simp only [noticeOf_of_clock hus, State.cfg, himage]
    exact List.prefix_refl _
  · rw [reconcile_others, hlist]
  · exact hlist ▸ reconcile_kept hw howner
  · have hcarried := reconcile_carried (i := idOf (body8 b 28)) (hown ▸ hpeer) (hentries ▸ hroom) hids
    exact ⟨fun c hc => (hcarried c hc).1, fun c hc => (hcarried c hc).2⟩
  · refine changesOnly_trans (changesOnly_mono (handed_frame s p rest) rfl) ?_
    exact changesOnly_then (moves_frame (refreshPeer_moves (g := .all) _ n rfl)) hframe rfl rfl

end Sys2Proof.Machine

/-! PROOFS. The bytes that a station writes into a CLAIM (sections 4.3 and 7.4). -/

namespace Sys2Proof.Machine

-- One proof after another: side by side they ask for more thread stacks than there is memory for.
set_option Elab.async false

variable {b : List Byte} {n i : Nat}

theorem byteAt_lt (l : List Byte) (i : Nat) : byteAt l i < 256 := (l.getD i 0#8).isLt

theorem u16At_lt (l : List Byte) (i : Nat) : u16At l i < 65536 := by
  have := byteAt_lt l i
  have := byteAt_lt l (i + 1)
  unfold u16At
  omega

/-- A station mask with a station added is a station mask. -/
theorem maskAdd_lt {m : Nat} (hm : m < 65536) (hn : isStation n = true) : maskAdd m n < 65536 := by
  obtain ⟨hlo, hhi⟩ := (isStation_iff n).mp hn
  unfold maskAdd
  split
  · exact hm
  · rename_i h
    have hclear : m / 2 ^ (n - 1) % 2 = 0 := by
      rw [maskHas, Nat.testBit_eq_decide_div_mod_eq, decide_eq_true_eq] at h
      omega
    interval_cases n <;> norm_num at hclear ⊢ <;> omega

/-- Every field of a CLAIM's body is as it was when the own bit has been set. -/
theorem body8_setVisited (hlength : 10 + i + 1 < b.length) (n : Nat) : body8 (setVisited b n) i = body8 b i :=
  byteAt_setVisited hlength (by omega) (by omega)

theorem body16_setVisited (hlength : 10 + i + 2 < b.length) (n : Nat) : body16 (setVisited b n) i = body16 b i := by
  unfold body16 u16At
  rw [byteAt_setVisited (by omega) (by omega) (by omega), byteAt_setVisited (by omega) (by omega) (by omega)]

theorem reportOf_setVisited (hlength : 10 + i + 4 < b.length) (n : Nat) :
    reportOf (setVisited b n) i = reportOf b i := by
  unfold reportOf
  rw [body8_setVisited (by omega), body8_setVisited (by omega), body16_setVisited (by omega)]

theorem coreOf_setVisited (hlength : 10 + i + 27 < b.length) (n : Nat) : coreOf (setVisited b n) i = coreOf b i := by
  unfold coreOf
  rw [body16_setVisited (by omega), body16_setVisited (by omega), body16_setVisited (by omega),
    body16_setVisited (by omega), reportOf_setVisited (by omega), reportOf_setVisited (by omega),
    reportOf_setVisited (by omega), reportOf_setVisited (by omega), body8_setVisited (by omega),
    body8_setVisited (by omega), body8_setVisited (by omega)]

/-! ### An objection written into a CLAIM (R79, R154) -/

section
variable (hb : 46 ≤ b.length) (hn : isStation n = true)

/-- The frame with the objector's bit set. -/
def objected (b : List Byte) (n : Nat) : List Byte :=
  setFrameByte (setFrameByte b 41 (maskAdd (claimObjections b) n)) 42 (maskAdd (claimObjections b) n / 256)

theorem writeObjection_eq (b : List Byte) (n : Nat) (r : Reason) : writeObjection b n r =
    if claimFirst b = 0 then setFrameByte (setFrameByte (objected b n) 43 n) 44 r.code else objected b n := rfl

theorem length_objected (h : b ≠ []) : (objected b n).length = b.length := by
  unfold objected
  rw [length_setFrameByte _ _ (setFrameByte_ne_nil _ _ _), length_setFrameByte _ _ h]

theorem objected_ne_nil (b : List Byte) (n : Nat) : objected b n ≠ [] := setFrameByte_ne_nil _ _ _

include hb

theorem byteAt_objected {j : Nat} (hj : j + 1 < b.length) : byteAt (objected b n) j =
    if 42 = j then maskAdd (claimObjections b) n / 256 % 256
    else if 41 = j then maskAdd (claimObjections b) n % 256 else byteAt b j := by
  have hlength : (setFrameByte b 41 (maskAdd (claimObjections b) n)).length = b.length :=
    length_setFrameByte _ _ (by rintro rfl; simp at hb)
  unfold objected
  rw [byteAt_setFrameByte (by rw [hlength]; exact hj), byteAt_setFrameByte hj]

theorem byteAt_writeObjection {j : Nat} (hj : j + 1 < b.length) (h43 : 43 ≠ j) (h44 : 44 ≠ j) (r : Reason) :
    byteAt (writeObjection b n r) j = byteAt (objected b n) j := by
  have hlength := length_objected (b := b) (n := n) (by rintro rfl; simp at hb)
  have hlength' : (setFrameByte (objected b n) 43 n).length = b.length := by
    rw [length_setFrameByte _ _ (objected_ne_nil b n), hlength]
  rw [writeObjection_eq]
  split
  · rw [byteAt_setFrameByte (by rw [hlength']; exact hj), if_neg h44,
      byteAt_setFrameByte (by rw [hlength]; exact hj), if_neg h43]
  · rfl

include hn in
/-- The mask has the objector's bit. -/
theorem claimObjections_writeObjection (r : Reason) :
    claimObjections (writeObjection b n r) = maskAdd (claimObjections b) n := by
  have hlt : maskAdd (claimObjections b) n < 65536 := maskAdd_lt (u16At_lt ..) hn
  show byteAt _ 41 + 256 * byteAt _ 42 = _
  rw [byteAt_writeObjection hb (by omega) (by decide) (by decide),
    byteAt_writeObjection hb (by omega) (by decide) (by decide), byteAt_objected hb (by omega),
    byteAt_objected hb (by omega)]
  simp only [if_true, if_neg (show ¬ (42 : Nat) = 41 by decide)]
  omega

omit hb in
theorem checkByte_writeObjection (b : List Byte) (n : Nat) (r : Reason) : checkByte (writeObjection b n r) = 0#8 := by
  rw [writeObjection_eq]
  split <;> exact checkByte_sealed _

include hn in
/-- The first objector and its reason stand where none did. -/
theorem writeObjection_first (h : claimFirst b = 0) (r : Reason) :
    claimFirst (writeObjection b n r) = n ∧ claimReason (writeObjection b n r) = r.code := by
  obtain ⟨-, hhi⟩ := (isStation_iff n).mp hn
  have hcode : r.code < 256 := by cases r <;> decide
  have hlength := length_objected (b := b) (n := n) (by rintro rfl; simp at hb)
  have hlength' : (setFrameByte (objected b n) 43 n).length = b.length := by
    rw [length_setFrameByte _ _ (objected_ne_nil b n), hlength]
  rw [writeObjection_eq, if_pos h]
  constructor
  · show byteAt _ 43 = n
    rw [byteAt_setFrameByte (by rw [hlength']; omega), if_neg (by decide),
      byteAt_setFrameByte (by rw [hlength]; omega), if_pos rfl]
    omega
  · show byteAt _ 44 = r.code
    rw [byteAt_setFrameByte (by rw [hlength']; omega), if_pos rfl]
    omega

/-- Where an objector stands, it stays with its reason. -/
theorem writeObjection_later (h : claimFirst b ≠ 0) (n : Nat) (r : Reason) :
    claimFirst (writeObjection b n r) = claimFirst b ∧ claimReason (writeObjection b n r) = claimReason b := by
  rw [writeObjection_eq, if_neg h]
  exact ⟨byteAt_objected hb (by omega), byteAt_objected hb (by omega)⟩
end

end Sys2Proof.Machine

/-! PROOFS. A CLAIM of a peer at its first meeting (sections 3.3, 3.6 and 4.3). -/

namespace Sys2Proof.Machine

-- One proof after another: side by side they ask for more thread stacks than there is memory for.
set_option Elab.async false

variable {s t u : State} {n : Nat} {p : Port} {b : List Byte} {rest : List (List Byte)} {f : List Piece}

/-! ### An evaluation of the margin state leaves what peers own -/

/-- The entries of peers, and who they are, are as they were. -/
def State.PeersHeld (s t : State) : Prop :=
  t.claims.list.filter (fun w => w.owner != s.own) = s.claims.list.filter (fun w => w.owner != s.own)
  ∧ t.image = s.image

theorem peersHeld_refl (s : State) : s.PeersHeld s := ⟨rfl, rfl⟩

theorem own_of_image (h : t.image = s.image) : t.own = s.own := by rw [State.own, State.cfg, h]; rfl

theorem peersHeld_trans (h : s.PeersHeld t) (k : t.PeersHeld u) : s.PeersHeld u := by
  obtain ⟨hlist, himage⟩ := h
  obtain ⟨hlist', himage'⟩ := k
  rw [own_of_image himage] at hlist'
  exact ⟨hlist'.trans hlist, himage'.trans himage⟩

theorem peersHeld_of_frame (h : s.ChangesOnly f t)
    (hf : (f.contains .withdrawals || f.contains .image) = false := by rfl) : s.PeersHeld t := by
  rw [Bool.or_eq_false_iff] at hf
  exact ⟨by rw [list_of_frame h hf.1], h.kept .image (by simpa using hf.2)⟩

theorem release_peersHeld (s : State) (c : WKind → Bool) : s.PeersHeld (s.release c) := by
  cases hw : s.ownOfClass c with
  | none => rw [release_none hw]; exact peersHeld_refl s
  | some w =>
    refine ⟨?_, (release_frame s c).kept .image (by decide)⟩
    rw [release_list hw, List.filter_filter]
    refine List.filter_congr fun x _ => ?_
    by_cases h : x.owner = s.own <;> simp [h, Withdrawal.isFor]

theorem endTest_peersHeld (s : State) (v : Verdict) : s.PeersHeld (s.endTest v) :=
  peersHeld_trans (peersHeld_trans (t := (s.onOuts (fun o => { o with dischReq := false })).setStringState s.job.k
    .inService) (peersHeld_of_frame (f := [.dischReq, .strings])
      (changesOnly_then (dischReq_frame s false) (setStringState_frame ..) rfl rfl)) (release_peersHeld _ WKind.isTest))
    (peersHeld_of_frame (endTest_afterRelease s v))

theorem abortTest_peersHeld (s : State) (c : AbortCause) : s.PeersHeld (s.abortTest c) := by
  cases h : s.job.state with
  | idle => rw [abortTest_idle s c h]; exact peersHeld_refl s
  | running => rw [abortTest_ends c h]; exact endTest_peersHeld s _
  | claiming =>
    exact ⟨by rw [(abortTest_claiming_claims (c := c) h).1], (abortTest_frame s c).kept .image (by decide)⟩

theorem marginStep_peersHeld (hj : s.joined = true) : s.PeersHeld s.marginStep := by
  by_cases h : s.marginNow = s.view.margin
  · rw [marginStep_same h]
    exact peersHeld_of_frame (figured_frame s)
  · have htold : s.PeersHeld s.marginTold := peersHeld_of_frame (marginTold_frame s)
    rw [marginStep_changed hj h]
    split
    · exact peersHeld_trans htold (abortTest_peersHeld ..)
    · exact htold

theorem evalMargin_peersHeld (hj : s.joined = true) : s.PeersHeld s.evalMargin := by
  have hj' : s.marginStep.joined = true := (joined_of_frame (marginStep_frame s)).trans hj
  rw [State.evalMargin, if_pos hj]
  simp only
  split
  · exact marginStep_peersHeld hj
  · exact peersHeld_trans (marginStep_peersHeld hj) (marginStep_peersHeld hj')

/-- An evaluation changes no more than the end of an event may. -/
theorem evalMargin_within (s : State) : s.ChangesOnly s.eventEnd s.evalMargin := by
  unfold State.eventEnd
  split
  · rename_i h
    exact changesOnly_mono (evalMargin_idle s h) rfl
  · exact changesOnly_mono (evalMargin_frame s) rfl

/-! ### The judgement (R79, R80) -/

/-- An objection on the own view, whatever is asked. -/
theorem judge_obstacle {w : Hyp} {r : Reason} (h : s.viewObstacle = some r) : s.judge w = some r := by
  simp only [State.judge, State.recheck, h]

theorem judge_failing {w : Hyp} {r : Reason} (hclear : s.viewObstacle = none)
    (h : s.policy.failing (s.totals [w]) = some r) : s.judge w = some r := by
  simp only [State.judge, State.recheck, hclear, h]

/-- What the own claim in flight and the claim judged give together (R79). -/
def State.withOwnClaim (s : State) (w : Hyp) : Option Reason :=
  match s.claims.slot with
  | .inFlight q _ _ _ => s.policy.failing (s.totals [w, ⟨s.own, q.kind, q.scope⟩])
  | _ => none

theorem judge_passing {w : Hyp} (hclear : s.viewObstacle = none) (h : s.policy.failing (s.totals [w]) = none) :
    s.judge w = if s.withOwnClaim w ≠ none then some .contended else none := by
  cases hslot : s.claims.slot with
  | free => simp [State.judge, State.recheck, hclear, h, State.slotHyp, State.withOwnClaim, hslot]
  | retryWait q d => simp [State.judge, State.recheck, hclear, h, State.slotHyp, State.withOwnClaim, hslot]
  | inFlight q id tag d =>
    simp [State.judge, State.recheck, hclear, h, State.slotHyp, State.withOwnClaim, hslot, State.ownHyp,
      Option.isSome_iff_ne_none]

theorem letPass_eq {k : WKind} {x : Scope} (hks : kindScopeOf (body8 b 1) = some (k, x)) :
    let w : Withdrawal := ⟨frOrigin b, body8 b 0, k, x, false, false, false, some (body16 b 2), s.now, false⟩
    s.letPass b =
      if ∃ y ∈ s.claims.list, y.owner = frOrigin b ∧ y.claimId = body8 b 0 then
        (s.setList (s.claims.list.map (fun y => if y.owner = frOrigin b ∧ y.claimId = body8 b 0 then w else y)), b)
      else if s.peerEntries.length < 29 then (s.setList (s.claims.list ++ [w]), b)
      else (s.loseEntry w, writeObjection b s.own .viewFull) := by
  intro w
  have hw : s.provisional b = w := by rw [State.provisional, bodyKindScope_eq hks]
  unfold State.letPass
  simp only [hw]
  by_cases hheld : s.holds (frOrigin b) (body8 b 0)
  · refine (if_pos ((any_isFor_iff s _ _).mpr hheld)).trans (.trans ?_ (if_pos hheld).symm)
    rw [updateEntries_isFor]
    rfl
  · refine (if_neg (mt (any_isFor_iff s _ _).mp hheld)).trans (.trans ?_ (if_neg hheld).symm)
    by_cases hroom : s.peerEntries.length < 29
    · rw [if_pos hroom, if_neg (by simp [(not_listFull_iff s).mpr hroom])]
    · rw [if_neg hroom, if_pos (by simpa using mt (not_listFull_iff s).mp hroom)]

end Sys2Proof.Machine

/-! PROOFS. A CLAIM of a peer: taken in, judged, and let pass or objected to (sections 3.3, 3.6, 4.3 and 7.4). -/

namespace Sys2Proof.Machine

-- One proof after another: side by side they ask for more thread stacks than there is memory for.
set_option Elab.async false

variable {s t u : State} {n : Nat} {p : Port} {b : List Byte} {rest : List (List Byte)}

theorem takeIn_claim (h : frameKindOf (byteAt b 0) = some .claim) (s : State) :
    s.takeIn b = s.takeClaim (setVisited b s.own) := by
  simp [State.takeIn, h]

/-- The own bit set leaves what a CLAIM says of its origin. -/
theorem claimEntry_setVisited (hb : b.length = 46) (n : Nat) (e : PeerEntry) :
    claimEntry (setVisited b n) e = claimEntry b e := by
  rw [claimEntry, claimEntry, coreOf_setVisited (by omega), body8_setVisited (by omega)]

/-- The notices of a CLAIM taken in, as its bytes give them. -/
theorem claimNotices_eq (s : State) (n : Nat) (b : List Byte) :
    s.refreshNotices n (claimEntry b (s.peer n)) =
      (if (s.peer n).state = .present then []
        else [s.noticeOf .peerState n (s.peer n).state.code 2 (max 50 (min 1000 (coreOf b 4).period) : Nat)])
      ++ (if ((coreOf b 4).reserve, (coreOf b 4).autonomy, (coreOf b 4).exposure)
            ≠ (s.cfg.reservePct, s.cfg.autonomyMin, s.cfg.exposurePct)
            ∧ ((s.peer n).state = .absent
              ∨ ((s.peer n).core.reserve, (s.peer n).core.autonomy, (s.peer n).core.exposure)
                ≠ ((coreOf b 4).reserve, (coreOf b 4).autonomy, (coreOf b 4).exposure)) then
          [s.noticeOf .policyMismatch n (coreOf b 4).reserve (coreOf b 4).autonomy (coreOf b 4).exposure] else [])
      ++ (if (coreOf b 4).flags.visitLong = true ∧ (s.peer n).core.flags.visitLong = false then
          [s.noticeOf .peerVisitLong n (visitScopeCode (s.peer n).visitScope) (s.peer n).overdue.code 0] else []) := by
  unfold State.refreshNotices
  refine congrArg₂ _ (congrArg₂ _ rfl ?_) ?_
  · exact if_congr (policyNotice_iff s (s.peer n) (claimEntry b (s.peer n))) rfl rfl
  · exact if_congr (by rw [Bool.and_eq_true, Bool.not_eq_true']; exact Iff.rfl) rfl rfl

/-- The state in which a CLAIM of a peer is judged. -/
def State.refreshedBy (s : State) (b : List Byte) : State :=
  (s.refreshPeer (frOrigin b) (claimEntry b (s.peer (frOrigin b)))).evalMargin

/-- A CLAIM judged: an objection is written into it, or it is let pass. -/
theorem takeClaim_eq (hb : b.length = 46) {k : WKind} {x : Scope} (hks : kindScopeOf (body8 b 1) = some (k, x)) (n : Nat) :
    s.takeClaim (setVisited b n) = match (s.refreshedBy b).judge ⟨frOrigin b, k, x⟩ with
      | some r => (s.refreshedBy b, writeObjection (setVisited b n) s.own r)
      | none => (s.refreshedBy b).letPass (setVisited b n) := by
  have horigin : frOrigin (setVisited b n) = frOrigin b := byteAt_setVisited (by omega) (by decide) (by decide)
  have hks' : bodyKindScope (setVisited b n) 1 = (k, x) :=
    bodyKindScope_eq (by rw [body8_setVisited (by omega)]; exact hks)
  unfold State.takeClaim
  simp only [horigin, hks', claimEntry_setVisited hb]
  rfl

/-- Settles O36: the frame as objections leave it, the state in which the claim is judged, and the judgement's
branches. -/
theorem claimJudged : Obligations.ClaimJudged := by
  intro p b rest s h hk n e core policy period v peers notices refreshed u
  obtain ⟨hs, hpeer, hnew, hkind⟩ := hk
  obtain ⟨hstart, hnumber, hview, hclaims, hhost, hus, -, -⟩ := handed_leaves s p rest
  have himage : (s.handed p rest).image = s.image := (handed_frame s p rest).kept .image (by decide)
  have hj : (s.handed p rest).joined = true := joined_of_state (hstart ▸ hs)
  have hlength : b.length = 46 := by
    obtain ⟨-, hlength, -⟩ := (frameOk_iff b).mp h.2.2.2
    obtain ⟨hbody, -⟩ := (bodyOk_claim_iff b).mp (bodyOk_of_frameOk h.2.2.2 hkind)
    omega
  have hlengthV : v.length = 46 := (length_setVisited _ (by rintro rfl; simp at hlength)).trans hlength
  have hentry : (s.handed p rest).peer n = e := by rw [State.peer, hview]; rfl
  have hnotices : (s.handed p rest).refreshNotices n (claimEntry b e) = notices := by
    rw [← hentry, claimNotices_eq, hentry]
    simp only [noticeOf_of_clock hus, State.cfg, himage]
    rfl
  have hrefreshed : (s.handed p rest).refreshPeer n (claimEntry b e) = refreshed := by
    rw [refreshPeer_eq hj, hnotices, hview, hhost]
    rfl
  have hu : (s.handed p rest).refreshedBy b = u := by
    rw [State.refreshedBy, show (s.handed p rest).peer (frOrigin b) = e from hentry, hrefreshed]
  have hframe : s.ChangesOnly [.portA, .portB, .peers, .notices] refreshed := by
    rw [← hrefreshed]
    exact changesOnly_then (handed_frame ..) (moves_frame (refreshPeer_moves (g := .all) _ n rfl)) rfl rfl
  have hjr : refreshed.joined = true := hj
  have hwithin := evalMargin_within refreshed
  have hown : u.own = s.own :=
    (own_of_image ((evalMargin_peersHeld hjr).2)).trans (own_of_image (hframe.kept .image (by decide)))
  refine ⟨fun hn r => ?_, marginOk_iff.mpr fun _ => evalMargin_evaluated hjr, ?_, (evalMargin_abides refreshed).notices,
    ?_, ?_, fun k x hks => ?_⟩
  · intro o
    have hobjections : claimObjections v = claimObjections b := body16_setVisited (by omega) _
    have hfirst : claimFirst v = claimFirst b := body8_setVisited (by omega) _
    have hreason : claimReason v = claimReason b := body8_setVisited (by omega) _
    refine ⟨hobjections ▸ claimObjections_writeObjection (by omega) hn r, checkByte_writeObjection v s.own r,
      fun h0 => writeObjection_first (by omega) hn (hfirst.trans h0) r, fun h0 => ?_⟩
    rw [← hfirst, ← hreason]
    exact writeObjection_later (by omega) (hfirst ▸ h0) s.own r
  · exact (evalMargin_frame refreshed).kept .peers (by decide)
  · obtain ⟨hpeers, -⟩ := evalMargin_peersHeld hjr
    rw [own_of_image (hframe.kept .image (by decide))] at hpeers
    exact hpeers.trans (congrArg (fun c : Claims => c.list.filter (fun w => w.owner != s.own)) hclaims)
  · have hend : refreshed.eventEnd = s.eventEnd := by
      rw [State.eventEnd, hframe.kept .job (by decide)]
      rfl
    refine changesOnly_trans (changesOnly_into hframe) (changesOnly_mono (hend ▸ hwithin) ?_)
    simp +contextual
  · intro one two objects
    have hstep : ∀ {t c}, (s.handed p rest).takeIn b = (t, c) →
        exec (.frameCompleted p) s = .next (s.ends (t.forward p c)) :=
      fun ht => frameCompleted_met h ⟨hs, hpeer, hnew, hkind⟩ ht
    have htake := (takeIn_claim hkind (s.handed p rest)).trans
      (takeClaim_eq (s := s.handed p rest) hlength hks (s.handed p rest).own)
    rw [hu, hnumber] at htake
    have hobjects : ∀ {r}, u.judge ⟨n, k, x⟩ = some r → objects r := fun hr => by
      rw [show u.judge ⟨frOrigin b, k, x⟩ = _ from hr] at htake
      exact hstep htake
    have hobstacle := viewObstacle_eq u
    by_cases hdup : u.view.duplicate = true
    · rw [if_pos hdup]
      exact hobjects (judge_obstacle (hobstacle.trans (if_pos hdup)))
    rw [if_neg hdup]
    replace hobstacle := hobstacle.trans (if_neg hdup)
    by_cases hfull : u.claims.incomplete = true
    · rw [if_pos hfull]
      exact hobjects (judge_obstacle (hobstacle.trans (if_pos hfull)))
    rw [if_neg hfull]
    replace hobstacle := hobstacle.trans (if_neg hfull)
    by_cases hdeficit : u.view.margin = .deficit
    · rw [if_pos hdeficit]
      exact hobjects (judge_obstacle (hobstacle.trans (if_pos hdeficit)))
    rw [if_neg hdeficit]
    replace hobstacle := hobstacle.trans (if_neg hdeficit)
    cases hone : u.policy.failing one with
    | some r => exact hobjects (judge_failing hobstacle hone)
    | none =>
      have hpassing := judge_passing hobstacle hone
      by_cases htwo : two ≠ none
      · exact (if_pos htwo).mpr (hobjects (hpassing.trans (if_pos htwo)))
      · refine (if_neg htwo).mpr ?_
        intro w
        have hnow : u.now = s.now := by
          rw [State.now, clock_of_frame (evalMargin_frame refreshed)]
          exact congrArg (· / 1000) hus
        have hscope : kindScopeOf (body8 v 1) = some (k, x) := by
          rw [body8_setVisited (by omega)]
          exact hks
        have hlet := letPass_eq (s := u) hscope
        simp only [show frOrigin v = n from byteAt_setVisited (by omega) (by decide) (by decide),
          show body8 v 0 = body8 b 0 from body8_setVisited (by omega) _,
          show body16 v 2 = body16 b 2 from body16_setVisited (by omega) _, hnow, hown] at hlet
        rw [show u.judge ⟨frOrigin b, k, x⟩ = none from hpassing.trans (if_neg htwo)] at htake
        replace htake := htake.trans hlet
        by_cases hheld : ∃ y ∈ u.claims.list, y.owner = n ∧ y.claimId = body8 b 0
        · exact (if_pos hheld).mpr (hstep (htake.trans (if_pos hheld)))
        refine (if_neg hheld).mpr ?_
        replace htake := htake.trans (if_neg hheld)
        by_cases hroom : u.peerEntries.length < 29
        · exact (if_pos hroom).mpr (hstep (htake.trans (if_pos hroom)))
        · exact (if_neg hroom).mpr (hstep (htake.trans (if_neg hroom)))

end Sys2Proof.Machine

/-! PROOFS. What a received symbol and a break do to a port (sections 7.1 to 7.3). -/

namespace Sys2Proof.Machine

-- One proof after another: side by side they ask for more thread stacks than there is memory for.
set_option Elab.async false

variable {s t : State} {p : Port} {y : Symbol}

/-! ### Parity (R143, R144) -/

/-- A chain of exclusive-ors holds where the ones in it are odd in number. -/
theorem foldl_xor_odd (g : Nat → Bool) (l : List Nat) : ∀ x : Bool, l.foldl (fun a i => a ^^ g i) x = true ↔
    ((l.filter g).length + (if x then 1 else 0)) % 2 = 1 := by
  induction l with
  | nil => intro x; cases x <;> simp
  | cons i l ih =>
    intro x
    rw [List.foldl_cons, ih, List.filter_cons]
    cases g i <;> cases x <;> simp
    omega

/-- The number of ones of a symbol's data, mark and parity. -/
def onesOf (y : Symbol) : Nat := ((List.range 8).filter (fun i => y.data.getLsbD i)).length
  + (if y.mark then 1 else 0) + (if y.parity then 1 else 0)

theorem symbolOk_iff (y : Symbol) : symbolOk y = true ↔ y.stop = true ∧ onesOf y % 2 = 1 := by
  rw [symbolOk, Bool.and_eq_true, foldl_xor_odd, onesOf]
  have hodd : ∀ (m : Nat) (a c : Bool), (m + if (a ^^ c) then 1 else 0) % 2 = 1
      ↔ (m + (if a then 1 else 0) + (if c then 1 else 0)) % 2 = 1 := by
    intro m a c
    cases a <;> cases c <;> simp
    omega
  exact and_congr_right fun _ => hodd _ y.mark y.parity

/-! ### The events of a port's line -/

/-- A notice from whatever state, before JOIN no notice (R187). -/
theorem notify_any (s : State) (k : NoticeKind) (a b c d : Int) : s.notify k a b c d
    = s.withHost (if s.startup.state = .joined then s.host.join (s.noticeOf k a b c d) else s.host) := by
  by_cases hs : s.startup.state = .joined
  · rw [if_pos hs, notify_eq (joined_of_state hs)]
  · rw [if_neg hs, notify_beforeJoin (not_joined_of_state hs)]
    rfl

theorem execSymbolReceived_eq (p : Port) (y : Symbol) (s : State) : exec (.symbolReceived p y) s
    = s.event true (fun s => if symbolOk y then s.takeSymbol p y else s.onPort p PortState.symbolError) := rfl

theorem execLineBreak_eq (p : Port) (s : State) : exec (.lineBreak p) s
    = s.event true (fun s => if (s.port p).up then s.linkDown p .brk else s.onPort p PortState.breakDown) := rfl

theorem port_withStatusDue (s : State) (b : Bool) (p : Port) : (s.withStatusDue b).port p = s.port p := by cases p <;> rfl

section
variable (hr : s.running = true) (hm : s.marginOk = true)
include hr hm

/-- An event of a line that changes the port alone. -/
theorem lineEvent_becomes {body : State → State} {g : PortState → PortState} {x : PortState}
    (hb : body (s.withStatusDue false) = (s.withStatusDue false).onPort p g) (hg : g (s.port p) = x) :
    s.event true body = .next ((s.withStatusDue false).onPort p (fun _ => x)) :=
  event_outside (f := [.portA, .portB]) hr rfl hm
    (hb.trans (onPort_congr (by rw [port_withStatusDue]; exact hg))) (onPort_frame ..) (onPort_statusDue ..)

/-- An event of a line with a notice. -/
theorem lineEvent_raises {body : State → State} {u : State} {k : NoticeKind} {a b c d : Int}
    (hb : body (s.withStatusDue false) = u.notify k a b c d)
    (hframe : (s.withStatusDue false).ChangesOnly [.portA, .portB, .inFlight] u) (hd : u.statusDue = false) :
    s.event true body = .next (u.withHost
      (if s.startup.state = .joined then s.host.join (s.noticeOf k a b c d) else s.host)) := by
  have hnotice := notify_any u k a b c d
  have hkept : s.ChangesOnly [.portA, .portB, .inFlight] u := frame_of_event hframe
  have hus : u.us = s.us := clock_of_frame hkept
  have hhost : u.host = s.host := host_of_frame hkept
  have hstart : u.startup = s.startup := hkept.kept .startup (by decide)
  rw [noticeOf_of_clock hus, hhost, hstart] at hnotice
  refine event_outside (f := [.portA, .portB, .inFlight, .notices]) hr rfl hm (hb.trans hnotice) ?_ hd
  rw [← hnotice]
  exact changesOnly_then hframe (notify_frame ..) rfl rfl
end

/-! ### A port that goes DOWN or UP (R145 to R147) -/

/-- A port DOWN, with what it carried discarded. -/
def PortState.down (x : PortState) : PortState := { x with
  up := false, lost := min 255 (x.lost + 1), hearing := 0, run := 0, rx := none, fwd := [], tx := none }

/-- The tag of the frame that a port going DOWN cuts off is released. -/
def State.cutOff (s : State) (p : Port) : State :=
  match s.sendingTag p with
  | some t => s.endFlight t
  | none => s

theorem linkDown_eq (s : State) (p : Port) (c : DownCause) : s.linkDown p c =
    ((s.cutOff p).onPort p PortState.goDown).notify .linkDown (portCode p) c.code
      (((s.cutOff p).onPort p PortState.goDown).port p).lost
      (upCode (((s.cutOff p).onPort p PortState.goDown).port (otherPort p)).up) := rfl

theorem port_cutOff (s : State) (p q : Port) : (s.cutOff p).port q = s.port q := by
  unfold State.cutOff
  split
  · cases q <;> rfl
  · rfl

theorem cutOff_frame (s : State) (p : Port) : s.ChangesOnly [.inFlight] (s.cutOff p) := by
  unfold State.cutOff
  split
  · exact moves_frame (endFlight_moves (g := .all) ..)
  · exact changesOnly_refl ..

theorem cutOff_statusDue (s : State) (p : Port) : (s.cutOff p).statusDue = s.statusDue := by
  unfold State.cutOff
  split <;> rfl

/-- What is cut off does not rest on what else the port has heard. -/
theorem cutOff_onPort {g : PortState → PortState} (hg : ∀ x, (g x).tx = x.tx) (s : State) (p : Port) :
    (s.onPort p g).cutOff p = (s.cutOff p).onPort p g := by
  have htag : (s.onPort p g).sendingTag p = s.sendingTag p := by
    have htx : ((s.onPort p g).port p).tx = (s.port p).tx := (congrArg PortState.tx (port_onPort ..)).trans (hg _)
    unfold State.sendingTag
    rw [htx]
    cases p <;> rfl
  unfold State.cutOff
  rw [htag]
  cases s.sendingTag p with
  | none => rfl
  | some t => cases p <;> rfl

/-- The fall of a link as its event leaves it. -/
theorem lineEvent_goesDown {body : State → State} {g : PortState → PortState} {c : DownCause} {x : PortState}
    (hr : s.running = true) (hm : s.marginOk = true) (hg : ∀ x, (g x).tx = x.tx) (hx : g (s.port p) = x)
    (hb : body (s.withStatusDue false) = ((s.withStatusDue false).onPort p g).linkDown p c) :
    s.event true body = .next ((((s.withStatusDue false).cutOff p).onPort p (fun _ => x.down)).withHost
      (if s.startup.state = .joined then s.host.join (s.noticeOf .linkDown (portCode p) c.code x.down.lost
        (upCode (s.port (otherPort p)).up)) else s.host)) := by
  have hfallen : (((s.withStatusDue false).onPort p g).cutOff p).onPort p PortState.goDown
      = ((s.withStatusDue false).cutOff p).onPort p (fun _ => x.down) := by
    rw [cutOff_onPort hg, onPort_onPort]
    refine onPort_congr ?_
    rw [port_cutOff, port_withStatusDue, Function.comp, hx]
    rfl
  have hother : (((s.withStatusDue false).cutOff p).onPort p (fun _ => x.down)).port (otherPort p)
      = s.port (otherPort p) := by
    rw [port_onPort_other, port_cutOff, port_withStatusDue]
  have hdown := hb.trans (linkDown_eq ..)
  rw [hfallen, port_onPort, hother] at hdown
  refine lineEvent_raises hr hm hdown ?_ ((onPort_statusDue ..).trans ((cutOff_statusDue ..).trans rfl))
  exact changesOnly_then (cutOff_frame ..) (onPort_frame ..) rfl rfl

/-! ### Received symbols (R143 to R148) -/

/-- A port whose frame being assembled has been ended by a marked symbol. -/
def PortState.ended (p : PortState) : PortState :=
  if p.rx = none then p else { p with rx := none, frmErr := min 65535 (p.frmErr + 1) }

theorem endFrame_eq (x : PortState) : x.endFrame = x.ended := by
  unfold PortState.endFrame PortState.ended
  cases x.rx <;> rfl

theorem ended_up (x : PortState) : x.ended.up = x.up ∧ x.ended.hearing = x.hearing ∧ x.ended.run = x.run
    ∧ x.ended.tx = x.tx ∧ x.ended.lost = x.lost ∧ x.ended.symErr = x.symErr := by
  unfold PortState.ended
  split <;> exact ⟨rfl, rfl, rfl, rfl, rfl, rfl⟩

end Sys2Proof.Machine

/-! PROOFS. Every symbol and every break at a port, and the tag a fallen port cuts off (sections 7.1 to 7.3). -/

namespace Sys2Proof.Machine

-- One proof after another: side by side they ask for more thread stacks than there is memory for.
set_option Elab.async false

variable {s t : State} {p : Port} {y : Symbol} {x : PortState}

/-! ### What a port hears -/

theorem hearIdle_up (h : x.up = true) : x.endFrame.hearIdle = x.ended := by
  obtain ⟨hup, -⟩ := ended_up x
  rw [endFrame_eq, PortState.hearIdle, if_pos (hup.trans h)]

theorem hearIdle_down (h : x.up = false) : x.endFrame.hearIdle
    = { x.ended with hearing := min 8 (x.hearing + 1), run := min 8 (x.run + 1) } := by
  obtain ⟨hup, hhearing, hrun, -⟩ := ended_up x
  rw [endFrame_eq, PortState.hearIdle, if_neg (by simp [hup, h]), hhearing, hrun]

theorem hearNoHear_up (h : x.up = true) : x.endFrame.hearNoHear = x.ended := by
  obtain ⟨hup, -⟩ := ended_up x
  rw [endFrame_eq, PortState.hearNoHear, if_pos (hup.trans h)]

theorem hearNoHear_down (h : x.up = false) : x.endFrame.hearNoHear
    = { x.ended with hearing := min 8 (x.hearing + 1), run := 0 } := by
  obtain ⟨hup, hhearing, -⟩ := ended_up x
  rw [endFrame_eq, PortState.hearNoHear, if_neg (by simp [hup, h]), hhearing]

theorem breakRun_eq (x : PortState) : x.breakRun = { x with run := if x.up then x.run else 0 } := by
  obtain ⟨up, -⟩ := x
  cases up <;> rfl

/-- Hearing leaves what the port transmits. -/
theorem heard_tx (x : PortState) : x.endFrame.hearIdle.tx = x.tx ∧ x.endFrame.hearNoHear.tx = x.tx := by
  obtain ⟨-, -, -, htx, -⟩ := ended_up x
  cases h : x.up with
  | true => rw [hearIdle_up h, hearNoHear_up h]; exact ⟨htx, htx⟩
  | false => rw [hearIdle_down h, hearNoHear_down h]; exact ⟨htx, htx⟩

theorem takeByte_none (h : x.rx = none) (d : Byte) : x.breakRun.takeByte d = { x with run := if x.up then x.run else 0 } := by
  rw [breakRun_eq, PortState.takeByte]
  simp only [h]

section
variable {l : List Byte} (h : x.rx = some l) (d : Byte)
include h

/-- A frame is complete at 11 bytes plus its length, and lost to a port that is DOWN (R148). -/
theorem takeByte_complete (hl : 11 ≤ (l ++ [d]).length ∧ (l ++ [d]).length = 11 + byteAt (l ++ [d]) 6) :
    x.breakRun.takeByte d = { x with
      run := if x.up then x.run else 0, rx := none
      completed := if x.up then x.completed ++ [l ++ [d]] else x.completed } := by
  rw [breakRun_eq, PortState.takeByte]
  simp only [h]
  exact if_pos hl

theorem takeByte_more (hl : ¬ (11 ≤ (l ++ [d]).length ∧ (l ++ [d]).length = 11 + byteAt (l ++ [d]) 6)) :
    x.breakRun.takeByte d = { x with run := if x.up then x.run else 0, rx := some (l ++ [d]) } := by
  rw [breakRun_eq, PortState.takeByte]
  simp only [h]
  exact if_neg hl
end

/-! ### The kinds of a symbol (R143 to R148) -/

theorem takeSymbol_idle (hmark : y.mark = true) (hdata : y.data = 0xFF#8) (s : State) (p : Port) :
    s.takeSymbol p y = if !(s.port p).endFrame.hearIdle.up && (s.port p).endFrame.hearIdle.run == 8 then
        (s.onPort p (fun x => x.endFrame.hearIdle)).linkUp p
      else s.onPort p (fun x => x.endFrame.hearIdle) := by
  unfold State.takeSymbol
  rw [if_pos hmark, if_pos (show y.data = idleData from hdata)]
  simp only [port_onPort]

theorem takeSymbol_noHear (hmark : y.mark = true) (hdata : y.data = 0xFE#8) (s : State) (p : Port) :
    s.takeSymbol p y = if (s.port p).endFrame.hearNoHear.up then
        (s.onPort p (fun x => x.endFrame.hearNoHear)).linkDown p .farEnd
      else s.onPort p (fun x => x.endFrame.hearNoHear) := by
  unfold State.takeSymbol
  rw [if_pos hmark, if_neg (show ¬ y.data = idleData by rw [hdata]; decide),
    if_pos (show y.data = noHearData from hdata)]
  simp only [port_onPort]

theorem takeSymbol_first (hmark : y.mark = true) (hidle : y.data ≠ 0xFF#8) (hnoHear : y.data ≠ 0xFE#8) (s : State)
    (p : Port) : s.takeSymbol p y = s.onPort p (fun x => { x.endFrame.breakRun with rx := some [y.data] }) := by
  unfold State.takeSymbol
  rw [if_pos hmark, if_neg (show ¬ y.data = idleData from hidle), if_neg (show ¬ y.data = noHearData from hnoHear)]

theorem takeSymbol_later (hmark : y.mark = false) (s : State) (p : Port) :
    s.takeSymbol p y = s.onPort p (fun x => x.breakRun.takeByte y.data) := by
  unfold State.takeSymbol
  rw [if_neg (by simp [hmark])]

theorem linkUp_eq (s : State) (p : Port) : s.linkUp p =
    (s.onPort p (fun x => { x with up := true })).notify .linkUp (portCode p) (upCode (s.port (otherPort p)).up)
      (s.port p).symErr 0 := by
  unfold State.linkUp
  simp only [port_onPort, port_onPort_other]

theorem upCode_cast (b : Bool) : ((upCode b : Nat) : Int) = if b then 1 else 2 := by cases b <;> rfl

/-! ### The tag that is cut off (R147) -/

theorem sendingTag_none (h : (s.port p).tx = none) : s.sendingTag p = none := by
  simp [State.sendingTag, h]

/-- A frame is cut off where its last symbol has not begun. -/
theorem sendingTag_some {x : Transmission} {start : Nat} (h : (s.port p).tx = some x)
    (hdone : x.doneAt = start + (12 * (x.bytes.length + 1) + 9) / 10) :
    s.sendingTag p = if 10 * start + 12 * (x.bytes.length - 1) ≤ 10 * s.us then none else x.ownTag := by
  have hstart : x.doneAt - frameTime x.bytes = start := by rw [hdone]; exact Nat.add_sub_cancel ..
  simp only [State.sendingTag, h, State.begun, hstart, ble_eq_decide, decide_eq_true_eq]

/-- Settles O30: each kind of symbol, the two causes of a link's fall, and the tag cut off. -/
theorem symbolsAndLinks : Obligations.SymbolsAndLinks := by
  intro port y s hr hm p other ones good q count becomes raises goesDown
  have hgood : good ↔ symbolOk y = true := (symbolOk_iff y).symm
  have hbody : good → (fun s : State => if symbolOk y then s.takeSymbol port y else s.onPort port PortState.symbolError)
      (s.withStatusDue false) = (s.withStatusDue false).takeSymbol port y := fun h => if_pos (hgood.mp h)
  have hport := port_withStatusDue s false port
  have hbecomes : ∀ {g : PortState → PortState} {x : PortState}, good →
      (s.withStatusDue false).takeSymbol port y = (s.withStatusDue false).onPort port g → g p = x →
      becomes (.symbolReceived port y) x := fun h hg hx => lineEvent_becomes hr hm ((hbody h).trans hg) hx
  refine ⟨fun h => ?_, fun h hmark hdata => ?_, fun h hmark hdata => ?_, fun h hmark hidle hnoHear => ?_,
    fun h hmark => ?_, fun hup => ?_, fun hup => ?_, sendingTag_none, fun x start hx hdone => ?_⟩
  · exact lineEvent_becomes (g := PortState.symbolError) hr hm (if_neg (mt hgood.mpr h)) rfl
  · have hkind := takeSymbol_idle hmark hdata (s.withStatusDue false) port
    rw [hport] at hkind
    refine ⟨fun hup => ?_, fun hup hrun => ?_, fun hup hrun => ?_⟩
    · refine hbecomes h (hkind.trans (if_neg ?_)) (hearIdle_up hup)
      rw [hearIdle_up hup, (ended_up p).1, hup]
      simp
    · refine hbecomes h (hkind.trans (if_neg ?_)) (hearIdle_down hup)
      rw [hearIdle_down hup]
      intro hand
      rw [Bool.and_eq_true, beq_iff_eq] at hand
      exact hrun hand.2
    · have hheard : p.endFrame.hearIdle = { q with hearing := count p.hearing, run := 8 } :=
        (hearIdle_down hup).trans (congrArg (fun r => { q with hearing := count p.hearing, run := r }) hrun)
      have hrises : (s.withStatusDue false).takeSymbol port y
          = ((s.withStatusDue false).onPort port (fun x => x.endFrame.hearIdle)).linkUp port := by
        refine hkind.trans (if_pos ?_)
        rw [show (s.port port).endFrame.hearIdle = _ from hheard]
        simp [show q.up = false from (ended_up p).1.trans hup]
      rw [linkUp_eq, onPort_onPort, port_onPort, port_onPort_other, port_withStatusDue, port_withStatusDue,
        onPort_congr (h := fun _ => { q with hearing := count p.hearing, run := 8, up := true }) (by
          rw [port_withStatusDue, Function.comp, hheard])] at hrises
      obtain ⟨-, -, -, -, -, hsymErr⟩ := ended_up p
      rw [hheard] at hrises
      have hnext : s.event true (fun s => if symbolOk y then s.takeSymbol port y else s.onPort port PortState.symbolError)
          = _ := lineEvent_raises hr hm ((hbody h).trans hrises) (changesOnly_mono (onPort_frame ..) rfl)
            (onPort_statusDue ..)
      rw [upCode_cast] at hnext
      rw [← show q.symErr = p.symErr from hsymErr]
      exact hnext
  · have hkind := takeSymbol_noHear hmark hdata (s.withStatusDue false) port
    rw [hport] at hkind
    refine ⟨fun hup => ?_, fun hup => ?_⟩
    · refine hbecomes h (hkind.trans (if_neg ?_)) (hearNoHear_down hup)
      rw [hearNoHear_down hup]
      simp [(ended_up p).1, hup]
    · have hfalls := hkind.trans (if_pos (by rw [hearNoHear_up hup, (ended_up p).1, hup]))
      have hdown : s.event true (fun s => if symbolOk y then s.takeSymbol port y else s.onPort port PortState.symbolError)
          = _ := lineEvent_goesDown (c := .farEnd) hr hm (fun x => (heard_tx x).2) (hearNoHear_up hup)
            ((hbody h).trans hfalls)
      obtain ⟨-, -, -, -, hlost, -⟩ := ended_up p
      have hfallen : (s.port port).ended.down = { q with
          up := false, lost := min 255 (p.lost + 1), hearing := 0, run := 0, rx := none, fwd := [], tx := none } :=
        congrArg (fun n => { q with
          up := false, lost := min 255 (n + 1), hearing := 0, run := 0, rx := none, fwd := [], tx := none }) hlost
      rw [hfallen, upCode_cast] at hdown
      exact hdown
  · exact hbecomes h (takeSymbol_first hmark hidle hnoHear _ _) (by
      obtain ⟨hup, -, hrun, -⟩ := ended_up p
      rw [endFrame_eq, breakRun_eq]
      have hkept : (if p.ended.up then p.ended.run else 0) = if p.up then p.run else 0 := by rw [hup, hrun]
      exact congrArg (fun r => { q with run := r, rx := some [y.data] }) hkept)
  · intro x
    have hkind := takeSymbol_later hmark (s.withStatusDue false) port
    refine ⟨fun hrx => hbecomes h hkind (takeByte_none hrx y.data), fun l hrx => ?_⟩
    intro l1
    exact ⟨fun hl => hbecomes h hkind (takeByte_complete hrx y.data hl),
      fun hl => hbecomes h hkind (takeByte_more hrx y.data hl)⟩
  · have hfalls : (fun s : State => if (s.port port).up then s.linkDown port .brk else s.onPort port PortState.breakDown)
        (s.withStatusDue false) = ((s.withStatusDue false).onPort port id).linkDown port .brk := by
      rw [show (s.withStatusDue false).onPort port id = s.withStatusDue false by cases port <;> rfl]
      exact if_pos ((congrArg PortState.up hport).trans hup)
    have hdown := lineEvent_goesDown (body := fun s => if (s.port port).up then s.linkDown port .brk
      else s.onPort port PortState.breakDown) (c := .brk) hr hm (fun _ => rfl) rfl hfalls
    rw [upCode_cast] at hdown
    exact hdown
  · refine lineEvent_becomes (g := PortState.breakDown) hr hm (if_neg ?_) rfl
    rw [hport]
    simp [show (s.port port).up = false from hup]
  · intro last
    have htag := sendingTag_some hx hdone
    exact ⟨fun hlt => htag.trans (if_neg (Nat.not_le.mpr hlt)), fun hle => htag.trans (if_pos hle)⟩

end Sys2Proof.Machine

/-! PROOFS. The output arbiter, the own transmit queue, and the symbols on the line (sections 7.1, 7.2 and 7.5). -/

namespace Sys2Proof.Machine

-- One proof after another: side by side they ask for more thread stacks than there is memory for.
set_option Elab.async false

variable {s t : State} {p : Port}

/-! ### The arbiter (R157, R160) -/

theorem mayTransmit_fwd (hup : (s.port p).up = true) (hbusy : s.busy p = false) (h : (s.port p).fwd ≠ []) :
    s.mayTransmit p = true := by
  simp [State.mayTransmit, hup, hbusy, h]

/-- The own port is B, or A while B is DOWN (R158). -/
theorem ownPort_eq (hup : (s.port p).up = true) (hp : p = .b ∨ s.loop.b.up = false) : s.ownPort = some p := by
  unfold State.ownPort
  cases p with
  | a =>
    have hb : s.loop.b.up = false := hp.resolve_left (by decide)
    rw [if_neg (by simp [hb])]
    exact if_pos hup
  | b => exact if_pos hup

theorem mayTransmit_own (hup : (s.port p).up = true) (hbusy : s.busy p = false) (h : (s.port p).fwd = [])
    (hqueue : s.loop.queue ≠ []) (hroom : s.loop.inFlight.length < 32) (hp : p = .b ∨ s.loop.b.up = false) :
    s.mayTransmit p = true := by
  simp [State.mayTransmit, State.ownMayStart, hup, hbusy, h, hqueue, hroom, ownPort_eq hup hp]

theorem transmit_frame (s : State) (p : Port) : s.ChangesOnly loopPieces (s.transmit p) := by
  unfold State.transmit
  split
  · exact changesOnly_mono (onPort_frame ..) rfl
  · split
    · rename_i f l hqueue
      refine changesOnly_trans (t := s.onPort p (fun x =>
        { x with tx := some ⟨f.bytes, some f.tag, s.us + frameTime f.bytes⟩ })) (changesOnly_mono (onPort_frame ..) rfl) ?_
      constructor
      intro q hq
      cases q <;> simp_all [Piece.kept, State.startOwn, State.onLoop, loopPieces]
    · exact changesOnly_refl ..

theorem transmit_fwd {b : List Byte} {l : List (List Byte)} (h : (s.port p).fwd = b :: l) : s.transmit p =
    s.onPort p (fun x => { x with fwd := l, tx := some ⟨b, none, s.us + (12 * (b.length + 1) + 9) / 10⟩ }) := by
  have hstart : s.transmit p = s.startForward p b := by simp only [State.transmit, h]
  rw [hstart, State.startForward]
  refine onPort_congr ?_
  rw [h]
  rfl

theorem transmit_own {f : OwnFrame} {l : List OwnFrame} (hfwd : (s.port p).fwd = []) (h : s.loop.queue = f :: l) :
    s.transmit p = (s.onPort p (fun x =>
        { x with tx := some ⟨f.bytes, some f.tag, s.us + (12 * (f.bytes.length + 1) + 9) / 10⟩ })).onLoop (fun l1 =>
      { l1 with queue := l, inFlight := l1.inFlight ++ [⟨f.tag, f.kind, f.claimId, s.now⟩] }) := by
  have hstart : s.transmit p = s.startOwn p f := by simp only [State.transmit, hfwd, h]
  have hqueue : ∀ g : PortState → PortState, (s.onPort p g).loop.queue = f :: l := fun g => by
    cases p <;> exact h
  rw [hstart, State.startOwn]
  simp only [State.onLoop, hqueue]
  rfl

/-! ### Tags and the own queue (R157, R159) -/

theorem joinQueue_room {f : OwnFrame} {q : List OwnFrame} (h : q.length < 8) (d : Nat) :
    joinQueue f q d = (q ++ [f], d) := if_pos h

/-- A full queue gives up the first STATUS in it. -/
theorem joinQueue_gives {f g : OwnFrame} {before after : List OwnFrame} (hfull : 8 ≤ (before ++ g :: after).length)
    (hg : g.kind = .status) (hbefore : ∀ h ∈ before, h.kind ≠ .status) (d : Nat) :
    joinQueue f (before ++ g :: after) d = (before ++ after ++ [f], d) := by
  have herase : (before ++ g :: after).eraseP (fun g => g.kind == .status) = before ++ after := by
    rw [List.eraseP_append_right _ (fun h hh => by simpa using hbefore h hh), List.eraseP_cons_of_pos (by simp [hg])]
  rw [joinQueue, if_neg (by omega), if_pos (by simp [hg]), herase]

theorem joinQueue_drops {f : OwnFrame} {q : List OwnFrame} (hfull : 8 ≤ q.length) (h : ∀ g ∈ q, g.kind ≠ .status)
    (d : Nat) : joinQueue f q d = (q, min 65535 (d + 1)) := by
  rw [joinQueue, if_neg (by omega), if_neg (by simpa using h)]
  rfl

/-- A count past 255 is stepped as 255 is. -/
theorem nextFree_min (held : Nat → Bool) (fuel c : Nat) :
    nextFree held (fuel + 1) c = nextFree held (fuel + 1) (min c 255) := by
  have hstep : (if 255 ≤ c then 1 else c + 1) = if 255 ≤ min c 255 then 1 else min c 255 + 1 := by
    split <;> split <;> omega
  rw [nextFree, nextFree, hstep]

/-- A new tag is borne by no own frame queued or in flight (R157). -/
theorem queueOwn_tag (hq : s.loop.queue.length ≤ 8) (hf : s.loop.inFlight.length ≤ 32)
    (k : FrameKind) (id : Nat) (body : List Byte) :
    1 ≤ (s.queueOwn k id body).2 ∧ (s.queueOwn k id body).2 ≤ 255
    ∧ (∀ g ∈ queueFor k s.loop.queue, g.tag ≠ (s.queueOwn k id body).2)
    ∧ ∀ g ∈ s.loop.inFlight, g.tag ≠ (s.queueOwn k id body).2 := by
  have hlength : (queueFor k s.loop.queue).length ≤ 8 := by
    unfold queueFor
    split
    · exact (List.length_filter_le ..).trans hq
    · exact hq
  obtain ⟨hlo, hhi, hfree, -⟩ := nextFree_spec
    (held := fun t => (queueFor k s.loop.queue).any (fun f => f.tag == t) || s.loop.inFlight.any (fun f => f.tag == t))
    (l := (queueFor k s.loop.queue).map (fun f => f.tag) ++ s.loop.inFlight.map (fun f => f.tag))
    (by intro n hn; simpa [or_comm] using hn) (fuel := 255)
    (by simp only [List.length_append, List.length_map]; omega) (le_refl 255)
    (Nat.min_le_right s.loop.tagCounter 255)
  rw [← nextFree_min] at hlo hhi hfree
  rw [Bool.or_eq_false_iff, Bool.eq_false_iff, Bool.eq_false_iff] at hfree
  exact ⟨hlo, hhi, fun g hg h => hfree.1 (List.any_eq_true.mpr ⟨g, hg, beq_iff_eq.mpr h⟩),
    fun g hg h => hfree.2 (List.any_eq_true.mpr ⟨g, hg, beq_iff_eq.mpr h⟩)⟩

/-! ### The line (R143, R145, R162) -/

theorem sentSymbol_odd (d : Byte) (m : Bool) : onesOf (sentSymbol d m) % 2 = 1 := by
  have hok : symbolOk (sentSymbol d m) = true := by
    have hchain : ∀ (l : List Nat) (x : Bool), l.foldl (fun a i => a ^^ d.getLsbD i) x
        = (x ^^ l.foldl (fun a i => a ^^ d.getLsbD i) false) := by
      intro l
      induction l with
      | nil => simp
      | cons i l ih =>
        intro x
        rw [List.foldl_cons, List.foldl_cons, ih, ih (false ^^ _)]
        simp
    rw [symbolOk, sentSymbol, Bool.true_and, hchain _ (m ^^ _), hchain _ m]
    cases m <;> cases (List.range 8).foldl (fun a i => a ^^ d.getLsbD i) false <;> rfl
  exact ((symbolOk_iff _).mp hok).2

/-- The symbol in progress: one of the frame's, or the idle symbol behind them. -/
theorem symbolNow_eq {x : Transmission} {start n : Nat} (hdone : x.doneAt = start + (12 * (x.bytes.length + 1) + 9) / 10)
    (hlo : 10 * start + 12 * n ≤ 10 * s.us) (hhi : 10 * s.us < 10 * start + 12 * (n + 1)) :
    s.symbolNow x = (frameSymbols x.bytes).getD n (sentSymbol idleData true) := by
  have hstart : x.doneAt - frameTime x.bytes = start := by rw [hdone]; exact Nat.add_sub_cancel ..
  have hn : (10 * s.us - 10 * start) / 12 = n := by omega
  rw [State.symbolNow, hstart, hn]

/-- Every symbol that a transmission sends is one that a port forms. -/
theorem symbolNow_sent (s : State) (x : Transmission) : ∃ d m, s.symbolNow x = sentSymbol d m := by
  unfold State.symbolNow
  rw [List.getD_eq_getElem?_getD, frameSymbols_getElem?]
  generalize (10 * s.us - 10 * (x.doneAt - frameTime x.bytes)) / 12 = n
  cases x.bytes[n]? with
  | none => exact ⟨_, _, rfl⟩
  | some d => exact ⟨_, _, rfl⟩

theorem lineOut_running (hr : s.running = true) (p : Port) : s.lineOut p = .symbol (
    if (s.port p).up then
      match (s.port p).tx with
      | some t => s.symbolNow t
      | none => sentSymbol idleData true
    else sentSymbol (if (s.port p).hearing == 8 then idleData else noHearData) true) := by
  obtain ⟨hpower, hreset⟩ := (Bool.and_eq_true ..).mp hr
  exact (if_neg (by simp [hpower])).trans (if_neg (by simp [hreset]))

/-- Settles O32: the two starts of the arbiter, the queue's three cases, and what each port's line carries. -/
theorem ownFramesAndTransmission : Obligations.OwnFramesAndTransmission := by
  refine ⟨fun port s hr hm hup hbusy => ?_, fun k id body s => ?_, fun port s => ?_⟩
  · intro done
    have hport := port_withStatusDue s false port
    refine ⟨fun b l hfwd => ?_, fun f l hfwd hqueue hroom hp => ?_, fun f hf hdue => ?_⟩
    · exact event_outside (f := [.portA, .portB]) hr (mayTransmit_fwd hup hbusy (by simp [hfwd])) hm
        (transmit_fwd (s := s.withStatusDue false) (hport ▸ hfwd)) (onPort_frame ..) (onPort_statusDue ..)
    · have hnext := transmit_own (s := s.withStatusDue false) (p := port) (hport ▸ hfwd) hqueue
      refine event_outside (f := loopPieces) hr (mayTransmit_own hup hbusy hfwd (by simp [hqueue]) hroom hp) hm hnext ?_
        (onPort_statusDue ..)
      have hframe := transmit_frame (s.withStatusDue false) port
      rw [hnext] at hframe
      exact hframe
    · have hany : s.flightDue f.tag = true := List.any_eq_true.mpr ⟨f, hf, by simp [hdue]⟩
      exact event_outside (f := [.inFlight]) hr hany hm rfl (moves_frame (endFlight_moves (g := .all) ..)) rfl
  · intro q t tag f
    refine ⟨rfl, fun hq hf => queueOwn_tag hq hf k id body, fun hroom => ?_, fun hfull before g after hsplit hg hbefore => ?_,
      fun hfull hnone => ?_, queueOwn_frame ..⟩
    · have hjoin := joinQueue_room (f := f) (q := q) hroom s.loop.ownDrops
      exact ⟨congrArg Prod.fst hjoin, congrArg Prod.snd hjoin⟩
    · have hjoin : joinQueue f q s.loop.ownDrops = _ :=
        hsplit ▸ joinQueue_gives (f := f) (hsplit ▸ hfull) hg hbefore s.loop.ownDrops
      exact ⟨congrArg Prod.fst hjoin, congrArg Prod.snd hjoin⟩
    · have hjoin := joinQueue_drops (f := f) (q := q) hfull hnone s.loop.ownDrops
      exact ⟨congrArg Prod.fst hjoin, congrArg Prod.snd hjoin⟩
  · intro p ones
    refine ⟨fun hoff => if_pos (by simp [hoff]), fun hon hreset => ?_, fun hr => ?_⟩
    · exact (if_neg (by simp [hon])).trans (if_pos (by simp [hreset]))
    · have hline := lineOut_running hr port
      have hsent : ∃ d m, s.lineOut port = .symbol (sentSymbol d m) := by
        rw [hline]
        split
        · split
          · obtain ⟨d, m, h⟩ := symbolNow_sent s _
            exact ⟨d, m, congrArg _ h⟩
          · exact ⟨_, _, rfl⟩
        · exact ⟨_, _, rfl⟩
      obtain ⟨d, m, hsymbol⟩ := hsent
      have hy : sentSymbol d m = _ := LineOut.symbol.inj (hsymbol.symm.trans hline)
      refine ⟨sentSymbol d m, hsymbol, rfl, sentSymbol_odd d m, fun hup => ?_, fun hup htx => ?_,
        fun x start n hup htx hdone hlo hhi => ?_⟩
      · rw [hy, if_neg (by simp [show (s.port port).up = false from hup])]
        refine ⟨rfl, ?_⟩
        exact if_congr beq_iff_eq rfl rfl
      · rw [hy, if_pos hup, show (s.port port).tx = none from htx]
        exact ⟨rfl, rfl⟩
      · rw [hy, if_pos hup, show (s.port port).tx = some x from htx]
        simp only [symbolNow_eq hdone hlo hhi, List.getD_eq_getElem?_getD, frameSymbols_getElem?]
        refine ⟨fun e he => ?_, fun hend => ?_⟩
        · rw [he]
          exact ⟨rfl, Bool.beq_eq_decide_eq ..⟩
        · rw [List.getElem?_eq_none hend]
          exact ⟨rfl, rfl⟩

end Sys2Proof.Machine

/-! PROOFS. A take-in of every string in turn (sections 1.3 and 8.2). -/

namespace Sys2Proof.Machine

-- One proof after another: side by side they ask for more thread stacks than there is memory for.
set_option Elab.async false

variable {s t u : State}

/-! ### One string at one take-in -/

/-- The sample of string `k` in a frame. -/
def MeasFrame.sample (f : MeasFrame) (k : Nat) : Sample := f.samples.getD k ⟨false, 0, 0, 0⟩

/-- The hold of string `k` after its sample. -/
def State.heldAfter (s : State) (f : MeasFrame) (k : Nat) : Hold :=
  (s.intake.holds.getD k Hold.blank).after (f.sample k)

/-- `s` with the hold and the record of string `k` renewed, and the notice of a change of its class. -/
def State.sampled (s : State) (f : MeasFrame) (k : Nat) (x y : StringRec) : State :=
  ((s.onIntake (fun i => { i with holds := i.holds.set k (s.heldAfter f k) })).withStrings (s.strings.set k y)).withHost
    (s.host.joinAll (s.classNotice k x y))

/-- What the take-in of a string rests on besides its record and its hold. -/
structure State.AsSampled (s t : State) : Prop where
  startup : t.startup = s.startup
  image : t.image = s.image
  job : t.job = s.job
  dog : t.dog = s.dog
  clock : t.us = s.us

theorem asSampled_refl (s : State) : s.AsSampled s := ⟨rfl, rfl, rfl, rfl, rfl⟩

theorem asSampled_sampled (h : s.AsSampled t) (f : MeasFrame) (k : Nat) (x y : StringRec) :
    s.AsSampled (t.sampled f k x y) := ⟨h.startup, h.image, h.job, h.dog, h.clock⟩

/-- The holds with those of the strings `a` to `a + n - 1` renewed. -/
def State.holdsFrom (s : State) (f : MeasFrame) (a n : Nat) : List Hold :=
  s.intake.holds.mapIdx (fun j x => if a ≤ j ∧ j < a + n then s.heldAfter f j else x)

theorem holdsFrom_zero (s : State) (f : MeasFrame) (a : Nat) : s.holdsFrom f a 0 = s.intake.holds := by
  refine List.ext_getElem? fun j => ?_
  rw [State.holdsFrom, List.getElem?_mapIdx]
  cases s.intake.holds[j]? with
  | none => rfl
  | some x => exact congrArg some (if_neg (by omega))

/-- The holds of a run, the first one renewed before the others. -/
theorem holdsFrom_succ {k a : Nat} {x y : StringRec} (f : MeasFrame) (n : Nat) (hk : k = a) :
    (s.sampled f k x y).holdsFrom f (a + 1) n = s.holdsFrom f a (n + 1) := by
  subst hk
  refine List.ext_getElem? fun j => ?_
  have hholds : (s.sampled f k x y).intake.holds = s.intake.holds.set k (s.heldAfter f k) := rfl
  have hheld : ∀ j, j ≠ k → (s.sampled f k x y).heldAfter f j = s.heldAfter f j := fun j hj => by
    rw [State.heldAfter, hholds, List.getD_eq_getElem?_getD, List.getElem?_set_ne (Ne.symm hj),
      ← List.getD_eq_getElem?_getD]
    rfl
  rw [State.holdsFrom, State.holdsFrom, List.getElem?_mapIdx, List.getElem?_mapIdx, hholds]
  by_cases hj : j = k
  · subst hj
    by_cases hlt : j < s.intake.holds.length
    · rw [List.getElem?_set_self hlt, List.getElem?_eq_getElem hlt]
      simp
    · rw [List.getElem?_eq_none (by simp; omega), List.getElem?_eq_none (by omega)]
      rfl
  · rw [List.getElem?_set_ne (Ne.symm hj)]
    cases s.intake.holds[j]? with
    | none => rfl
    | some z =>
      refine congrArg some ?_
      rw [hheld j hj]
      exact if_congr (by omega) rfl rfl

/-- A take-in of the strings from one on, where each changes its own hold and record alone. -/
theorem samples_eq {f : MeasFrame} {op : State → Nat → State} {Y : Nat → Hold → StringRec → StringRec} {s0 : State}
    (hop : ∀ (u : State) (k : Nat) (x : StringRec), s0.AsSampled u → u.strings[k]? = some x →
      op u k = u.sampled f k x (Y k (u.heldAfter f k) x)) (l : List StringRec) :
    ∀ (s : State) (done : List StringRec), s0.AsSampled s → s.strings = done ++ l →
    (List.range' done.length l.length).foldl op s
      = ((s.onIntake (fun i => { i with holds := s.holdsFrom f done.length l.length })).withStrings
          (done ++ l.mapIdx (fun k x => Y (done.length + k) (s.heldAfter f (done.length + k)) x))).withHost
          (s.host.joinAll (s.classNoticesFrom done.length l
            (l.mapIdx (fun k x => Y (done.length + k) (s.heldAfter f (done.length + k)) x)))) := by
  induction l with
  | nil =>
    intro s done _ hs
    simp only [List.mapIdx_nil, ← hs, List.length_nil, holdsFrom_zero]
    rfl
  | cons x l ih =>
    intro s done hlike hs
    have hx : s.strings[done.length]? = some x := by simp [hs]
    have hset : ∀ y, s.strings.set done.length y = (done ++ [y]) ++ l := fun y => by
      simp [hs]
    simp only [List.length_cons, List.range'_succ, List.foldl_cons]
    rw [hop s done.length x hlike hx]
    generalize hy : Y done.length (s.heldAfter f done.length) x = y
    have hlater := ih (s.sampled f done.length x y) (done ++ [y]) (asSampled_sampled hlike ..) (hset y)
    rw [List.length_append, List.length_singleton] at hlater
    have hheld : ∀ k, (s.sampled f done.length x y).heldAfter f (done.length + (k + 1))
        = s.heldAfter f (done.length + (k + 1)) := fun k => by
      rw [State.heldAfter, show (s.sampled f done.length x y).intake.holds
        = s.intake.holds.set done.length (s.heldAfter f done.length) from rfl, List.getD_eq_getElem?_getD,
        List.getElem?_set_ne (by omega), ← List.getD_eq_getElem?_getD]
      rfl
    rw [hlater, List.mapIdx_cons, classNoticesFrom_cons, joinAll_append, holdsFrom_succ f l.length rfl]
    have hshift : ∀ i, done.length + 1 + i = done.length + (i + 1) := fun i => by omega
    simp only [hheld, hshift, List.append_assoc, List.singleton_append, Nat.add_zero, hy]
    rfl

/-- A take-in of all strings. -/
theorem allSamples_eq {f : MeasFrame} {op : State → Nat → State} {Y : Nat → Hold → StringRec → StringRec}
    (hop : ∀ (u : State) (k : Nat) (x : StringRec), s.AsSampled u → u.strings[k]? = some x →
      op u k = u.sampled f k x (Y k (u.heldAfter f k) x)) :
    let new := s.strings.mapIdx (fun k x => Y k (s.heldAfter f k) x)
    (List.range s.strings.length).foldl op s
      = ((s.onIntake (fun i => { i with holds := s.intake.holds.mapIdx (fun k h =>
          if k < s.strings.length then s.heldAfter f k else h) })).withStrings new).withHost
          (s.host.joinAll (s.classNotices new)) := by
  intro new
  have h := samples_eq hop s.strings s [] (asSampled_refl s) rfl
  simp only [List.length_nil, List.nil_append, Nat.zero_add] at h
  rw [List.range_eq_range', h, classNotices_eq]
  have hholds : s.holdsFrom f 0 s.strings.length
      = s.intake.holds.mapIdx (fun k h => if k < s.strings.length then s.heldAfter f k else h) := by
    simp only [State.holdsFrom, Nat.zero_le, true_and, Nat.zero_add]
  rw [hholds]

/-- A string whose class stays, sampled. -/
theorem sampled_sameClass {f : MeasFrame} {k : Nat} {x y : StringRec} (h : y.cls = x.cls) :
    s.sampled f k x y
      = (s.onIntake (fun i => { i with holds := i.holds.set k (s.heldAfter f k) })).withStrings (s.strings.set k y) := by
  rw [State.sampled, State.classNotice, if_pos h.symm]
  rfl

end Sys2Proof.Machine

/-! PROOFS. The ends of a READY buffer before and in START_WINDOW, and the end of a take-in (sections 8.1 and 8.2). -/

namespace Sys2Proof.Machine

-- One proof after another: side by side they ask for more thread stacks than there is memory for.
set_option Elab.async false

variable {s t u : State} {i : Nat}

/-! ### The buffer that a row finds -/

theorem hasBuffer_of_bufferIn {r : BufferRole} (h : s.bufferIn r = some i) : s.hasBuffer r = true := by
  obtain ⟨c, hc, hrole⟩ := getElem_of_bufferIn h
  exact List.any_eq_true.mpr ⟨c, List.mem_of_getElem? hc, by simp [hrole]⟩

theorem hasBuffer_of_none {r : BufferRole} (h : s.bufferIn r = none) : s.hasBuffer r = false := by
  rw [State.hasBuffer, List.any_eq_false]
  exact fun x hx => by simp [List.findIdx?_eq_none_iff.mp h x hx]

/-- A READY buffer is examined where none is in use (R166). -/
theorem takeIn_due (hi : s.bufferIn .ready = some i) (hno : s.bufferIn .inUse = none) :
    (s.hasBuffer .ready && !s.hasBuffer .inUse) = true := by
  rw [hasBuffer_of_bufferIn hi, hasBuffer_of_none hno]
  rfl

/-- What MEAS_TAKE_IN does. -/
def State.takeInBody (s : State) : State :=
  match s.bufferIn .ready with
  | some i => s.examine i
  | none => s

theorem execMeasTakeIn_eq (s : State) :
    exec .measTakeIn s = s.event (s.hasBuffer .ready && !s.hasBuffer .inUse) State.takeInBody := rfl

theorem takeInBody_eq (hi : s.bufferIn .ready = some i) : s.takeInBody = s.examine i := by
  simp only [State.takeInBody, hi]

/-- The frame in buffer `i`. -/
def State.frameIn (s : State) (i : Nat) : MeasFrame := measOf ((s.intake.buffers.getD i ⟨.free, []⟩).bytes)

theorem withStatusDue_frameIn (s : State) (b : Bool) (i : Nat) : (s.withStatusDue b).frameIn i = s.frameIn i := rfl

/-- `s` with buffer `i` in role `r`. -/
theorem setRole_eq (s : State) (i : Nat) (r : BufferRole) : s.setRole i r = s.withIntake { s.intake with
    buffers := s.intake.buffers.modify i (fun b => { b with role := r }) } := rfl

section
variable (hopen : s.startup.state = .startWindow ∨ s.startup.state = .joined)
include hopen

theorem inWindow_or_joined : (s.inWindow || s.joined) = true := by
  obtain h | h := hopen <;> simp [State.inWindow, State.joined, h]

theorem examine_repeated (h : s.intake.lastCounter = some (s.frameIn i).counter) : s.examine i =
    s.withIntake { s.intake with
      buffers := s.intake.buffers.modify i (fun b => { b with role := .free })
      repeated := min 65535 (s.intake.repeated + 1) } := by
  unfold State.examine
  simp only
  rw [if_pos (inWindow_or_joined hopen), if_pos (by exact h)]
  rfl

theorem examine_taken (h : s.intake.lastCounter ≠ some (s.frameIn i).counter) :
    s.examine i = (s.setRole i .inUse).takeFrame (s.frameIn i) := by
  unfold State.examine
  simp only
  rw [if_pos (inWindow_or_joined hopen), if_neg (by exact h)]
  rfl
end

theorem examine_early (h : s.startup.state = .loading ∨ s.startup.state = .configFault) :
    s.examine i = s.setRole i .free := by
  unfold State.examine
  have hclosed : ¬ (s.inWindow || s.joined) = true := by
    obtain h | h := h <;> simp [State.inWindow, State.joined, h]
  simp only
  rw [if_neg hclosed]

/-! ### A take-in in START_WINDOW (R170) -/

/-- What a take-in of START_WINDOW makes of a record. -/
def StringRec.refreshed (f : MeasFrame) (k : Nat) (h : Hold) (x : StringRec) : StringRec :=
  ((x.takeFlags h (f.sample k)).takeTemp false (handedOf h (f.sample k)).temperature).formAvail false

theorem takeFlags_cls (h : Hold) (y : Sample) (x : StringRec) : (x.takeFlags h y).cls = x.cls := by
  unfold StringRec.takeFlags
  split
  · rfl
  · split <;> rfl

theorem takeTemp_cls (joined : Bool) (z : Int) (x : StringRec) : (x.takeTemp joined z).cls = x.cls := by
  unfold StringRec.takeTemp
  split
  · rfl
  · split <;> rfl

/-- `x` with the temperature `z` as the last one, if it is measured. -/
def StringRec.warmed (z : Int) (x : StringRec) : StringRec := { x with tLast := if x.unmeasured then x.tLast else z }

theorem takeTemp_early (z : Int) (x : StringRec) : x.takeTemp false z = x.warmed z := by
  unfold StringRec.takeTemp StringRec.warmed
  split
  · rfl
  · exact if_neg Bool.false_ne_true

theorem refreshed_eq (f : MeasFrame) (k : Nat) (h : Hold) (x : StringRec) : x.refreshed f k h = StringRec.formAvail false
    ((x.takeFlags h (f.sample k)).warmed (handedOf h (f.sample k)).temperature) :=
  congrArg (StringRec.formAvail false) (takeTemp_early ..)

theorem onString_onIntake (s : State) (g : Intake → Intake) {k : Nat} {x : StringRec} (hx : s.strings[k]? = some x)
    (y : StringRec → StringRec) : (s.onIntake g).onString k y = (s.onIntake g).withStrings (s.strings.set k (y x)) :=
  onString_eq (s := s.onIntake g) hx y

theorem takeString_early (hj : s.joined = false) {k : Nat} {x : StringRec} (hx : s.strings[k]? = some x)
    (f : MeasFrame) (base : Bool) (dt : Nat) :
    s.takeString f base dt k = s.sampled f k x (x.refreshed f k (s.heldAfter f k)) := by
  have hk : k < s.strings.length := (List.getElem?_eq_some_iff.mp hx).1
  have hcls : (x.refreshed f k (s.heldAfter f k)).cls = x.cls := (takeTemp_cls ..).trans (takeFlags_cls ..)
  have hflags := onString_onIntake s (fun i => { i with holds := i.holds.set k (s.heldAfter f k) }) hx
    (StringRec.takeFlags (s.heldAfter f k) (f.sample k))
  rw [sampled_sameClass hcls]
  refine (if_neg (by simpa using hj)).trans ?_
  refine (congrArg (fun u : State => u.onString k _) hflags).trans ?_
  refine (onString_eq (x := x.takeFlags (s.heldAfter f k) (f.sample k)) (by simp [hk]) _).trans ?_
  simp only [withStrings_strings, List.set_set]
  rfl

/-- BYP_OK as a take-in forms it (R100). -/
theorem bypOkNow_eq (himage : s.image ≠ none) : s.bypOkNow = (s.phase.byp.freq.isSome
    && decide ((max s.intake.vBypass s.cfg.bypNominal - min s.intake.vBypass s.cfg.bypNominal) * 100
      ≤ s.cfg.bypNominal * s.cfg.band)) := by
  have hband : s.intake.vBypass - s.cfg.bypNominal + (s.cfg.bypNominal - s.intake.vBypass)
      = max s.intake.vBypass s.cfg.bypNominal - min s.intake.vBypass s.cfg.bypNominal := by omega
  have hheld : s.image.isSome = true := Option.isSome_iff_ne_none.mpr himage
  simp only [State.bypOkNow, hband, hheld, Bool.and_true, ble_eq_decide]

/-- Records that keep their classes raise no notice. -/
theorem classNotices_sameClass {g : Nat → StringRec → StringRec} (hg : ∀ k x, (g k x).cls = x.cls) (s : State) :
    s.classNotices (s.strings.mapIdx g) = [] := by
  have hfrom : ∀ (l : List StringRec) (g : Nat → StringRec → StringRec) (base : Nat), (∀ k x, (g k x).cls = x.cls) →
      s.classNoticesFrom base l (l.mapIdx g) = [] := by
    intro l
    induction l with
    | nil => exact fun _ _ _ => rfl
    | cons x l ih =>
      intro g base hg
      rw [List.mapIdx_cons, classNoticesFrom_cons, ih _ _ fun k x => hg (k + 1) x, State.classNotice,
        if_pos (hg 0 x).symm]
      rfl
  rw [classNotices_eq]
  exact hfrom _ g 0 hg

/-- Every string at a take-in of START_WINDOW. -/
theorem allSamples_early (hj : s.joined = false) (f : MeasFrame) (base : Bool) (dt : Nat) :
    (List.range s.strings.length).foldl (State.takeString f base dt) s
      = (s.onIntake (fun i => { i with holds := s.intake.holds.mapIdx (fun k h =>
          if k < s.strings.length then s.heldAfter f k else h) })).withStrings
          (s.strings.mapIdx (fun k x => x.refreshed f k (s.heldAfter f k))) := by
  have hcls : ∀ k x, (StringRec.refreshed f k (s.heldAfter f k) x).cls = x.cls := fun k x =>
    (takeTemp_cls ..).trans (takeFlags_cls ..)
  refine (allSamples_eq (Y := fun k h x => x.refreshed f k h) fun u k x hlike hx => takeString_early
    (by rw [State.joined, hlike.startup]; exact hj) hx f base dt).trans ?_
  rw [classNotices_sameClass hcls]
  rfl

/-- `s` after the take-in of the frame `f` in START_WINDOW: the strings, the figures and BYP_OK are refreshed. -/
def State.tookEarly (s : State) (f : MeasFrame) : State := { s with
  strings := s.strings.mapIdx (fun k r => r.refreshed f k (s.heldAfter f k))
  seq := { s.seq with
    bypOk := s.phase.byp.freq.isSome && decide ((max f.vBypass s.cfg.bypNominal - min f.vBypass s.cfg.bypNominal)
      * 100 ≤ s.cfg.bypNominal * s.cfg.band) }
  intake := { s.intake with
    lastCounter := some f.counter, lastTakeMs := some s.now, inUseSince := some s.us
    pAvail := min s.cfg.pRated f.pAvail, load := f.load, vBypass := f.vBypass
    holds := s.intake.holds.mapIdx (fun k x => if k < s.strings.length then s.heldAfter f k else x) } }

theorem formBypOk_online (himage : s.image ≠ none) (honline : s.seq.state = .online) : s.formBypOk = { s with
    seq := { s.seq with
      bypOk := s.phase.byp.freq.isSome && decide ((max s.intake.vBypass s.cfg.bypNominal
        - min s.intake.vBypass s.cfg.bypNominal) * 100 ≤ s.cfg.bypNominal * s.cfg.band) } } := by
  rw [State.formBypOk, bypOkNow_eq himage]
  exact testReady_idle (.inl fun h => by cases honline.symm.trans h)

theorem takeFrame_early (hj : s.joined = false) (honline : s.seq.state = .online) (hdog : s.dog.stage = .off)
    (himage : s.image ≠ none) (f : MeasFrame) : s.takeFrame f = s.tookEarly f := by
  have hsilent : s.hostSilent = false := by simp [State.hostSilent, hdog]
  have hunfed : (s.onIntake (Intake.takeFigures f s.cfg.pRated s.us)).feedDog
      = s.onIntake (Intake.takeFigures f s.cfg.pRated s.us) := if_neg (ne_true_of_eq_false hj)
  have hfold := allSamples_early (s := s.onIntake (Intake.takeFigures f s.cfg.pRated s.us)) hj f
    s.intake.baselineNext s.interval
  simp only [State.takeFrame, hsilent, Bool.or_false, if_false, Bool.false_eq_true, hunfed, State.handOver]
  rw [hfold, if_neg (by exact ne_true_of_eq_false hj), evalMargin_beforeJoin (by exact hj),
    formBypOk_online (by exact himage) (by exact honline)]
  rfl

theorem takeIn_early (hr : s.running = true) (hi : s.bufferIn .ready = some i) (hno : s.bufferIn .inUse = none)
    (hopen : s.startup.state = .startWindow) (honline : s.seq.state = .online) (hdog : s.dog.stage = .off)
    (hnew : s.intake.lastCounter ≠ some (s.frameIn i).counter) (himage : s.image ≠ none) :
    exec .measTakeIn s = .next (((s.withStatusDue false).setRole i .inUse).tookEarly (s.frameIn i)) := by
  have hj : s.joined = false := by simp [State.joined, hopen]
  have hbody : State.takeInBody (s.withStatusDue false)
      = ((s.withStatusDue false).setRole i .inUse).tookEarly (s.frameIn i) :=
    ((takeInBody_eq (s := s.withStatusDue false) hi).trans (examine_taken (s := s.withStatusDue false) (.inl hopen)
      (by rw [withStatusDue_frameIn]; exact hnew))).trans
      (takeFrame_early (s := (s.withStatusDue false).setRole i .inUse) hj honline hdog himage _)
  exact (execMeasTakeIn_eq s).trans ((event_beforeJoin hr (takeIn_due hi hno) (by rw [hbody]; exact hj)).trans
    (congrArg Host.Outcome.next hbody))

/-- Settles O26: each end of a READY buffer is one branch of its examination (R166), and in START_WINDOW every
string is refreshed alone (R170). -/
theorem takeInOutcomes : Obligations.TakeInOutcomes := by
  intro s hr
  refine ⟨fun i hi hno => ?_, fun i hi hm => ?_⟩
  · intro freed f h bypOk
    have hdue := takeIn_due hi hno
    refine ⟨fun hearly => ?_, fun hopen hm hsame => ?_, fun hopen honline hdog hbase hnew himage => ?_⟩
    · have hbody : State.takeInBody (s.withStatusDue false) = (s.withStatusDue false).setRole i .free :=
        (takeInBody_eq (s := s.withStatusDue false) hi).trans (examine_early hearly)
      have hj : s.joined = false := by
        obtain h | h := hearly <;> simp [State.joined, h]
      exact (execMeasTakeIn_eq s).trans ((event_beforeJoin hr hdue (by rw [hbody]; exact hj)).trans
        (congrArg Host.Outcome.next hbody))
    · exact (execMeasTakeIn_eq s).trans (event_sameView hr hdue hm
        ((takeInBody_eq (s := s.withStatusDue false) hi).trans (examine_repeated (s := s.withStatusDue false) hopen
          (by rw [withStatusDue_frameIn]; exact hsame)))
        ⟨rfl, rfl, rfl, rfl, rfl⟩ rfl rfl rfl rfl)
    · refine (takeIn_early hr hi hno hopen honline hdog hnew himage).trans (congrArg Host.Outcome.next ?_)
      simp only [State.tookEarly, refreshed_eq]
      rfl
  · refine event_sameView hr (hasBuffer_of_bufferIn hi) hm ?_ ⟨rfl, rfl, rfl, rfl, rfl⟩ rfl rfl rfl rfl
    simp only [show (s.withStatusDue false).bufferIn .inUse = some i from hi]
    rfl

end Sys2Proof.Machine

/-! PROOFS. JOIN: the position that the lines give, and the start of the blocks that act from JOIN on (sections 5.8, 9.3
and 10.4). -/

namespace Sys2Proof.Machine

-- One proof after another: side by side they ask for more thread stacks than there is memory for.
set_option Elab.async false

variable {s t u v : State}

/-! ### A cabinet found on bypass (R92, R120) -/

/-- `s` in JOINED. -/
def State.joining (s : State) : State := s.onStartup (fun u => { u with state := .joined, windowEnds := none })

/-- The entry of a cabinet found on bypass, with the first claim id. -/
def State.foundEntry (s : State) : Withdrawal := ⟨s.own, 1, .bypass, .cabinet, true, true, false, none, s.now, false⟩

/-- The machine in which a forced withdrawal of the cabinet has been found. -/
def State.foundForced (s : State) : State :=
  { s with claims := { s.claims with list := [s.foundEntry], lastId := 1 }, statusDue := true }

theorem untouched_history (hu : s.Untouched) : s.seq.history = [] := congrArg Sequencer.history hu.seq

theorem newClaimId_first (hclaims : s.claims = State.reset.claims) : s.newClaimId = 1 := by
  have hown : s.ownWithdrawals = [] := by
    unfold State.ownWithdrawals
    rw [hclaims]
    rfl
  simp only [State.newClaimId, hown, hclaims]
  rfl

theorem ownOfClass_reset (hclaims : s.claims = State.reset.claims) (c : WKind → Bool) : s.ownOfClass c = none := by
  unfold State.ownOfClass State.ownWithdrawals
  rw [hclaims]
  rfl

theorem enterForced_found (hclaims : s.claims = State.reset.claims) : s.enterForced = s.foundForced := by
  have hentry : s.forcedEntry = s.foundEntry := by rw [State.forcedEntry, newClaimId_first hclaims, State.foundEntry]
  have hlist : s.claims.list = [] := congrArg Claims.list hclaims
  unfold State.enterForced
  simp only [ownOfClass_reset hclaims, hentry]
  show { s with claims := { s.claims with list := s.claims.list ++ [s.foundEntry], lastId := 1 }, statusDue := true } = _
  rw [hlist]
  rfl

theorem foundForced_own (s : State) : s.foundForced.ownOfClass WKind.isCabinet = some s.foundEntry := by
  simp [State.ownOfClass, State.ownWithdrawals, State.foundForced, State.foundEntry, State.own, State.cfg,
    WKind.isCabinet]

theorem foundForced_id (s : State) : s.foundForced.cabinetId = 1 := cabinetId_of_own (foundForced_own s)

theorem announceForced_of_own {w : Withdrawal} (hown : s.ownOfClass WKind.isCabinet = some w) :
    s.announceForced = s.sendForced w := by
  unfold State.announceForced
  rw [hown]

/-- The own queue, empty before, with one frame in it. -/
theorem queueOwn_first (hqueue : s.loop.queue = []) {k : FrameKind} (hk : k ≠ .status) (id : Nat) (body : List Byte) :
    (s.queueOwn k id body).1.loop.queue.map (fun f => (f.kind, f.claimId)) = [(k, id)] := by
  show ((joinQueue _ (queueFor k s.loop.queue) _).1).map _ = _
  rw [queueFor, if_neg hk, hqueue]
  rfl

theorem foundForced_frame (s : State) : s.ChangesOnly [.withdrawals, .claimIds] s.foundForced := by
  constructor; intro p hp; cases p <;> simp_all [Piece.kept, State.foundForced]

theorem tell_frame (s : State) (n : Notice) : s.ChangesOnly [.notices] (s.withHost (s.host.join n)) := by
  constructor
  intro p hp
  unfold HostPort.join
  split <;> cases p <;> simp_all [Piece.kept]

/-! ### The position taken up (R120) -/

/-- The notice of a cabinet found on bypass. -/
def State.foundNotice (s : State) : Notice := s.noticeOf .forcedBypass 1 0 SeqState.online.code 3

theorem enterMaint_unannounced (hvisit : s.cabinetVisitOpen = false) (prior : SeqState) :
    s.enterMaint prior false = ((s.inMaint prior).enterMaintKind false).notify .unsanctionedMaint
      ((s.inMaint prior).enterMaintKind false).cabinetId prior.code 0 0 := by
  unfold State.enterMaint
  simp only [hvisit, Bool.false_eq_true, if_false]
  rfl

/-- The cabinet found in maintenance bypass, told and not yet announced. -/
def State.foundMaint (s : State) : State := { s with
  claims := { s.claims with list := [s.foundEntry.asMaint false], lastId := 1 }
  seq := { s.seq with state := .maint, prior := some .forced, xfer := none, retransferAt := none }
  outs := { s.outs with xferByp := false, xferInv := false, mbsPermit := false }
  host := s.host.join s.foundNotice
  statusDue := true }

theorem foundMaint_frame (s : State) : s.ChangesOnly [.requests, .lamp, .withdrawals, .claimIds, .sequencer, .notices]
    s.foundMaint := by
  constructor
  intro p hp
  unfold State.foundMaint HostPort.join
  split <;> cases p <;> simp_all [Piece.kept]

/-- The pieces of the position taken up. -/
def takenUpPieces : List Piece := [.requests, .lamp, .withdrawals, .claimIds, .sequencer, .notices, .ownQueue]

/-- `v` is `s` with a position taken up: the sequencer in `x` with `prior`, the withdrawals `l`, their frames
`frames` in the own queue, and the notices `notices`. -/
structure State.TakenUp (s : State) (x : SeqState) (prior : Option SeqState) (l : List Withdrawal)
    (frames : List (FrameKind × Nat)) (notices : List Notice) (v : State) : Prop where
  frame : s.ChangesOnly takenUpPieces v
  state : v.seq.state = x
  prior : v.seq.prior = prior
  history : v.seq.history = []
  list : v.claims.list = l
  queue : v.loop.queue.map (fun f => (f.kind, f.claimId)) = frames
  host : v.host = s.host.joinAll notices

section
variable (hu : s.Untouched)
include hu

theorem takePosition_inverter (hfound : s.seq.found = .inverter) :
    s.TakenUp .online none [] [] [] s.takePosition := by
  have hself : s.takePosition = s := by
    unfold State.takePosition
    rw [hfound]
  rw [hself]
  exact ⟨changesOnly_refl .., untouched_seq_state hu, congrArg Sequencer.prior hu.seq, untouched_history hu,
    untouched_list hu, by rw [hu.queue]; rfl, rfl⟩

variable (hj : s.joined = true)
include hj

theorem takePosition_bypass (hfound : s.seq.found = .bypass) (hopen : s.pins.mbsClosed = false) :
    s.TakenUp .forced none [s.foundEntry] [(.forced, 1)] [s.foundNotice] s.takePosition
    ∧ s.takePosition.seq.retransferAt = (if s.pins.invOk = true ∧ s.phase.lock = 4
        then some (s.now + s.cfg.retransferDelay * 1000) else none) := by
  have hhistory := untouched_history hu
  have hrecord : s.recordForced = s.foundForced.sendForced s.foundEntry := by
    unfold State.recordForced State.announceForced
    simp only [enterForced_found hu.claims, foundForced_own]
  have hid : (s.foundForced.sendForced s.foundEntry).cabinetId = 1 :=
    cabinetId_of_own ((ownOfClass_of_frame (sendForced_frame ..) _).trans (foundForced_own s))
  have htake : s.takePosition
      = ((s.foundForced.sendForced s.foundEntry).withHost (s.host.join s.foundNotice)).enterStatic .forced := by
    unfold State.takePosition
    simp only [hfound, hrecord, hid, untouched_history hu, untouched_seq_state hu]
    exact congrArg (fun u : State => u.enterStatic .forced)
      (notify_eq (s := s.foundForced.sendForced s.foundEntry) hj .forcedBypass _ _ _ _)
  have hstatic := enterStatic_eq (s := (s.foundForced.sendForced s.foundEntry).withHost (s.host.join s.foundNotice))
    hopen (x := .forced) rfl
  have hframe : s.ChangesOnly takenUpPieces s.takePosition := by
    rw [htake]
    exact changesOnly_then (changesOnly_then (changesOnly_then (foundForced_frame s) (sendForced_frame ..)
      (e := [.withdrawals, .claimIds, .ownQueue]) rfl rfl) (tell_frame ..)
      (e := [.withdrawals, .claimIds, .ownQueue, .notices]) rfl rfl) (enterStatic_frame_open (by exact hopen) _) rfl rfl
  have hqueue : (s.foundForced.sendForced s.foundEntry).loop.queue.map (fun f => (f.kind, f.claimId)) = [(.forced, 1)] :=
    queueOwn_first hu.queue (by decide) ..
  rw [htake] at hframe ⊢
  rw [hstatic] at hframe ⊢
  refine ⟨⟨hframe, rfl, rfl, hhistory, rfl, hqueue, rfl⟩, ?_⟩
  simp only [true_and]
  rfl

theorem takePosition_maint (hfound : s.seq.found = .maintBypass) :
    s.TakenUp .maint (some .forced) [s.foundEntry.asMaint false] [(.forced, 1)]
      [s.foundNotice, s.noticeOf .unsanctionedMaint 1 SeqState.forced.code 0 0] s.takePosition := by
  have hhistory := untouched_history hu
  have hvisit : s.cabinetVisitOpen = false := by
    unfold State.cabinetVisitOpen
    rw [untouched_current hu]
  have hown : ((s.foundForced.withHost (s.host.join s.foundNotice)).inMaint .forced).ownOfClass WKind.isCabinet
      = some s.foundEntry := foundForced_own s
  have hself : s.foundEntry.isFor s.own s.foundEntry.claimId = true := by simp [Withdrawal.isFor, State.foundEntry]
  have hkind : ((s.foundForced.withHost (s.host.join s.foundNotice)).inMaint .forced).enterMaintKind false
      = s.foundMaint := by
    rw [enterMaintKind_eq hown]
    show { s.foundMaint with claims := { s.foundMaint.claims with
      list := [if s.foundEntry.isFor s.own s.foundEntry.claimId then s.foundEntry.asMaint false else s.foundEntry] } } = _
    rw [if_pos hself]
    rfl
  have hfoundOwn : s.foundMaint.ownOfClass WKind.isCabinet = some (s.foundEntry.asMaint false) := by
    simp [State.ownOfClass, State.ownWithdrawals, State.foundMaint, State.foundEntry, Withdrawal.asMaint, State.own,
      State.cfg, WKind.isCabinet]
  have hid : s.foundMaint.cabinetId = 1 := cabinetId_of_own hfoundOwn
  have htake : s.takePosition = (s.foundMaint.withHost (s.foundMaint.host.join (s.noticeOf .unsanctionedMaint 1
      SeqState.forced.code 0 0))).sendForced (s.foundEntry.asMaint false) := by
    unfold State.takePosition
    simp only [hfound, enterForced_found hu.claims, foundForced_id, untouched_history hu, untouched_seq_state hu]
    have htold := notify_eq (s := s.foundForced) hj .forcedBypass 1 0 SeqState.online.code 3
    have hentered : (s.foundForced.withHost (s.host.join s.foundNotice)).enterMaint .forced false
        = s.foundMaint.withHost (s.foundMaint.host.join (s.noticeOf .unsanctionedMaint 1 SeqState.forced.code 0 0)) := by
      rw [enterMaint_unannounced (by exact hvisit), hkind, hid]
      exact notify_eq (s := s.foundMaint) hj ..
    refine (congrArg (fun u : State => (u.enterMaint .forced false).announceForced) htold).trans
      ((congrArg State.announceForced hentered).trans ?_)
    exact announceForced_of_own hfoundOwn
  have hframe : s.ChangesOnly takenUpPieces s.takePosition := by
    rw [htake]
    exact changesOnly_then (changesOnly_then (foundMaint_frame s) (tell_frame ..) (e := takenUpPieces) rfl rfl)
      (sendForced_frame ..) rfl rfl
  have hqueue : s.takePosition.loop.queue.map (fun f => (f.kind, f.claimId)) = [(.forced, 1)] := by
    rw [htake]
    exact queueOwn_first hu.queue (by decide) ..
  rw [htake] at hframe hqueue ⊢
  exact ⟨hframe, rfl, rfl, hhistory, rfl, hqueue, rfl⟩

end

/-! ### The blocks that start (R194) -/

/-- The machine with the watchdog armed to `d`, the minute begun to end at `m`, and every baseline dropped. -/
def State.started (s : State) (d m : Nat) : State := { s with
  dog := ⟨.watching, some d⟩, ticks := ⟨0, some m⟩, strings := s.strings.map StringRec.dropBaseline
  intake := { s.intake with baselineNext := true }, seq := { s.seq with found := .inverter }, statusDue := true }

theorem started_frame (s : State) (d m : Nat) :
    s.ChangesOnly [.watchdog, .ticks, .strings, .intake, .sequencer] (s.started d m) := by
  constructor; intro p hp; cases p <;> simp_all [Piece.kept, State.started]

theorem started_eq (s : State) (d m : Nat) : (((((s.withDog ⟨.watching, some d⟩).withTicks ⟨0, some m⟩).withStrings
    (s.strings.map StringRec.dropBaseline)).onIntake (fun i => { i with baselineNext := true })).onSeq
    (fun q => { q with found := .inverter })).markStatus = s.started d m := by
  simp only [State.markStatus, State.onSeq, State.onIntake, State.withTicks, State.withDog, State.withStrings,
    State.withIntake, State.withSeq, State.withStatusDue, State.started]

theorem joinFloor_eq (s : State) : s.joinFloor
    = s.joining.takePosition.evalMargin.started (s.now + s.cfg.hostTimeout) (s.now + 60000) := by
  rw [← started_eq]
  rfl

theorem started_hostSilent (hoff : s.dog.stage = .off) (d m : Nat) : (s.started d m).hostSilent = s.hostSilent := by
  unfold State.hostSilent
  rw [show (s.started d m).dog.stage = .watching from rfl, hoff]
  rfl

theorem started_reportAt (s : State) (d m k : Nat) : (s.started d m).reportAt k = s.reportAt k := by
  unfold State.reportAt
  rw [show (s.started d m).strings = s.strings.map StringRec.dropBaseline from rfl, List.getElem?_map]
  cases s.strings[k]? <;> rfl

theorem started_ownFlags (hoff : s.dog.stage = .off) (d m : Nat) : (s.started d m).ownFlags = s.ownFlags := by
  have hage : (s.strings.map StringRec.dropBaseline).any (fun r => r.ageUnknown) = s.strings.any (fun r => r.ageUnknown) := by
    rw [List.any_map]
    rfl
  unfold State.ownFlags
  rw [started_hostSilent hoff, show (s.started d m).strings = s.strings.map StringRec.dropBaseline from rfl, hage,
    show (s.started d m).dog.stage = .watching from rfl, hoff]
  rfl

/-- The own STATUS core forgets the baselines, the watchdog's arming and the found position. -/
theorem started_ownCore (hoff : s.dog.stage = .off) (d m : Nat) : (s.started d m).ownCore = s.ownCore := by
  unfold State.ownCore
  simp only [started_hostSilent hoff, started_reportAt, started_ownFlags hoff]
  rfl

theorem started_evaluated (hoff : s.dog.stage = .off) (d m : Nat) (hs : s.Evaluated) :
    (s.started d m).Evaluated := by
  have hview : s.SameView (s.started d m) := ⟨rfl, rfl, rfl, rfl, started_ownCore hoff d m⟩
  exact evaluated_of_sameSums (sameSums_of_sameView hview) rfl rfl hs

/-! ### The end of JOIN's event -/

/-- The STATUS of an event's end joins the queue behind the other frames. -/
theorem queueStatus_joins (hothers : otherFrames s.loop.queue = s.loop.queue) (hroom : s.loop.queue.length < 8) :
    s.queueStatus.loop.queue.map (fun f => (f.kind, f.claimId))
      = s.loop.queue.map (fun f => (f.kind, f.claimId)) ++ [(.status, 0)] := by
  show ((joinQueue _ (queueFor .status s.loop.queue) _).1).map _ = _
  rw [show queueFor .status s.loop.queue = s.loop.queue from hothers, joinQueue, if_pos hroom, List.map_append]
  rfl

/-- What JOIN from `s` leaves in `t`, with the position taken up in `v`. -/
structure State.Begun (s v t : State) : Prop where
  startup : t.startup = { s.startup with state := .joined, windowEnds := none }
  dog : t.dog = ⟨.watching, some (s.now + s.cfg.hostTimeout)⟩
  ticks : t.ticks = ⟨0, some (s.now + 60000)⟩
  strings : t.strings = s.strings.map StringRec.dropBaseline
  intake : t.intake = { s.intake with baselineNext := true }
  status : t.view.seq = 1 ∧ t.view.statusAt = some (s.now + s.cfg.statusPeriod)
  peers : t.view.peers = s.view.peers
  seq : t.seq = { v.seq with found := .inverter }
  list : t.claims.list = v.claims.list
  queue : t.loop.queue.map (fun f => (f.kind, f.claimId)) = v.loop.queue.map (fun f => (f.kind, f.claimId)) ++ [(.status, 0)]
  notices : v.host.notices <+: t.host.notices

theorem joining_frame (s : State) : s.ChangesOnly [.startup] s.joining := by
  constructor; intro p hp; cases p <;> simp_all [Piece.kept, State.joining, State.onStartup]

section
variable {x : SeqState} {prior : Option SeqState} {l : List Withdrawal} {frames : List (FrameKind × Nat)}
  {notices : List Notice} (hu : s.Untouched)
  (h : s.joining.TakenUp x prior l frames notices s.joining.takePosition)
include hu h

theorem position_idle : s.joining.takePosition.job.state = .idle := by
  have hidle := untouched_jobState hu
  exact (congrArg TestJob.state (h.frame.kept .job (by decide))).trans hidle

theorem joinFloor_frame : s.joining.ChangesOnly
    [.requests, .lamp, .strings, .ticks, .margin, .withdrawals, .claimIds, .sequencer, .intake, .watchdog, .notices,
      .ownQueue] s.joinFloor := by
  rw [joinFloor_eq]
  exact changesOnly_then (changesOnly_then h.frame (evalMargin_idle _ (position_idle hu h))
    (e := .margin :: takenUpPieces) rfl rfl) (started_frame ..) rfl rfl

theorem joinFloor_evaluated : s.joinFloor.Evaluated := by
  have hoff : s.joining.takePosition.evalMargin.dog.stage = .off := by
    have hdog : s.joining.takePosition.evalMargin.dog = s.joining.takePosition.dog :=
      (evalMargin_frame _).kept .watchdog (by decide)
    rw [hdog, show s.joining.takePosition.dog = s.dog from h.frame.kept .watchdog (by decide), hu.dog]
    rfl
  rw [joinFloor_eq]
  exact started_evaluated hoff _ _ (evalMargin_evaluated (joined_of_frame h.frame))

/-- JOIN with what its event ends with; `u` is it with the reply, where a command asked for it. -/
theorem join_begins (hframes : frames = [] ∨ frames = [(.forced, 1)]) {s0 : State}
    (hreply : s.joinFloor.ChangesOnly [.command] u) (hdue : u.statusDue = true) :
    s.Begun s.joining.takePosition (State.finish s0 u)
    ∧ s.joining.ChangesOnly ([.requests, .lamp, .strings, .ticks, .statusTimer, .margin, .withdrawals, .claimIds,
      .sequencer, .intake, .watchdog, .command, .notices, .ownQueue]) (State.finish s0 u)
    ∧ (State.finish s0 u).host.slot = u.host.slot
    ∧ (State.finish s0 u).view.margin = s.joinFloor.view.margin := by
  have hj : u.joined = true := (joined_of_frame hreply).trans (by simp [State.joined, joinFloor_startup])
  have hidle : u.job.state = .idle := by
    rw [show u.job = s.joinFloor.job from hreply.kept .job (by decide),
      show s.joinFloor.job = s.job from (joinFloor_frame hu h).kept .job (by decide)]
    exact untouched_jobState hu
  have heval := evalMargin_idle u hidle
  have hend : State.finish s0 u = u.evalMargin.queueStatus := finish_reports hj (.inr (.inl hdue))
  have hafter : s.joinFloor.ChangesOnly [.command, .margin, .notices, .statusTimer, .ownQueue] (State.finish s0 u) := by
    rw [hend]
    exact changesOnly_then (changesOnly_then hreply heval (e := [.command, .margin, .notices]) rfl rfl)
      (queueStatus_frame _) rfl rfl
  have hposition := evalMargin_idle s.joining.takePosition (position_idle hu h)
  have hstarted := joinFloor_eq s
  have hqueue : u.evalMargin.loop.queue = s.joining.takePosition.loop.queue := by
    rw [queue_of_frame heval, queue_of_frame hreply, hstarted]
    have hq := queue_of_frame hposition
    exact hq
  have hkinds : ∀ f ∈ s.joining.takePosition.loop.queue, f.kind ≠ .status := fun f hf hk => by
    have hpair := List.mem_map_of_mem (f := fun f : OwnFrame => (f.kind, f.claimId)) hf
    rw [h.queue] at hpair
    obtain rfl | rfl := hframes <;> simp [hk] at hpair
  have hroom : s.joining.takePosition.loop.queue.length < 8 := by
    have hlength := congrArg List.length h.queue
    rw [List.length_map] at hlength
    obtain rfl | rfl := hframes <;> simp [hlength]
  obtain ⟨hseq, hat, -⟩ := finish_status (s0 := s0) hj (.inr (.inl hdue))
  obtain ⟨huseq, -⟩ := hreply.kept .statusTimer (by decide)
  obtain ⟨hfseq, -⟩ := (joinFloor_frame hu h).kept .statusTimer (by decide)
  have hclockJ := clock_of_frame (joinFloor_frame hu h)
  have hclock : u.us = s.us := (clock_of_frame hreply).trans hclockJ
  have himage : u.image = s.image :=
    (hreply.kept .image (by decide)).trans ((joinFloor_frame hu h).kept .image (by decide))
  obtain ⟨hlist, -⟩ := hafter.kept .withdrawals (by decide)
  have hmarginU : u.marginNow = u.view.margin := by
    obtain ⟨hm, hf⟩ := hreply.kept .margin (by decide)
    exact (evaluated_of_sameSums (sameSums_of_sameView (sameView_of_frame hreply)) hm hf
      (joinFloor_evaluated hu h)).2.symm
  refine ⟨⟨?_, ?_, ?_, ?_, ?_, ⟨?_, ?_⟩, ?_, ?_, ?_, ?_, ?_⟩, ?_, ?_, ?_⟩
  · exact (hafter.kept .startup (by decide)).trans (joinFloor_startup s)
  · refine Eq.trans (hafter.kept .watchdog (by decide)) ?_
    rw [hstarted]
    rfl
  · refine Eq.trans (hafter.kept .ticks (by decide)) ?_
    rw [hstarted]
    rfl
  · refine (strings_of_frame hafter).trans ?_
    have hstrings := strings_of_frame h.frame
    rw [hstarted]
    exact congrArg (List.map StringRec.dropBaseline) ((strings_of_frame hposition).trans hstrings)
  · have hintake : s.joining.takePosition.evalMargin.intake = s.intake :=
      Eq.trans (hposition.kept .intake (by decide)) (h.frame.kept .intake (by decide))
    refine Eq.trans (hafter.kept .intake (by decide)) ?_
    rw [hstarted, ← hintake]
    rfl
  · rw [hseq, huseq, hfseq, show s.joining.view = s.view from rfl, hu.view]
    rfl
  · rw [hat]
    simp only [State.now, hclock, State.cfg, himage]
  · exact Eq.trans (hafter.kept .peers (by decide)) ((joinFloor_frame hu h).kept .peers (by decide))
  · have hv : s.joining.takePosition.evalMargin.seq = s.joining.takePosition.seq :=
      hposition.kept .sequencer (by decide)
    refine Eq.trans (hafter.kept .sequencer (by decide)) ?_
    rw [hstarted, ← hv]
    rfl
  · rw [hlist, hstarted]
    exact (hposition.kept .withdrawals (by decide)).1
  · rw [hend, queueStatus_joins, hqueue]
    · rw [hqueue, otherFrames, List.filter_eq_self]
      exact fun f hf => by simpa using hkinds f hf
    · rw [hqueue]
      exact hroom
  · have hu1 : s.joinFloor.host = s.joining.takePosition.evalMargin.host := by rw [hstarted]; rfl
    have hu2 : u.host.notices = s.joinFloor.host.notices := (hreply.kept .notices (by decide)).1
    rw [hend, queueStatus_host]
    exact (evalMargin_abides s.joining.takePosition).notices.trans
      (by rw [← hu1, ← hu2]; exact (evalMargin_abides u).notices)
  · exact changesOnly_then (joinFloor_frame hu h) hafter rfl rfl
  · rw [hend, queueStatus_host]
    exact heval.kept .command (by decide)
  · obtain ⟨hm, -⟩ := (finish_afterEval s0 u).kept .margin (by decide)
    rw [hm, evalMargin_same hj hmarginU]
    exact hmarginU.trans (hreply.kept .margin (by decide)).1

end

/-! ### JOIN by its two rows -/

/-- What JOIN does from `s` on, by the position of the lines. -/
def State.HasJoined (s t : State) : Prop :=
  t.startup = { s.startup with state := .joined, windowEnds := none }
  ∧ t.dog = ⟨.watching, some (s.now + s.cfg.hostTimeout)⟩
  ∧ t.ticks = ⟨0, some (s.now + 60000)⟩
  ∧ t.strings = s.strings.map StringRec.dropBaseline
  ∧ t.intake = { s.intake with baselineNext := true }
  ∧ t.view.seq = 1 ∧ t.view.statusAt = some (s.now + s.cfg.statusPeriod)
  ∧ t.view.peers = s.view.peers ∧ t.seq.found = .inverter ∧ t.seq.history = []
  ∧ (s.pins.ssFb = false → s.pins.mbsClosed = false →
      t.seq.state = .online ∧ t.claims.list = []
      ∧ t.loop.queue.map (fun f => f.kind) = [.status] ∧ s.raised [] t)
  ∧ (s.pins.ssFb = true → s.pins.mbsClosed = false →
      t.seq.state = .forced
      ∧ t.seq.retransferAt = (if s.pins.invOk = true ∧ s.phase.lock = 4
          then some (s.now + s.cfg.retransferDelay * 1000) else none)
      ∧ t.claims.list = [s.foundEntry]
      ∧ t.loop.queue.map (fun f => (f.kind, f.claimId)) = [(.forced, 1), (.status, 0)]
      ∧ s.raised [s.foundNotice] t)
  ∧ (s.pins.mbsClosed = true →
      t.seq.state = .maint ∧ t.seq.prior = some .forced
      ∧ t.claims.list = [s.foundEntry.asMaint false]
      ∧ t.loop.queue.map (fun f => (f.kind, f.claimId)) = [(.forced, 1), (.status, 0)]
      ∧ s.raised [s.foundNotice, s.noticeOf .unsanctionedMaint 1 SeqState.forced.code 0 0] t)

/-- What `join_begins` gives beside the effects. -/
def State.JoinedWith (s u t : State) : Prop :=
  s.joining.ChangesOnly [.requests, .lamp, .strings, .ticks, .statusTimer, .margin, .withdrawals, .claimIds,
    .sequencer, .intake, .watchdog, .command, .notices, .ownQueue] t
  ∧ t.host.slot = u.host.slot ∧ t.seq.state = u.seq.state ∧ t.view.margin = s.joinFloor.view.margin

theorem untouched_joining (hu : s.Untouched) : s.joining.Untouched := { hu with }

theorem hasJoined (hu : s.Untouched) (hfound : s.seq.found = s.pins.found) {s0 : State}
    (hreply : s.joinFloor.ChangesOnly [.command] u) (hdue : u.statusDue = true) :
    s.HasJoined (State.finish s0 u) ∧ s.JoinedWith u (State.finish s0 u) := by
  have hj : s.joining.joined = true := rfl
  have hseq : (State.finish s0 u).seq.state = u.seq.state :=
    congrArg Sequencer.state ((finish_leaves s0 u).kept .sequencer (by decide))
  have hraised : ∀ {x prior l frames notices}, s.joining.TakenUp x prior l frames notices s.joining.takePosition →
      s.Begun s.joining.takePosition (State.finish s0 u) → s.raised notices (State.finish s0 u) := fun h hb => by
    have hnotices := hb.notices
    rw [h.host] at hnotices
    exact hnotices
  cases hmbs : s.pins.mbsClosed with
  | true =>
    have h := takePosition_maint (untouched_joining hu) hj
      (show s.joining.seq.found = .maintBypass from hfound.trans (by simp [Pins.found, hmbs]))
    obtain ⟨hb, hframe, hslot, hmargin⟩ := join_begins (s0 := s0) hu h (.inr rfl) hreply hdue
    refine ⟨⟨hb.startup, hb.dog, hb.ticks, hb.strings, hb.intake, hb.status.1, hb.status.2, hb.peers, by rw [hb.seq],
      by rw [hb.seq]; exact h.history, fun _ hopen => by simp [hmbs] at hopen, fun _ hopen => by simp [hmbs] at hopen,
      fun _ => ⟨by rw [hb.seq]; exact h.state, by rw [hb.seq]; exact h.prior, hb.list.trans h.list,
        by rw [hb.queue, h.queue]; rfl, hraised h hb⟩⟩, hframe, hslot, hseq, hmargin⟩
  | false =>
    cases hfb : s.pins.ssFb with
    | true =>
      obtain ⟨h, hretransfer⟩ := takePosition_bypass (untouched_joining hu) hj
        (show s.joining.seq.found = .bypass from hfound.trans (by simp [Pins.found, hmbs, hfb])) hmbs
      obtain ⟨hb, hframe, hslot, hmargin⟩ := join_begins (s0 := s0) hu h (.inr rfl) hreply hdue
      refine ⟨⟨hb.startup, hb.dog, hb.ticks, hb.strings, hb.intake, hb.status.1, hb.status.2, hb.peers, by rw [hb.seq],
        by rw [hb.seq]; exact h.history, fun hlow _ => by simp [hfb] at hlow,
        fun _ _ => ⟨by rw [hb.seq]; exact h.state, by rw [hb.seq]; exact hretransfer, hb.list.trans h.list,
          by rw [hb.queue, h.queue]; rfl, hraised h hb⟩, fun hclosed => by simp [hmbs] at hclosed⟩,
        hframe, hslot, hseq, hmargin⟩
    | false =>
      have h := takePosition_inverter (untouched_joining hu)
        (show s.joining.seq.found = .inverter from hfound.trans (by simp [Pins.found, hmbs, hfb]))
      obtain ⟨hb, hframe, hslot, hmargin⟩ := join_begins (s0 := s0) hu h (.inl rfl) hreply hdue
      have hkinds : (State.finish s0 u).loop.queue.map (fun f => f.kind) = [.status] := by
        have hpairs := congrArg (List.map Prod.fst) (hb.queue.trans (by rw [h.queue]))
        rw [List.map_map] at hpairs
        exact hpairs
      refine ⟨⟨hb.startup, hb.dog, hb.ticks, hb.strings, hb.intake, hb.status.1, hb.status.2, hb.peers, by rw [hb.seq],
        by rw [hb.seq]; exact h.history, fun _ _ => ⟨by rw [hb.seq]; exact h.state, hb.list.trans h.list, hkinds,
          hraised h hb⟩, fun hhigh _ => by simp [hfb] at hhigh, fun hclosed => by simp [hmbs] at hclosed⟩,
        hframe, hslot, hseq, hmargin⟩

/-- Settles O10: the position is taken up by the lines, the blocks of R194 start, and the event's end queues the first
STATUS; the command adds its reply. -/
theorem joinEffects : Obligations.JoinEffects := by
  intro s hr hstate hfound hbefore joins
  have hj : s.joined = false := by simp [State.joined, hstate]
  have hu : (s.withStatusDue false).Untouched := untouched_withStatusDue (beforeJoinOk_iff.mp hbefore hj) false
  have hopening : s.ChangesOnly [.startup] (s.withStatusDue false).joining :=
    changesOnly_then (withStatusDue_frame s false) (joining_frame _) rfl rfl
  refine ⟨fun r ht => ?_, fun ⟨d, hd, hle⟩ => ?_⟩
  · obtain ⟨-, ⟨since, hpending⟩, -⟩ := id ht
    have hslot : (s.withStatusDue false).joinFloor.host.slot = .pending r since :=
      Eq.trans ((moves_frame (joinFloor_moves (g := .all) (s.withStatusDue false))).kept .command (by decide)) hpending
    have hanswer := answer_pending hslot .ok (le8 (s.withStatusDue false).joinFloor.seq.state.code
      ++ le8 (s.withStatusDue false).joinFloor.view.margin.code)
    have hframe := answer_frame (s.withStatusDue false).joinFloor .ok
      (le8 (s.withStatusDue false).joinFloor.seq.state.code ++ le8 (s.withStatusDue false).joinFloor.view.margin.code)
    obtain ⟨hjoined, hchanged, hreplied, hseq, hmargin⟩ := hasJoined (s0 := s) hu hfound hframe (by rw [hanswer]; rfl)
    refine ⟨_, ?_, hjoined, ?_, ?_⟩
    · refine (command_next ht).trans (congrArg Host.Outcome.next ?_)
      unfold State.runEvent
      simp only [show (s.withStatusDue false).startup.state = .startWindow from hstate]
    · rw [hreplied, hseq, hmargin, hanswer]
      rfl
    · exact changesOnly_mono (changesOnly_cons hopening hchanged) rfl
  · have hframe := changesOnly_refl [.command] (s.withStatusDue false).joinFloor
    obtain ⟨hjoined, hchanged, hslot, -, -⟩ := hasJoined (s0 := s) hu hfound hframe rfl
    have hkept : (s.withStatusDue false).joinFloor.host.slot = s.host.slot :=
      (moves_frame (joinFloor_moves (g := .all) (s.withStatusDue false))).kept .command (by decide)
    refine ⟨_, event_next hr ?_, hjoined, ?_⟩
    · simp [State.inWindow, hstate, State.isDue, hd, hle]
    · have hall := changesOnly_cons hopening hchanged
      refine ⟨fun p hp => ?_⟩
      by_cases hcommand : p = .command
      · rw [hcommand]
        exact hslot.trans hkept
      · exact hall.kept p fun hmem => hp (by simp_all)

end Sys2Proof.Machine

/-! PROOFS. Edges of the zero-crossing lines, the cycle with its lock, and the counter's wrap (section 8.4). -/

namespace Sys2Proof.Machine

-- One proof after another: side by side they ask for more thread stacks than there is memory for.
set_option Elab.async false

variable {s t u : State}

/-! ### The edge of a line (R175, R176) -/

theorem absDiff_eq (a b : Nat) : a - b + (b - a) = max a b - min a b := by omega

theorem overWrapped_iff (z : ZcLine) (last c : Nat) : z.overWrapped last c = true ↔ z.wraps = 1 ∧ last ≤ c := by
  simp [ZcLine.overWrapped]

theorem edge_first {z : ZcLine} (h : z.tLast = none) (c : Nat) : z.edge c = { z with tLast := some c, wraps := 0 } := by
  simp [ZcLine.edge, h]

theorem edge_late {z : ZcLine} {last c : Nat} (h : z.tLast = some last) (hw : z.wraps = 1) (hc : last ≤ c) :
    z.edge c = ⟨some c, none, 0, none⟩ := by
  have hover : z.overWrapped last c = true := (overWrapped_iff ..).mpr ⟨hw, hc⟩
  simp [ZcLine.edge, h, hover]

theorem freqOf_eq (d : Nat) : freqOf d = if 15385 ≤ d ∧ d ≤ 22222 ∧ 4500 ≤ 100000000 / d ∧ 100000000 / d ≤ 6500
    then some (100000000 / d) else none := by
  simp only [freqOf, Bool.and_eq_true, inRange_iff, and_assoc]

theorem edge_period {z : ZcLine} {last c : Nat} (h : z.tLast = some last) (hw : z.wraps ≠ 1 ∨ c < last) :
    z.edge c = ⟨some c, some (capDiff c last), 0, freqOf (capDiff c last)⟩ := by
  have hover : ¬ z.overWrapped last c = true := fun h => by
    obtain ⟨hone, hle⟩ := (overWrapped_iff ..).mp h
    omega
  simp [ZcLine.edge, h, hover]

/-! ### A cycle (R177, R178) -/

/-- The angle of an inverter edge at `last` by the bypass edge at `c`, in a period `p` (R177). -/
def angleDegrees (c last p : Nat) : Int :=
  if 1800 ≤ (c + 65536 - last) % 65536 * 3600 / p then (((c + 65536 - last) % 65536 * 3600 / p : Nat) : Int) - 3600
  else (((c + 65536 - last) % 65536 * 3600 / p : Nat) : Int)

theorem angleOf_usable {inv byp : ZcLine} {c last p : Nat} (ht : inv.tLast = some last) (hp : byp.period = some p)
    (hu : (inv.wraps ≠ 1 ∨ c < last) ∧ (c + 65536 - last) % 65536 < p) :
    angleOf inv byp c = some (angleDegrees c last p) := by
  have hover : ¬ (inv.overWrapped last c || Nat.ble p (capDiff c last)) = true := by
    rw [Bool.or_eq_true, overWrapped_iff, Nat.ble_eq, capDiff]
    omega
  simp only [angleOf, ht, hp, if_neg hover]
  rfl

theorem angleOf_unusable {inv byp : ZcLine} {c : Nat} (h : inv.tLast = none ∨ byp.period = none
    ∨ ∃ last p, inv.tLast = some last ∧ byp.period = some p
      ∧ ¬ ((inv.wraps ≠ 1 ∨ c < last) ∧ (c + 65536 - last) % 65536 < p)) : angleOf inv byp c = none := by
  obtain h | h | ⟨last, p, ht, hp, hu⟩ := h
  · simp [angleOf, h]
  · unfold angleOf
    rw [h]
    split <;> simp_all
  · have hover : (inv.overWrapped last c || Nat.ble p (capDiff c last)) = true := by
      rw [Bool.or_eq_true, overWrapped_iff, Nat.ble_eq, capDiff]
      omega
    simp only [angleOf, ht, hp, if_pos hover]

theorem goodCycle_iff {slip window : Nat} {inv byp : ZcLine} {a : Int} :
    goodCycle slip window inv byp (some a) = true
      ↔ ∃ fi fb, inv.freq = some fi ∧ byp.freq = some fb ∧ max fi fb - min fi fb ≤ slip ∧ a.natAbs ≤ window := by
  unfold goodCycle
  cases hi : inv.freq with
  | none => simp
  | some fi =>
    cases hb : byp.freq with
    | none => simp
    | some fb =>
      have hdiff : fb - fi + (fi - fb) = max fi fb - min fi fb := by omega
      simp [hdiff]

theorem goodCycle_none (slip window : Nat) (inv byp : ZcLine) : goodCycle slip window inv byp none = false := by
  unfold goodCycle
  split <;> simp_all

/-! ### BYP_OK formed anew (R99, R100) -/

/-- BYP_OK of the bypass as `s` measures it. -/
def State.bypGood (s : State) : Bool := s.phase.byp.freq.isSome && decide ((max s.intake.vBypass s.cfg.bypNominal
  - min s.intake.vBypass s.cfg.bypNominal) * 100 ≤ s.cfg.bypNominal * s.cfg.band) && s.image.isSome

theorem formBypOk_eq (s : State) : s.formBypOk = (s.withSeq { s.seq with bypOk := s.bypGood }).testReady := by
  have hband : s.bypOkNow = s.bypGood := by
    simp only [State.bypOkNow, State.bypGood, absDiff_eq, ble_eq_decide]
  rw [State.formBypOk, hband]
  rfl

theorem followRetransfer_quiet (h : s.seq.state = .online) (hr : s.seq.retransferAt = none) : s.followRetransfer = s := by
  rw [followRetransfer_eq, if_neg (by simp [h])]
  rw [show ({ s.seq with retransferAt := none } : Sequencer) = s.seq by rw [← hr]]
  rfl

theorem lockRecheck_quiet (h : s.seq.state = .online) (hx : s.seq.xfer = none) (hr : s.seq.retransferAt = none) :
    s.lockRecheck = s := (lockRecheck_idle hx).trans (followRetransfer_quiet h hr)

/-! ### An edge of the bypass -/

/-- `s` at an edge of the bypass, its line alone changed. -/
def State.bypEdge (s : State) : State := s.withPhase { s.phase with byp := s.phase.byp.edge (s.us % 65536) }

/-- What the edge makes of BYP_OK and readiness, where the validity of the frequency has changed. -/
def State.bypSeen (s : State) : State :=
  if s.phase.byp.freq.isSome = (s.phase.byp.edge (s.us % 65536)).freq.isSome then s.bypEdge
  else (s.bypEdge.withSeq { s.bypEdge.seq with bypOk := s.bypEdge.bypGood }).testReady

/-- The angle that the cycle at this edge gives. -/
def State.cycleAngle (s : State) : Option Int :=
  angleOf s.phase.inv (s.phase.byp.edge (s.us % 65536)) (s.us % 65536)

/-- The cycle at this edge is good. -/
def State.cycleGood (s : State) : Bool :=
  goodCycle s.cfg.slipMax s.cfg.syncWindow s.phase.inv (s.phase.byp.edge (s.us % 65536)) s.cycleAngle

/-- The machine with the cycle of the edge in the phase capture. -/
def State.cycled (s : State) : State := s.bypSeen.withPhase { s.bypEdge.phase with
  angle := s.cycleAngle.getD s.phase.angle, lock := if s.cycleGood then min 4 (s.phase.lock + 1) else 0 }

theorem onValidity_edge (s : State) : State.onValidity s s.bypEdge = s.bypSeen := by
  unfold State.onValidity State.bypSeen
  rw [formBypOk_eq]
  exact if_congr eq_comm rfl rfl

theorem bypSeen_frame (s : State) : s.bypEdge.ChangesOnly readyPieces s.bypSeen := by
  rw [← onValidity_edge]
  exact moves_frame (onValidity_moves (g := .all) s s.bypEdge)

theorem bypSeen_cycle (s : State) :
    s.bypSeen.onPhase (Phase.cycle s.bypSeen.cfg.slipMax s.bypSeen.cfg.syncWindow s.bypSeen.counter) = s.cycled := by
  have hframe := bypSeen_frame s
  have hphase : s.bypSeen.phase = s.bypEdge.phase := hframe.kept .phase (by decide)
  have himage : s.bypSeen.image = s.image := hframe.kept .image (by decide)
  have hus : s.bypSeen.us = s.us := hframe.kept .clock (by decide)
  simp only [State.onPhase, hphase, State.cfg, himage, State.counter, hus]
  rfl

/-- What ZC_BYP_EDGE does. -/
theorem execZcBypEdge_eq (s : State) : exec .zcBypEdge s = s.event true (fun s =>
    if s.evaluating then (State.onValidity s s.bypEdge).evalCycle else State.onValidity s s.bypEdge) := rfl

section
variable (hr : s.running = true)
include hr

theorem zcBypEdge_early (h : s.startup.state = .loading ∨ s.startup.state = .configFault) :
    exec .zcBypEdge s = .next (s.withStatusDue false).bypSeen := by
  have hno : ¬ (s.withStatusDue false).evaluating = true := by
    obtain h | h := h <;> simp [State.evaluating, State.inWindow, State.joined, h]
  have hj : (s.withStatusDue false).bypSeen.joined = false := by
    have hj : s.joined = false := by
      obtain h | h := h <;> simp [State.joined, h]
    exact (joined_of_frame (bypSeen_frame (s.withStatusDue false))).trans hj
  rw [execZcBypEdge_eq]
  refine (event_beforeJoin hr rfl ?_).trans ?_
  · rw [if_neg hno, onValidity_edge]
    exact hj
  · rw [if_neg hno, onValidity_edge]

theorem zcBypEdge_window (h : s.startup.state = .startWindow) :
    exec .zcBypEdge s = .next (s.withStatusDue false).cycled := by
  have hyes : (s.withStatusDue false).evaluating = true := by simp [State.evaluating, State.inWindow, h]
  have hj : (s.withStatusDue false).bypSeen.joined = false := by
    have hj : s.joined = false := by simp [State.joined, h]
    exact (joined_of_frame (bypSeen_frame (s.withStatusDue false))).trans hj
  have hcycle : (s.withStatusDue false).bypSeen.evalCycle = (s.withStatusDue false).cycled := by
    unfold State.evalCycle
    simp only [bypSeen_cycle]
    exact if_neg (ne_true_of_eq_false hj)
  rw [execZcBypEdge_eq]
  refine (event_beforeJoin hr rfl ?_).trans ?_
  · rw [if_pos hyes, onValidity_edge, hcycle]
    exact hj
  · rw [if_pos hyes, onValidity_edge, hcycle]

theorem zcBypEdge_joined (h : s.startup.state = .joined) : exec .zcBypEdge s = .next (s.ends
    (if (s.withStatusDue false).cycled.phase.lock = 4 ∧ s.phase.lock ≠ 4
      then (s.withStatusDue false).cycled.lockRecheck.testReady else (s.withStatusDue false).cycled.lockRecheck)) := by
  have hyes : (s.withStatusDue false).evaluating = true := by simp [State.evaluating, State.joined, h]
  have hj : (s.withStatusDue false).bypSeen.joined = true :=
    (joined_of_frame (bypSeen_frame (s.withStatusDue false))).trans (joined_of_state h)
  have hphase : (s.withStatusDue false).bypSeen.phase = (s.withStatusDue false).bypEdge.phase :=
    (bypSeen_frame (s.withStatusDue false)).kept .phase (by decide)
  have hlock : (s.withStatusDue false).bypSeen.phase.lock = s.phase.lock := by
    rw [hphase]
    rfl
  rw [execZcBypEdge_eq]
  refine event_ends hr rfl ?_
  rw [if_pos hyes, onValidity_edge]
  unfold State.evalCycle
  simp only [bypSeen_cycle]
  rw [if_pos hj]
  refine if_congr ?_ rfl rfl
  simp [State.locked, hlock]

end

/-- An edge of the bypass while the sequencer is ONLINE with no timer changes the phase capture and BYP_OK alone. -/
theorem bypSeen_online (h : s.seq.state = .online) : s.bypSeen = s.bypEdge.withSeq { s.seq with
    bypOk := if s.phase.byp.freq.isSome = (s.phase.byp.edge (s.us % 65536)).freq.isSome then s.seq.bypOk
      else s.bypEdge.bypGood } := by
  unfold State.bypSeen
  split
  · rfl
  · exact testReady_idle (.inl fun hwait => by cases h.symm.trans hwait)

theorem zcBypEdge_online (hr : s.running = true) (hs : s.startup.state = .startWindow ∨ s.startup.state = .joined)
    (h : s.seq.state = .online) (hx : s.seq.xfer = none) (hretransfer : s.seq.retransferAt = none)
    (hm : s.marginOk = true) : exec .zcBypEdge s = .next (s.withStatusDue false).cycled := by
  obtain hs | hs := hs
  · exact zcBypEdge_window hr hs
  · have hseen := bypSeen_online (s := s.withStatusDue false) h
    have hcycled : (s.withStatusDue false).cycled = (s.withStatusDue false).bypSeen.withPhase _ := rfl
    have hquiet : (s.withStatusDue false).cycled.lockRecheck = (s.withStatusDue false).cycled := by
      rw [hcycled, hseen]
      exact lockRecheck_quiet h hx hretransfer
    have hready : (s.withStatusDue false).cycled.testReady = (s.withStatusDue false).cycled := by
      rw [hcycled, hseen]
      exact testReady_idle (.inl fun hwait => by cases h.symm.trans hwait)
    have hend : s.ends (s.withStatusDue false).cycled = (s.withStatusDue false).cycled := by
      rw [hcycled, hseen]
      exact finish_sameView hm ⟨rfl, rfl, rfl, rfl, rfl⟩ rfl rfl rfl rfl
    refine (zcBypEdge_joined hr hs).trans (congrArg Host.Outcome.next ?_)
    rw [hquiet, hready, ite_self, hend]

/-! ### The counter's wrap (R175, R176, R178) -/

/-- A line after a wrap of the counter. -/
def ZcLine.wrapped (z : ZcLine) : ZcLine :=
  if z.wraps = 0 then { z with wraps := 1 } else if z.wraps = 1 then ⟨none, none, 2, none⟩ else z

/-- `s` with the counter wrapped, its lines and the lock alone changed. -/
def State.wrapped (s : State) : State := s.withPhase { s.phase with
  inv := s.phase.inv.wrapped, byp := s.phase.byp.wrapped
  lock := if s.phase.inv.wraps = 1 ∨ s.phase.byp.wraps = 1 then 0 else s.phase.lock }

/-- What the wrap makes of BYP_OK and readiness, where the bypass frequency ends. -/
def State.wrapSeen (s : State) : State :=
  if s.phase.byp.wraps = 1 ∧ s.phase.byp.freq.isSome = true then
    (s.wrapped.withSeq { s.wrapped.seq with bypOk := s.wrapped.bypGood }).testReady
  else s.wrapped

theorem wrapped_freq (z : ZcLine) : z.wrapped.freq.isSome = z.freq.isSome ↔ ¬ (z.wraps = 1 ∧ z.freq.isSome = true) := by
  unfold ZcLine.wrapped
  split
  · rename_i h
    simp [h]
  · split
    · rename_i h
      cases hf : z.freq <;> simp [h]
    · rename_i h
      simp [h]

theorem wrapped_onPhase (s : State) : (s.onPhase (fun p => { p with
    inv := p.inv.wrap, byp := p.byp.wrap
    lock := if s.phase.inv.declares || s.phase.byp.declares then 0 else p.lock })) = s.wrapped := by
  simp only [State.wrapped, State.onPhase, ZcLine.declares, Bool.or_eq_true, beq_iff_eq]
  rfl

theorem onValidity_wrap (s : State) : State.onValidity s s.wrapped = s.wrapSeen := by
  unfold State.onValidity State.wrapSeen
  rw [formBypOk_eq]
  by_cases h : s.phase.byp.wraps = 1 ∧ s.phase.byp.freq.isSome = true
  · exact (if_neg fun hsame => (wrapped_freq _).mp hsame h).trans (if_pos h).symm
  · exact (if_pos ((wrapped_freq _).mpr h)).trans (if_neg h).symm

theorem wrapCounter_eq (s : State) : s.wrapCounter
    = if (s.phase.inv.wraps = 1 ∨ s.phase.byp.wraps = 1) ∧ s.startup.state = .joined then s.wrapSeen.lockRecheck
      else s.wrapSeen := by
  unfold State.wrapCounter
  simp only [wrapped_onPhase, onValidity_wrap]
  refine if_congr ?_ rfl rfl
  simp [ZcLine.declares, State.joined]

/-- The microsecond of the wrap, its event begun. -/
theorem advance_withStatusDue (s : State) (b : Bool) : (s.withStatusDue b).advance = s.advance.withStatusDue b := by
  unfold State.advance
  by_cases h : (s.us + 1) % 1000 = 0
  · simp only [withStatusDue_us, h, ↓reduceIte]
    rfl
  · simp only [withStatusDue_us, h, ↓reduceIte]
    rfl

theorem advance_reported (s : State) : s.advance.reported = s.reported := by
  unfold State.advance
  simp only
  split <;> rfl

/-- `s` a microsecond on, with the counter wrapped. -/
def State.afterWrap (s : State) : State := { s.advance with
  statusDue := false
  phase := { s.phase with
    inv := s.phase.inv.wrapped, byp := s.phase.byp.wrapped
    lock := if s.phase.inv.wraps = 1 ∨ s.phase.byp.wraps = 1 then 0 else s.phase.lock } }

theorem advance_phase (s : State) : s.advance.phase = s.phase := (advance_frame s).kept .phase (by decide)

theorem wrapped_advance (s : State) : (s.advance.withStatusDue false).wrapped = s.afterWrap := by
  unfold State.wrapped State.afterWrap
  rw [withStatusDue_phase, advance_phase]
  rfl

theorem wrapSeen_advance (s : State) : (s.advance.withStatusDue false).wrapSeen
    = if s.phase.byp.wraps = 1 ∧ s.phase.byp.freq.isSome = true
      then (s.afterWrap.withSeq { s.afterWrap.seq with bypOk := s.afterWrap.bypGood }).testReady
      else s.afterWrap := by
  unfold State.wrapSeen
  rw [withStatusDue_phase, advance_phase, wrapped_advance]

theorem phaseCounterWrap_ends (hr : s.running = true) (hc : s.us % 65536 = 65535) : exec .phaseCounterWrap s
    = .next (s.ends (if (s.phase.inv.wraps = 1 ∨ s.phase.byp.wraps = 1) ∧ s.startup.state = .joined
      then (s.advance.withStatusDue false).wrapSeen.lockRecheck else (s.advance.withStatusDue false).wrapSeen)) := by
  have hstartup : s.advance.startup = s.startup := (advance_frame s).kept .startup (by decide)
  refine event_ends hr (by simp [State.counter, hc]) ?_
  rw [advance_withStatusDue, wrapCounter_eq, withStatusDue_phase, advance_phase, withStatusDue_startup, hstartup]

theorem afterWrap_seq (s : State) : s.afterWrap.seq = s.seq := (advance_frame s).kept .sequencer (by decide)

/-- A wrap with the sequencer ONLINE, no timer, and no frequency of the bypass that ends. -/
theorem phaseCounterWrap_quiet (hr : s.running = true) (hc : s.us % 65536 = 65535) (h : s.seq.state = .online)
    (hx : s.seq.xfer = none) (hretransfer : s.seq.retransferAt = none) (hm : s.marginOk = true)
    (hfreq : s.phase.byp.wraps = 1 → s.phase.byp.freq = none) : exec .phaseCounterWrap s = .next s.afterWrap := by
  have hseq := afterWrap_seq s
  have hseen : (s.advance.withStatusDue false).wrapSeen = s.afterWrap := by
    rw [wrapSeen_advance, if_neg]
    rintro ⟨hone, hsome⟩
    simp [hfreq hone] at hsome
  have hquiet : s.afterWrap.lockRecheck = s.afterWrap :=
    lockRecheck_quiet (by rw [hseq, h]) (by rw [hseq, hx]) (by rw [hseq, hretransfer])
  have hreported : s.afterWrap.reported = s.reported := advance_reported s
  have hend : s.ends s.afterWrap = s.afterWrap :=
    finish_sameView (s := s.advance) (advance_marginOk hm) ⟨rfl, rfl, rfl, rfl, rfl⟩ rfl rfl rfl hreported
  rw [phaseCounterWrap_ends hr hc, hseen, hquiet, ite_self, hend]

/-- Settles O53: the edge by its last edge and the wraps, the cycle by the angle of the inverter's last edge, and the
wrap by the lines it ends. -/
theorem phaseCapture : Obligations.PhaseCapture := by
  refine ⟨fun c z => ⟨fun h => edge_first h c, fun last h hw hc => edge_late h hw hc, fun last h hw _ => ?_⟩,
    fun s hr => ?_⟩
  · exact (edge_period h hw).trans (by rw [freqOf_eq]; rfl)
  · intro c formed
    refine ⟨fun hm => ?_, ?_, fun hc => ?_⟩
    · exact event_sameView hr rfl hm rfl ⟨rfl, rfl, rfl, rfl, rfl⟩ rfl rfl rfl rfl
    · intro z i usable degrees edge seen
      refine ⟨fun hs => zcBypEdge_early hr hs, fun hs => ⟨s.cycleAngle.getD s.phase.angle, s.cycleGood, ?_⟩⟩
      intro u
      refine ⟨fun hwindow => zcBypEdge_window hr hwindow, fun hjoined => zcBypEdge_joined hr hjoined,
        fun h hx hretransfer hm => ?_, fun last p ht hp hu => ?_, fun hno => ?_⟩
      · refine (zcBypEdge_online hr hs h hx hretransfer hm).trans (congrArg Host.Outcome.next ?_)
        unfold State.cycled
        rw [bypSeen_online (s := s.withStatusDue false) h]
        rfl
      · have hangle : s.cycleAngle = some (degrees last p) := angleOf_usable ht hp hu
        refine ⟨by rw [hangle]; rfl, ?_⟩
        unfold State.cycleGood
        rw [hangle]
        exact goodCycle_iff
      · have hangle : s.cycleAngle = none := angleOf_unusable hno
        refine ⟨by rw [hangle]; rfl, ?_⟩
        unfold State.cycleGood
        rw [hangle]
        exact goodCycle_none ..
    · intro wrapped ends after seen
      refine ⟨?_, fun h hx hretransfer hm hfreq => phaseCounterWrap_quiet hr hc h hx hretransfer hm hfreq⟩
      rw [phaseCounterWrap_ends hr hc, wrapSeen_advance]
      rfl

end Sys2Proof.Machine

/-! PROOFS. The accumulators of a string never decrease but by a reset, a load or a replacement (sections 1.4 and 1.6). -/

namespace Sys2Proof.Machine

-- One proof after another: side by side they ask for more thread stacks than there is memory for.
set_option Elab.async false

variable {s t u : State} {k j : Nat} {x : StringRec}

/-! ### The records that the end of a test spares (R46) -/

theorem onString_others (s : State) (hk : j ≠ k) (f : StringRec → StringRec) :
    (s.onString j f).strings[k]? = s.strings[k]? := by
  show (s.strings.modify j f)[k]? = _
  rw [List.getElem?_modify]
  simp [hk]

theorem recompute_others (s : State) (hk : j ≠ k) : (s.recompute j).strings[k]? = s.strings[k]? := by
  have hset : ∀ y : StringRec, (s.strings.set j y)[k]? = s.strings[k]? := fun y => List.getElem?_set_ne hk
  unfold State.recompute
  split
  · simp only
    split
    · exact hset _
    · rw [strings_of_frame (notify_frame ..)]
      exact hset _
  · rfl

theorem verdictEffects_others (s : State) (hk : j ≠ k) (v : Verdict) :
    (s.verdictEffects j v).strings[k]? = s.strings[k]? := by
  unfold State.verdictEffects
  cases v with
  | pass =>
    simp only
    split
    · rw [recompute_others _ hk, onString_others s hk]
    · rfl
  | failVoltage => rw [onString_others _ hk, recompute_others _ hk, onString_others s hk]
  | inconclusive | abortedHost | abortedDeficit | abortedStale | abortedBypass => rfl

theorem endTest_others (s : State) (hk : s.job.k ≠ k) (v : Verdict) : (s.endTest v).strings[k]? = s.strings[k]? := by
  have hclosed : (s.testClosed v).strings[k]? = s.strings[k]? := by
    show (State.onString _ s.job.k _).strings[k]? = _
    rw [onString_others _ hk, strings_of_frame (release_frame ..)]
    exact onString_others _ hk _
  rw [endTest_eq, strings_of_frame (testEndNotice_frame ..), onString_others _ hk, verdictEffects_others _ hk, hclosed]

theorem testDenied_strings (s : State) (o : ClaimOutcome) (a b : Nat) : (s.testDenied o a b).strings = s.strings :=
  strings_of_frame (testDenied_frame s o a b)

/-- A test that does not run yet is given up without a change of any record (R41). -/
theorem abortTest_strings_of_quiet (h : s.job.state ≠ .running) (c : AbortCause) :
    (s.abortTest c).strings = s.strings := by
  cases hstate : s.job.state with
  | idle => rw [abortTest_idle s c hstate]
  | running => exact absurd hstate h
  | claiming =>
    cases hgiven : s.job.givenUp with
    | some d => simp [State.abortTest, hstate, hgiven]
    | none =>
      have habort : s.abortTest c = (s.withJob { s.job with givenUp := some c }).giveUp .ageing := by
        simp only [State.abortTest, hstate, hgiven]
      cases hslot : s.claims.slot with
      | free => simp [habort, State.giveUp, hslot]
      | inFlight q id tag d =>
        rw [habort]
        simp only [State.giveUp, withJob_claims, hslot]
        split <;> rfl
      | retryWait q d =>
        by_cases hq : q.requester = .ageing
        · rw [abortTest_of_retryWait hstate hgiven hq hslot, testDenied_strings]
          rfl
        · simp [habort, State.giveUp, hslot, hq]

/-- Whatever an abort does to the records, it does to that of the string under test. -/
theorem abortTest_record (hj : s.joined = true) (c : AbortCause) (hx : s.strings[k]? = some x) :
    (s.abortTest c).strings[k]? = some x ∨ s.job.state = .running ∧ k = s.job.k
      ∧ (s.abortTest c).strings[k]? = some (x.verdictGiven (s.params k) s.hostSilent c.verdict s.now) := by
  by_cases hrun : s.job.state = .running
  · rw [abortTest_ends c hrun]
    by_cases hk : s.job.k = k
    · subst hk
      rw [endTest_strings hx _ hj]
      exact .inr ⟨hrun, rfl, List.getElem?_set_self (List.getElem?_eq_some_iff.mp hx).1⟩
    · rw [endTest_others s hk]
      exact .inl hx
  · rw [abortTest_strings_of_quiet hrun]
    exact .inl hx

/-- The evaluation of the margin state does nothing else to them. -/
theorem evalMargin_record (hj : s.joined = true) (hx : s.strings[k]? = some x) :
    s.evalMargin.strings[k]? = some x ∨ s.job.state = .running ∧ k = s.job.k
      ∧ s.evalMargin.strings[k]? = some (x.verdictGiven (s.params k) s.hostSilent .abortedDeficit s.now) := by
  by_cases hsame : s.marginNow = s.view.margin
  · rw [evalMargin_same hj hsame]
    exact .inl hx
  · rw [strings_of_frame (evalMargin_changed hj hsame).1]
    unfold State.marginMoved
    split
    · exact abortTest_record (s := s.marginTold) hj .deficit hx
    · exact .inl hx

theorem finish_strings (s0 s : State) : (State.finish s0 s).strings = s.evalMargin.strings :=
  strings_of_frame (finish_afterEval s0 s)

/-! ### The accumulators (R18, R29) -/

/-- `x` and `y` hold the same accumulators. -/
def StringRec.SameCounts (x y : StringRec) : Prop := y.aCal = x.aCal ∧ y.tDah = x.tDah ∧ y.deepCount = x.deepCount

theorem abortVerdict_counts (p : StringParams) (silent : Bool) (now : Nat) (x : StringRec) :
    x.SameCounts (x.verdictGiven p silent .abortedDeficit now) := ⟨rfl, rfl, rfl⟩

/-- The end of an event leaves the accumulators. -/
theorem finish_counts (s0 : State) (hx : s.strings[k]? = some x) :
    ∃ y, (State.finish s0 s).strings[k]? = some y ∧ x.SameCounts y ∧ y.loaded = x.loaded := by
  rw [finish_strings]
  cases hj : s.joined with
  | false =>
    rw [evalMargin_beforeJoin hj]
    exact ⟨x, hx, ⟨rfl, rfl, rfl⟩, rfl⟩
  | true =>
    obtain hsame | ⟨-, -, hended⟩ := evalMargin_record hj hx
    · exact ⟨x, hsame, ⟨rfl, rfl, rfl⟩, rfl⟩
    · exact ⟨_, hended, abortVerdict_counts .., rfl⟩

/-! ### LOAD_AGEING (R28) -/

theorem arg32_le (r : List Byte) (i : Nat) : arg32 r i ≤ 4294967295 := by
  have hlow := u16At_lt r (2 + i)
  have hhigh := u16At_lt r (2 + i + 2)
  show u16At r (2 + i) + 65536 * u16At r (2 + i + 2) ≤ _
  omega

theorem arg16_le (r : List Byte) (i : Nat) : arg16 r i ≤ 65535 := Nat.le_of_lt_succ (u16At_lt r (2 + i))

/-- The record of a string that a row renews: `y` for `x`, where `renews` holds. -/
def State.Renews (renews : State → Nat → StringRec → StringRec → Prop) (s t : State) : Prop :=
  ∀ (k : Nat) (x : StringRec), s.strings[k]? = some x → ∃ y, t.strings[k]? = some y ∧ (x.SameCounts y ∨ renews s k x y)

theorem renews_of_strings {renews : State → Nat → StringRec → StringRec → Prop} (h : t.strings = s.strings) :
    s.Renews renews t := fun _ x hx => ⟨x, by rw [h]; exact hx, .inl ⟨rfl, rfl, rfl⟩⟩

/-- A load of a record that has not been loaded, in the start window. -/
def loadsRecord (s : State) (_ : Nat) (x y : StringRec) : Prop :=
  s.startup.state = .startWindow ∧ x.loaded = false ∧ y.loaded = true ∧ y.Counted

theorem loadString_renews {r : List Byte} {z : StringRec} (hw : s.startup.state = .startWindow)
    (hz : s.strings[arg8 r 0]? = some z) (hloaded : z.loaded = false) :
    s.Renews loadsRecord (s.loadString (arg8 r 0) r) := fun k x hx => by
  rw [loadString_quiet (joined_of_window hw) hz]
  by_cases hk : arg8 r 0 = k
  · subst hk
    rw [hz] at hx
    cases hx
    exact ⟨_, List.getElem?_set_self (List.getElem?_eq_some_iff.mp hz).1, .inr ⟨hw, hloaded, rfl,
      arg32_le r 1, arg32_le r 5, arg16_le r 9⟩⟩
  · exact ⟨x, (List.getElem?_set_ne hk).trans hx, .inl ⟨rfl, rfl, rfl⟩⟩

theorem execLoadAgeing_renews (h : execLoadAgeing s = .next t) : s.Answers (State.Renews loadsRecord) t := by
  have hans : ∀ (u : State) c l, u.Renews loadsRecord (u.answer c l) := fun u c l =>
    renews_of_strings (strings_of_frame (answer_frame u c l))
  refine command_answers h fun r d _ _ _ => ?_
  simp only
  split
  · exact hans _ _ _
  · exact hans _ _ _
  · exact hans _ _ _
  · rename_i hw
    split
    · exact hans _ _ _
    · rename_i z hz
      split
      · exact hans _ _ _
      · rename_i hloaded
        split
        · exact hans _ _ _
        · intro k x hx
          rw [strings_of_frame (answer_frame ..)]
          exact loadString_renews hw hz (by simpa using hloaded) k x hx

/-! ### REPLACE (R29, R134, R136) -/

/-- A visit action leaves the records, or its effect makes them under an OPEN visit that it fits. -/
theorem visitAction_strings (s : State) (r : List Byte) (a b : Bool) (o : Visit → Option Nat) (f : State → State)
    (kind : ActionKind) : (s.visitAction r a b o f kind).strings = s.strings
    ∨ ∃ v, s.visit.current = some v ∧ v.admitting = false ∧ o v = none
      ∧ (s.visitAction r a b o f kind).strings = (f s).strings := by
  have hans : ∀ c l, (s.answer c l).strings = s.strings := fun c l => strings_of_frame (answer_frame s c l)
  unfold State.visitAction
  split
  · exact .inl (hans ..)
  · split
    · exact .inl (hans ..)
    · split
      · exact .inl (hans ..)
      · split
        · exact .inl (hans ..)
        · rename_i v hv
          split
          · exact .inl (hans ..)
          · rename_i hadmitting
            split
            · exact .inl (hans ..)
            · split
              · exact .inl (hans ..)
              · split
                · exact .inl (hans ..)
                · split
                  · exact .inl (hans ..)
                  · rename_i ho
                    refine .inr ⟨v, hv, by simpa using hadmitting, ho, ?_⟩
                    rw [strings_of_frame (answer_frame ..)]
                    rfl

/-- A replacement of an ISOLATED string under an OPEN visit of it. -/
def replacesRecord (s : State) (k : Nat) (x y : StringRec) : Prop :=
  s.startup.state = .joined ∧ x.state = .isolated
  ∧ (∃ v, s.visit.current = some v ∧ v.admitting = false ∧ v.scope = .string k)
  ∧ y.aCal = 0 ∧ y.tDah = 0 ∧ y.deepCount = 0

theorem replaceString_record (s : State) (hx : s.strings[k]? = some x) : ∃ y, (s.replaceString k).strings[k]? = some y
    ∧ y.aCal = 0 ∧ y.tDah = 0 ∧ y.deepCount = 0 := by
  have hk := (List.getElem?_eq_some_iff.mp hx).1
  have hself : s.strings = s.strings.set k x := by
    obtain ⟨hlt, rfl⟩ := List.getElem?_eq_some_iff.mp hx
    exact (List.set_getElem_self hlt).symm
  have hon := onString_strings hself hk StringRec.renew
  refine ⟨x.renew.recompute (s.params k) s.hostSilent, ?_, rfl, rfl, rfl⟩
  · unfold State.replaceString
    rw [recompute_strings hon hk]
    exact List.getElem?_set_self hk

theorem execReplace_renews (h : execReplace s = .next t) : s.Answers (State.Renews replacesRecord) t := by
  refine command_answers h fun r d _ _ _ => ?_
  unfold State.whenJoined
  split
  · rename_i hj
    obtain hsame | ⟨v, hv, hadmitting, ho, hstrings⟩ := visitAction_strings (s.withStatusDue false) r true true
      ((s.withStatusDue false).stringObstacle (arg8 r 5) .isolated) (fun s => s.replaceString (arg8 r 5)) .replaced
    · exact renews_of_strings hsame
    · obtain ⟨hscope, hisolated⟩ : v.scope = .string (arg8 r 5)
          ∧ (s.withStatusDue false).stringIs (arg8 r 5) .isolated = true := by
        unfold State.stringObstacle at ho
        split at ho
        · cases ho
        · rename_i hscope
          split at ho
          · cases ho
          · rename_i his
            exact ⟨by simpa using hscope, by simpa using his⟩
      intro k x hx
      by_cases hk : arg8 r 5 = k
      · subst hk
        obtain ⟨y, hy, hcounts⟩ := replaceString_record (s.withStatusDue false) hx
        refine ⟨y, hstrings ▸ hy, .inr ⟨by simpa [State.joined] using hj, ?_, ⟨v, hv, hadmitting, hscope⟩, hcounts⟩⟩
        simpa [State.stringIs, show s.strings[arg8 r 5]? = some x from hx] using hisolated
      · refine ⟨x, ?_, .inl ⟨rfl, rfl, rfl⟩⟩
        rw [hstrings]
        show (State.recompute _ _).strings[k]? = _
        rw [recompute_others _ hk, onString_others _ hk]
        exact hx
  · exact renews_of_strings (strings_of_frame (answer_frame ..))

/-- A row that answers with renewed records, the end of its event included. -/
theorem answers_renews {renews : State → Nat → StringRec → StringRec → Prop} (h : s.Answers (State.Renews renews) t)
    (hx : s.strings[k]? = some x) : ∃ y z, t.strings[k]? = some z ∧ y.SameCounts z ∧ z.loaded = y.loaded
      ∧ (x.SameCounts y ∨ renews (s.withStatusDue false) k x y) := by
  obtain rfl | ⟨-, u, hu, rfl⟩ := h
  · exact ⟨x, x, hx, ⟨rfl, rfl, rfl⟩, rfl, .inl ⟨rfl, rfl, rfl⟩⟩
  · obtain ⟨y, hy, hrenews⟩ := hu k x hx
    obtain ⟨z, hz, hcounts, hloaded⟩ := finish_counts s hy
    exact ⟨y, z, hz, hcounts, hloaded, hrenews⟩

theorem counted_of_same {y : StringRec} (h : x.SameCounts y) (hc : x.Counted) : y.Counted := by
  obtain ⟨hcal, hdah, hdeep⟩ := h
  exact ⟨hcal ▸ hc.aCal, hdah ▸ hc.tDah, hdeep ▸ hc.deepCount⟩

theorem sameCounts_trans {y z : StringRec} (h : x.SameCounts y) (k : y.SameCounts z) : x.SameCounts z :=
  ⟨k.1.trans h.1, k.2.1.trans h.2.1, k.2.2.trans h.2.2⟩

/-- No record is built of a machine that has records. -/
theorem imageRead_leaves {b : List Byte} (hcfg : s.configOk = true) (h : exec (.imageReadComplete b) s = .next t)
    (hx : s.strings[k]? = some x) : t = s := by
  have hno : s.reading = false := by
    cases hread : s.reading with
    | false => rfl
    | true =>
      obtain ⟨hstate, -⟩ := Bool.and_eq_true_iff.mp hread
      have hloading : s.startup.state = .loading := by simpa using hstate
      have hempty : s.strings = [] := by
        have hall : s.image = none ∧ s.strings = [] := by
          have hall := hcfg
          simp only [State.configOk, State.inWindow, State.joined, hloading] at hall
          simpa using hall
        exact hall.2
      rw [hempty] at hx
      cases hx
  have hevent : Host.Outcome.next (if s.running && s.reading then _ else s) = .next t := h
  rw [hno, Bool.and_false] at hevent
  exact (Host.Outcome.next.inj hevent).symm

/-- Settles O19: every movement but a load and a replacement keeps the order of the accumulators. -/
theorem accumulatorsNeverDecrease : Obligations.AccumulatorsNeverDecrease := by
  intro i s t k x hi hcfg h hx hcal hdah hdeep
  have hcounted : x.Counted := ⟨hcal, hdah, hdeep⟩
  have grown : ∀ {y : StringRec}, x.Ages y → y.aCal ≤ 4294967295 ∧ y.tDah ≤ 4294967295 ∧ y.deepCount ≤ 65535
      ∧ x.aCal ≤ y.aCal ∧ x.tDah ≤ y.tDah ∧ x.deepCount ≤ y.deepCount := fun {y} ha => by
    obtain ⟨h1, h2, h3⟩ := ha.counted hcounted
    exact ⟨h1, h2, h3, ha.aCal hcounted, ha.tDah hcounted, ha.deepCount hcounted⟩
  have same : ∀ {y : StringRec}, x.SameCounts y → x.Ages y := fun {y} hy =>
    ages_of_counts hy.1 hy.2.1 hy.2.2
  by_cases hload : i = .loadAgeing
  · subst hload
    obtain ⟨y, z, hz, hyz, hloaded, hy | ⟨hw, hfirst, hdone, hc⟩⟩ := answers_renews (execLoadAgeing_renews h) hx
    · obtain ⟨h1, h2, h3, hle⟩ := grown (same (sameCounts_trans hy hyz))
      exact ⟨z, hz, h1, h2, h3, .inl hle⟩
    · obtain ⟨h1, h2, h3⟩ := counted_of_same hyz hc
      exact ⟨z, hz, h1, h2, h3, .inr (.inl ⟨rfl, hw, hfirst, hloaded.trans hdone⟩)⟩
  by_cases hreplace : i = .replace
  · subst hreplace
    obtain ⟨y, z, hz, hyz, -, hy | ⟨hj, hisolated, hvisit, h1, h2, h3⟩⟩ := answers_renews (execReplace_renews h) hx
    · obtain ⟨h1, h2, h3, hle⟩ := grown (same (sameCounts_trans hy hyz))
      exact ⟨z, hz, h1, h2, h3, .inl hle⟩
    · obtain ⟨k1, k2, k3⟩ := hyz
      have hzero : z.aCal = 0 ∧ z.tDah = 0 ∧ z.deepCount = 0 := ⟨k1.trans h1, k2.trans h2, k3.trans h3⟩
      exact ⟨z, hz, by omega, by omega, by omega, .inr (.inr ⟨rfl, hj, hisolated, hvisit, hzero⟩)⟩
  have hages : ∃ y, t.strings[k]? = some y ∧ x.Ages y := by
    by_cases hb : ∃ b, i = .imageReadComplete b
    · obtain ⟨b, rfl⟩ := hb
      rw [imageRead_leaves hcfg h hx]
      exact ⟨x, hx, same ⟨rfl, rfl, rfl⟩⟩
    · have hm := exec_moves (g := ⟨true, false, true⟩) hi (fun b hib => hb ⟨b, hib⟩) (.inl rfl) h
        (hrenew := .inr (by simp [hload, hreplace]))
      obtain ⟨y, hy⟩ := record_between (moves_strings_length hm) hx
      exact ⟨y, hy, moves_ages hm rfl hx hy⟩
  obtain ⟨y, hy, ha⟩ := hages
  obtain ⟨h1, h2, h3, hle⟩ := grown ha
  exact ⟨y, hy, h1, h2, h3, .inl hle⟩

end Sys2Proof.Machine

/-! PROOFS. The laws of the string records in every step: what a movement keeps, and the three rows that move the
watchdog with the energy of every string (sections 1.5 and 8.3). -/

namespace Sys2Proof.Machine

-- One proof after another: side by side they ask for more thread stacks than there is memory for.
set_option Elab.async false

variable {g : Allows} {f : List Piece} {s t u : State} {k : Nat} {x : StringRec}

/-! ### The laws of the records -/

/-- The figures of every record lie in their ranges. -/
def State.RecordsRanged (s : State) : Prop := ∀ (k : Nat) (x : StringRec), s.strings[k]? = some x → x.Ranged (s.params k)

/-- The energy that the first `n` records report is what R27 gives. -/
def State.FormedBelow (s : State) (n : Nat) : Prop :=
  ∀ (k : Nat) (x : StringRec), k < n → s.strings[k]? = some x → x.Formed s.hostSilent

/-- The laws of the records, those of the watchdog aside. -/
structure State.RecordsOk (s : State) : Prop where
  ranged : s.RecordsRanged
  formed : s.FormedBelow s.strings.length

theorem ok_iff (p : StringParams) (silent : Bool) (x : StringRec) : x.ok p silent = true ↔ x.Ranged p ∧ x.Formed silent := by
  constructor
  · intro h
    simp only [StringRec.ok, inRange, Bool.and_eq_true, Nat.ble_eq, beq_iff_eq] at h
    obtain ⟨⟨⟨⟨⟨⟨⟨⟨hq, hsoc⟩, hsoh⟩, hu⟩, hrho⟩, hformed⟩, havail⟩, husable⟩, hres⟩ := h
    exact ⟨⟨hq, hsoc, hsoh, hu, hrho, havail, husable, hres⟩, hformed⟩
  · rintro ⟨⟨hq, hsoc, hsoh, hu, hrho, havail, husable, hres⟩, hformed⟩
    simp only [StringRec.ok, inRange, Bool.and_eq_true, Nat.ble_eq, beq_iff_eq]
    exact ⟨⟨⟨⟨⟨⟨⟨⟨hq, hsoc⟩, hsoh⟩, hu⟩, hrho⟩, hformed⟩, havail⟩, husable⟩, hres⟩

theorem stringsOk_iff (s : State) : s.stringsOk = true ↔ s.RecordsOk ∧ (s.joined = false → s.dog.stage = .off) := by
  have hrecord : ∀ k, k < s.strings.length → s.strings[k]? = some (s.strings.getD k StringRec.blank) := fun k hk => by
    rw [List.getD_eq_getElem?_getD, List.getElem?_eq_getElem hk]
    rfl
  simp only [State.stringsOk, Bool.and_eq_true, List.all_eq_true, List.mem_range, ok_iff, Bool.or_eq_true,
    beq_iff_eq]
  refine and_congr ⟨fun h => ?_, fun h k hk => ?_⟩ ?_
  · have hall : ∀ (k : Nat) (x : StringRec), s.strings[k]? = some x → x.Ranged (s.params k) ∧ x.Formed s.hostSilent :=
      fun k x hx => by
        have hk := (List.getElem?_eq_some_iff.mp hx).1
        have hx' := hrecord k hk
        rw [hx] at hx'
        exact Option.some.inj hx' ▸ h k hk
    exact ⟨fun k x hx => (hall k x hx).1, fun k x _ hx => (hall k x hx).2⟩
  · exact ⟨h.ranged k _ (hrecord k hk), h.formed k _ hk (hrecord k hk)⟩
  · cases s.joined <;> simp

/-! ### What a movement keeps of them -/

theorem moves_ranged (h : Moves g f s t) (hf : Piece.watchdog ∉ f) (hs : s.RecordsRanged) : t.RecordsRanged :=
  fun k y hy => by
    obtain ⟨x, hx⟩ := record_between (moves_strings_length h).symm hy
    rw [params_of_kept (moves_image h)]
    exact ((moves_records h hf).keeps k x y hx hy).ranged (hs k x hx)

theorem moves_silent (h : Moves g f s t) (hf : Piece.watchdog ∉ f) : t.hostSilent = s.hostSilent :=
  hostSilent_of_kept ((moves_frame h).kept .watchdog hf)

theorem moves_formed {n : Nat} (h : Moves g f s t) (hf : Piece.watchdog ∉ f) (hg : g.sampled = false ∨ s.hostSilent = false)
    (hs : s.FormedBelow n) : t.FormedBelow n := fun k y hk hy => by
  obtain ⟨x, hx⟩ := record_between (moves_strings_length h).symm hy
  rw [moves_silent h hf]
  exact (moves_records h hf).formed hg k x y hx hy (hs k x hk hx)

theorem moves_recordsOk (h : Moves g f s t) (hf : Piece.watchdog ∉ f) (hg : g.sampled = false ∨ s.hostSilent = false)
    (hs : s.RecordsOk) : t.RecordsOk :=
  ⟨moves_ranged h hf hs.ranged, by
    rw [moves_strings_length h]
    exact moves_formed h hf hg hs.formed⟩

/-- The end of an event. -/
theorem finish_recordsOk (s0 : State) (hs : s.RecordsOk) : (State.finish s0 s).RecordsOk :=
  moves_recordsOk (finish_moves (g := ⟨true, true, false⟩) s0 s) (by decide) (.inl rfl) hs

/-- A watchdog that leaves the host as silent as it was, or not. -/
theorem withDog_recordsOk {d : Watchdog} (hd : (s.withDog d).hostSilent = s.hostSilent) (hs : s.RecordsOk) :
    (s.withDog d).RecordsOk :=
  ⟨hs.ranged, fun k x hk hx => hd ▸ hs.formed k x hk hx⟩

/-! ### HOST_STALE and UNSUPERVISED (R172, R173) -/

theorem formAllAvail_recordsOk (hs : s.RecordsRanged) : s.formAllAvail.RecordsOk := by
  refine ⟨moves_ranged (formAllAvail_moves (g := .all) s) (by decide) hs, fun k y _ hy => ?_⟩
  have hmap : (s.strings.map (StringRec.formAvail s.hostSilent))[k]? = some y := hy
  rw [List.getElem?_map] at hmap
  obtain ⟨x, -, rfl⟩ := Option.map_eq_some_iff.mp hmap
  exact rfl

theorem goStale_recordsOk (hs : s.RecordsRanged) : s.goStale.RecordsOk := by
  have hstale := formAllAvail_recordsOk (s := s.withDog ⟨.hostStale, some (s.now + s.cfg.hostTimeout)⟩) hs
  have hmoves : Moves ⟨true, true, false⟩ ([.intake, .freeCount] ++ evalPieces)
      (s.withDog ⟨.hostStale, some (s.now + s.cfg.hostTimeout)⟩).formAllAvail s.goStale := by
    unfold State.goStale
    simp only
    refine moves_then (f := [.intake, .freeCount] ++ evalPieces) ?_ (dogNotice_moves ..) rfl rfl
    refine moves_then (f := [.intake, .freeCount] ++ evalPieces) ?_ (evalMargin_moves _) rfl rfl
    exact moves_then (onIntake_moves ..) (abortTest_moves ..) rfl rfl
  exact moves_recordsOk hmoves (by decide) (.inl rfl) hstale

theorem goUnsupervised_recordsOk (hstage : s.dog.stage = .hostStale) (hs : s.RecordsOk) : s.goUnsupervised.RecordsOk := by
  have hdog : (s.withDog ⟨.unsupervised, none⟩).RecordsOk := withDog_recordsOk (by
    simp [State.hostSilent, State.withDog, hstage]) hs
  have hmoves : Moves ⟨true, true, false⟩ ([.unsupervisedLine, .freeCount] ++ evalPieces) (s.withDog ⟨.unsupervised, none⟩)
      s.goUnsupervised := by
    unfold State.goUnsupervised
    refine moves_then (f := [.unsupervisedLine, .freeCount] ++ evalPieces) ?_ (dogNotice_moves ..) rfl rfl
    exact moves_then (unsupervisedLine_moves ..) (evalMargin_moves _) rfl rfl
  exact moves_recordsOk hmoves (by decide) (.inl rfl) hdog

/-! ### JOIN (R194) -/

theorem joinFloor_recordsOk (hoff : s.dog.stage = .off) (hs : s.RecordsOk) : s.joinFloor.RecordsOk := by
  have hbefore : Moves ⟨true, true, false⟩ (.startup :: (takeUpPieces ++ evalPieces)) s
      (s.onStartup (fun u => { u with state := .joined, windowEnds := none })).takePosition.evalMargin :=
    moves_then (moves_then (onStartup_moves ..) (takePosition_moves _) (d := .startup :: takeUpPieces) rfl rfl)
      (evalMargin_moves _) rfl rfl
  have hquiet : (s.onStartup (fun u => { u with state := .joined, windowEnds := none })).takePosition.evalMargin.hostSilent
      = false := by
    rw [moves_silent hbefore (by decide)]
    simp [State.hostSilent, hoff]
  have hdog := withDog_recordsOk (d := ⟨.watching, some (s.now + s.cfg.hostTimeout)⟩) (by rw [hquiet]; rfl)
    (moves_recordsOk hbefore (by decide) (.inl rfl) hs)
  have hafter : Moves ⟨true, true, false⟩ (.ticks :: .strings :: .intake :: .sequencer :: [])
      ((s.onStartup (fun u => { u with state := .joined, windowEnds := none })).takePosition.evalMargin.withDog
        ⟨.watching, some (s.now + s.cfg.hostTimeout)⟩) s.joinFloor := by
    unfold State.joinFloor
    refine moves_then (f := [.ticks, .strings, .intake, .sequencer]) ?_ (markStatus_moves _) rfl rfl
    refine moves_then (f := [.ticks, .strings, .intake, .sequencer]) ?_ (onSeq_moves _ rfl) rfl rfl
    refine moves_then (f := [.ticks, .strings, .intake, .sequencer]) ?_ (onIntake_moves ..) rfl rfl
    exact moves_then (withTicks_moves ..) (mapRecords_moves _ _ fun _ _ _ => goes_of_figures rfl) rfl rfl
  exact moves_recordsOk hafter (by decide) (.inl rfl) hdog

/-! ### A take-in (R35, R170, R171) -/

theorem counted_formed (p : StringParams) (base running : Bool) (dt : Nat) (h : Hold) (y : Sample) (x : StringRec) :
    (x.counted p base running dt h y).Formed false := (countIn_goes true p base running dt (handedOf h y) _).2

/-- The take-in of a string forms its energy. -/
theorem takeString_formed (hj : s.joined = true) (hquiet : s.hostSilent = false) (m : MeasFrame) (base : Bool) (dt : Nat)
    {x : StringRec} (hx : (s.takeString m base dt k).strings[k]? = some x) : x.Formed false := by
  rw [takeString_joined hj] at hx
  have hafter := afterCount_moves (g := ⟨true, true, false⟩) base k
    (handedOf ((s.intake.holds.getD k Hold.blank).after (m.samples.getD k ⟨false, 0, 0, 0⟩))
      (m.samples.getD k ⟨false, 0, 0, 0⟩))
    ((s.onIntake (fun i => { i with holds := i.holds.set k ((s.intake.holds.getD k Hold.blank).after
      (m.samples.getD k ⟨false, 0, 0, 0⟩)) })).onString k (StringRec.counted (s.params k) base
        (s.job.state == .running && s.job.k == k) dt ((s.intake.holds.getD k Hold.blank).after
          (m.samples.getD k ⟨false, 0, 0, 0⟩)) (m.samples.getD k ⟨false, 0, 0, 0⟩)))
  obtain ⟨y, hy⟩ := record_between (moves_strings_length hafter).symm hx
  have hrecord := (moves_records hafter (by decide)).formed (.inl rfl) k y x hy hx
  have hmodified : (s.strings.modify k (StringRec.counted (s.params k) base (s.job.state == .running && s.job.k == k) dt
      ((s.intake.holds.getD k Hold.blank).after (m.samples.getD k ⟨false, 0, 0, 0⟩))
      (m.samples.getD k ⟨false, 0, 0, 0⟩)))[k]? = some y := hy
  rw [List.getElem?_modify_eq] at hmodified
  obtain ⟨z, -, rfl⟩ := Option.map_eq_some_iff.mp hmodified
  have hsame : ∀ h : Hold, ∀ r, ((s.onIntake (fun i => { i with holds := i.holds.set k h })).onString k r).hostSilent = false :=
    fun _ _ => hquiet
  rw [hsame] at hrecord
  exact hrecord (counted_formed ..)

/-- A machine from JOIN onward that hears its host. -/
structure State.Heard (s : State) : Prop where
  joined : s.joined = true
  quiet : s.hostSilent = false

theorem moves_heard (h : Moves g f s t) (hf : Piece.watchdog ∉ f) (hstart : Piece.startup ∉ f) (hs : s.Heard) : t.Heard :=
  ⟨(joined_of_startup ((moves_frame h).kept .startup hstart)).trans hs.joined, (moves_silent h hf).trans hs.quiet⟩

/-- From JOIN onward the take-in of the strings below `n` forms their energy. -/
theorem strings_formed (hs : s.Heard) (m : MeasFrame) (base : Bool) (dt n : Nat) :
    ((List.range n).foldl (State.takeString m base dt) s).Heard
    ∧ ((List.range n).foldl (State.takeString m base dt) s).FormedBelow n := by
  induction n with
  | zero => exact ⟨hs, fun _ _ hk => absurd hk (Nat.not_lt_zero _)⟩
  | succ n ih =>
    obtain ⟨hheard, hformed⟩ := ih
    rw [List.range_succ, List.foldl_append]
    have hmoves := takeString_moves (g := .all) rfl m base dt ((List.range n).foldl (State.takeString m base dt) s) n
    have hheard' := moves_heard hmoves (by decide) (by decide) hheard
    refine ⟨hheard', fun k x hk hx => ?_⟩
    obtain rfl | hlt := Nat.lt_succ_iff_lt_or_eq.mp hk |>.symm
    · exact hheard'.quiet ▸ takeString_formed hheard.joined hheard.quiet m base dt hx
    · exact moves_formed hmoves (by decide) (.inr hheard.quiet) hformed k x hlt hx

theorem handOver_recordsOk (hs : s.Heard) (hranged : s.RecordsRanged) (m : MeasFrame) (base : Bool) (dt : Nat) :
    (s.handOver m base dt).RecordsOk := by
  have hfold : Moves .all sampledPieces s ((List.range s.strings.length).foldl (State.takeString m base dt) s) :=
    foldl_moves (takeString_moves rfl m base dt) _ s
  obtain ⟨hheard, hformed⟩ := strings_formed hs m base dt s.strings.length
  have hok : ((List.range s.strings.length).foldl (State.takeString m base dt) s).RecordsOk :=
    ⟨moves_ranged hfold (by decide) hranged, by rwa [moves_strings_length hfold]⟩
  have hafter : Moves ⟨true, true, false⟩ handPieces ((List.range s.strings.length).foldl (State.takeString m base dt) s)
      (s.handOver m base dt) := by
    unfold State.handOver
    exact moves_then (moves_then (moves_ite (onIntake_moves ..) (moves_refl ..)) (evalMargin_moves _) (d := handPieces)
      rfl rfl) (formBypOk_moves _) rfl rfl
  exact moves_recordsOk hafter (by decide) (.inl rfl) hok

theorem feedDog_heard (hj : s.joined = true) : s.feedDog.Heard := by
  unfold State.feedDog
  rw [if_pos hj]
  exact ⟨hj, rfl⟩

theorem feedDog_ranged (hs : s.RecordsRanged) : s.feedDog.RecordsRanged := by
  unfold State.feedDog
  split <;> exact hs

/-- A take-in from JOIN onward forms the energy of every string, whatever the host's silence has made of it. -/
theorem takeFrame_recordsOk (hj : s.joined = true) (m : MeasFrame) (hs : s.RecordsRanged) : (s.takeFrame m).RecordsOk := by
  unfold State.takeFrame
  simp only
  have hsince := sinceTakeIn_moves (g := ⟨true, true, false⟩) s
  have hfed : ∀ (v : State) (i : Intake → Intake) (base : Bool) (dt : Nat), v.joined = true → v.RecordsRanged →
      ((v.onIntake i).feedDog.handOver m base dt).RecordsOk := fun v i base dt hv hr =>
    handOver_recordsOk (feedDog_heard (s := v.onIntake i) hv) (feedDog_ranged (s := v.onIntake i) hr) m base dt
  split
  · have hjoined : s.sinceTakeIn.2.joined = true :=
      (joined_of_startup ((moves_frame hsince).kept .startup (by decide))).trans hj
    refine moves_recordsOk (moves_then (evalMargin_moves (g := ⟨true, true, false⟩) _) (raise_moves ..)
      (d := evalPieces) rfl rfl) (by decide) (.inl rfl) ?_
    exact hfed _ _ _ _ hjoined (moves_ranged hsince (by decide) hs)
  · exact hfed _ _ _ _ hj hs

/-- Before JOIN a take-in leaves the watchdog as it is. -/
theorem takeFrame_unjoined (hj : s.joined = false) (hquiet : s.hostSilent = false) (m : MeasFrame) : s.takeFrame m
    = (s.onIntake (Intake.takeFigures m s.cfg.pRated s.us)).handOver m (s.intake.baselineNext || s.hostSilent) s.interval := by
  unfold State.takeFrame
  simp only
  rw [if_neg (ne_true_of_eq_false hquiet), State.feedDog, if_neg]
  exact ne_true_of_eq_false hj

theorem takeFrame_keeps_records (hs : s.RecordsOk) (hdog : s.joined = false → s.dog.stage = .off) (m : MeasFrame) :
    (s.takeFrame m).RecordsOk := by
  cases hj : s.joined with
  | true => exact takeFrame_recordsOk hj m hs.ranged
  | false =>
    have hoff : s.hostSilent = false := by simp [State.hostSilent, hdog hj]
    have hfigures := moves_recordsOk (onIntake_moves (g := ⟨true, true, false⟩) s (Intake.takeFigures m s.cfg.pRated s.us))
      (by decide) (.inl rfl) hs
    have hhand := handOver_moves (g := .all) rfl m (s.intake.baselineNext || s.hostSilent) s.interval
      (s.onIntake (Intake.takeFigures m s.cfg.pRated s.us))
    rw [takeFrame_unjoined hj hoff]
    exact moves_recordsOk hhand (by decide) (.inr hoff) hfigures

theorem examine_recordsOk (hs : s.RecordsOk) (hdog : s.joined = false → s.dog.stage = .off) (i : Nat) :
    (s.examine i).RecordsOk := by
  have hrole : ∀ r, (s.setRole i r).RecordsOk := fun r =>
    moves_recordsOk (onIntake_moves (g := ⟨true, true, false⟩) ..) (by decide) (.inl rfl) hs
  unfold State.examine
  simp only
  split
  · split
    · exact moves_recordsOk (onIntake_moves (g := ⟨true, true, false⟩) ..) (by decide) (.inl rfl) (hrole .free)
    · exact takeFrame_keeps_records (s := s.setRole i .inUse) (hrole .inUse) hdog _
  · exact hrole .free

/-! ### The completion of an image read (R6) -/

theorem builtRecord_ok (p : StringParams) : (builtRecord p).Ranged p ∧ (builtRecord p).Formed false :=
  ⟨ranged_recompute (Nat.zero_le _), rfl⟩

theorem imageRead_recordsOk (hoff : s.hostSilent = false) (hs : s.RecordsOk) (b : List Byte) : (s.imageRead b).RecordsOk := by
  have hkept : ∀ r : StartUp → StartUp, (s.onStartup r).RecordsOk := fun r =>
    moves_recordsOk (onStartup_moves (g := ⟨true, true, false⟩) s r) (by decide) (.inl rfl) hs
  unfold State.imageRead
  split
  · unfold State.attemptFails
    split
    · exact hkept _
    · exact hkept _
  · split
    · exact hkept _
    · have hbuilt : ∀ (k : Nat) (x : StringRec), (s.enterWindow (imageOf b)).strings[k]? = some x →
          x.Ranged ((s.enterWindow (imageOf b)).params k) ∧ x.Formed false := fun k x hx => by
        have hmap : ((imageOf b).strings.map builtRecord)[k]? = some x := hx
        rw [List.getElem?_map] at hmap
        obtain ⟨p, hp, rfl⟩ := Option.map_eq_some_iff.mp hmap
        have hparams : (s.enterWindow (imageOf b)).params k = p := by
          show (imageOf b).strings.getD k StringParams.blank = p
          rw [List.getD_eq_getElem?_getD, hp]
          rfl
        exact hparams ▸ builtRecord_ok p
      refine ⟨fun k x hx => (hbuilt k x hx).1, fun k x _ hx => ?_⟩
      rw [show (s.enterWindow (imageOf b)).hostSilent = false from hoff]
      exact (hbuilt k x hx).2

/-! ### Every row -/

theorem answers_recordsOk (hs : s.RecordsOk) (h : s.Answers (fun _ u => u.RecordsOk) t) : t.RecordsOk := by
  obtain rfl | ⟨-, u, hu, rfl⟩ := h
  · exact hs
  · exact finish_recordsOk s hu

/-- The five rows that move the watchdog. -/
theorem dogRow_recordsOk {i : Instr} (hi : i ∈ dogRows) (hs : s.RecordsOk) (hdog : s.joined = false → s.dog.stage = .off)
    (h : exec i s = .next t) : t.RecordsOk := by
  have hs' : (s.withStatusDue false).RecordsOk := ⟨hs.ranged, hs.formed⟩
  simp only [dogRows, List.mem_cons, List.not_mem_nil, or_false] at hi
  obtain rfl | rfl | rfl | rfl | rfl := hi
  · refine answers_recordsOk hs (event_answers h fun _ hc => joinFloor_recordsOk (hdog ?_) hs')
    exact joined_of_window (by simpa [State.inWindow] using (Bool.and_eq_true_iff.mp hc).1)
  · refine answers_recordsOk hs (command_answers h fun r d _ _ _ => ?_)
    have hanswer : ∀ (u : State) c l, u.RecordsOk → (u.answer c l).RecordsOk := fun u c l =>
      moves_recordsOk (answer_moves (g := ⟨true, true, false⟩) u c l) (by decide) (.inl rfl)
    split
    · exact hanswer _ _ _ hs'
    · exact hanswer _ _ _ hs'
    · rename_i hw
      exact hanswer _ _ _ (joinFloor_recordsOk (hdog (joined_of_window hw)) hs')
    · exact hanswer _ _ _ hs'
  · refine answers_recordsOk hs (event_answers h fun _ _ => ?_)
    split
    · exact examine_recordsOk hs' hdog _
    · exact hs'
  · exact answers_recordsOk hs (event_answers h fun _ _ => goStale_recordsOk hs'.ranged)
  · refine answers_recordsOk hs (event_answers h fun _ hc => goUnsupervised_recordsOk ?_ hs')
    simpa using (Bool.and_eq_true_iff.mp (Bool.and_eq_true_iff.mp hc).1).2

/-- No row that resets nothing leaves JOINED. -/
theorem joined_before {i : Instr} (hi : i ∉ resettingRows) (h : exec i s = .next t) (hj : t.joined = false) :
    s.joined = false := by
  obtain hsame | ⟨hload, -⟩ | ⟨⟨hw, -⟩, -⟩ := exec_startup hi h
  · rwa [joined_of_startup hsame] at hj
  · simp [State.joined, hload]
  · exact joined_of_window hw

theorem exec_recordsOk {i : Instr} (hr : i ∉ resettingRows) (hs : s.RecordsOk) (hdog : s.joined = false → s.dog.stage = .off)
    (h : exec i s = .next t) : t.RecordsOk := by
  by_cases hi : i ∈ dogRows
  · exact dogRow_recordsOk hi hs hdog h
  by_cases hb : ∃ b, i = .imageReadComplete b
  · obtain ⟨b, rfl⟩ := hb
    refine answers_recordsOk hs (event_answers h fun _ hc => ?_)
    have hload : s.startup.state = .loading := by simpa using (Bool.and_eq_true_iff.mp hc).1
    have hoff := hdog (by simp [State.joined, hload])
    have hquiet : s.hostSilent = false := by simp [State.hostSilent, hoff]
    exact imageRead_recordsOk (s := s.withStatusDue false) hquiet ⟨hs.ranged, hs.formed⟩ b
  · have hm := exec_moves (g := ⟨true, true, false⟩) hr (fun b hib => hb ⟨b, hib⟩) (.inl rfl) h
      (hsample := .inr fun hit => hi (by simp [dogRows, hit]))
    have hdogKept : Piece.watchdog ∉ .pins :: (rowPieces i ++ finishPieces) := by
      have hrow : Piece.watchdog ∉ rowPieces i := by simpa using (rowPieces_watchdog hi).2
      have hfinish : Piece.watchdog ∉ finishPieces := by decide
      simp [hrow, hfinish]
    exact moves_recordsOk hm hdogKept (.inl rfl) hs

theorem handOver_dog (m : MeasFrame) (base : Bool) (dt : Nat) : (s.handOver m base dt).dog = s.dog :=
  (moves_frame (handOver_moves (g := .all) rfl m base dt s)).kept .watchdog (by decide)

theorem examine_dog (hj : s.joined = false) (hquiet : s.hostSilent = false) (i : Nat) : (s.examine i).dog = s.dog := by
  have htaken : ∀ v : State, v.joined = false → v.hostSilent = false → ∀ m, (v.takeFrame m).dog = v.dog := fun v hv hq m => by
    rw [takeFrame_unjoined hv hq, handOver_dog]
    rfl
  unfold State.examine
  simp only
  split
  · split
    · rfl
    · exact htaken (s.setRole i .inUse) hj hquiet _
  · rfl

/-- Before JOIN no row starts the watchdog. -/
theorem exec_dogOff {i : Instr} (hr : i ∉ resettingRows) (hdog : s.joined = false → s.dog.stage = .off)
    (h : exec i s = .next t) (hj : t.joined = false) : t.dog.stage = .off := by
  have hsj := joined_before hr h hj
  have hoff := hdog hsj
  have answered : ∀ {m : State → State → Prop}, s.Answers m t → (∀ u, m (s.withStatusDue false) u → u.dog = s.dog
      ∨ u.joined = true) → t.dog = s.dog := fun ha hm => by
    obtain rfl | ⟨-, u, hu, rfl⟩ := ha
    · rfl
    · have hfinish := moves_frame (finish_moves (g := .all) s u)
      obtain hu | hu := hm u hu
      · exact (show (State.finish s u).dog = u.dog from hfinish.kept .watchdog (by decide)).trans hu
      · rw [joined_of_startup (hfinish.kept .startup (by decide)), hu] at hj
        cases hj
  suffices hkept : t.dog = s.dog by rw [hkept, hoff]
  have hjoins : ∀ v : State, v.joinFloor.joined = true := fun v => by
    simp [State.joined, joinFloor_startup]
  by_cases hi : i ∈ dogRows
  · simp only [dogRows, List.mem_cons, List.not_mem_nil, or_false] at hi
    obtain rfl | rfl | rfl | rfl | rfl := hi
    · exact answered (m := fun _ u => u.joined = true) (event_answers h fun _ _ => hjoins _) fun u hu => .inr hu
    · refine answered (m := fun v u => u.dog = v.dog ∨ u.joined = true) (command_answers h fun r d _ _ _ => ?_)
        fun u hu => hu
      have hdogAnswer : ∀ (u : State) c l, (u.answer c l).dog = u.dog := fun u c l => (answer_frame u c l).kept .watchdog (by decide)
      split
      · exact .inl (hdogAnswer ..)
      · exact .inl (hdogAnswer ..)
      · exact .inr ((joined_of_startup (answer_startup ..)).trans (hjoins _))
      · exact .inl (hdogAnswer ..)
    · refine answered (m := fun v u => u.dog = v.dog) (event_answers h fun _ _ => ?_) fun u hu => .inl hu
      have hquiet : s.hostSilent = false := by simp [State.hostSilent, hoff]
      split
      · exact examine_dog (s := s.withStatusDue false) hsj hquiet _
      · rfl
    · refine answered (m := fun _ _ => False) (event_answers h fun _ hc => ?_) fun u hu => hu.elim
      simp [hsj] at hc
    · refine answered (m := fun _ _ => False) (event_answers h fun _ hc => ?_) fun u hu => hu.elim
      simp [hsj] at hc
  by_cases hb : ∃ b, i = .imageReadComplete b
  · obtain ⟨b, rfl⟩ := hb
    obtain rfl | hread := exec_image h
    · rfl
    · exact hread.frame.kept .watchdog (by decide)
  · exact exec_kept hr (fun b hib => hb ⟨b, hib⟩) h (p := .watchdog) (rowPieces_watchdog hi).2

theorem exec_stringsOk {i : Instr} (hs : s.stringsOk = true) (h : exec i s = .next t) : t.stringsOk = true := by
  obtain ⟨hrecords, hdog⟩ := (stringsOk_iff s).mp hs
  by_cases hr : i ∈ resettingRows
  · obtain rfl | ⟨p, b, rfl⟩ := exec_reset hr h
    · exact hs
    · rfl
  · exact (stringsOk_iff t).mpr ⟨exec_recordsOk hr hrecords hdog h, exec_dogOff hr hdog h⟩

theorem advance_stringsOk (hs : s.stringsOk = true) : s.advance.stringsOk = true := by
  obtain ⟨hrecords, hdog⟩ := (stringsOk_iff s).mp hs
  have hm := advance_moves (g := ⟨true, true, false⟩) s
  refine (stringsOk_iff _).mpr ⟨moves_recordsOk hm (by decide) (.inl rfl) hrecords, fun hj => ?_⟩
  have hdogKept : s.advance.dog = s.dog := (moves_frame hm).kept .watchdog (by decide)
  rw [joined_of_startup ((moves_frame hm).kept .startup (by decide))] at hj
  rw [hdogKept]
  exact hdog hj

/-- Settles O55: every movement makes the records from those before, and the rows that move the watchdog form the
energies again. -/
theorem stringsKept : Obligations.StringsKept := fun _ _ _ hs h =>
  step_gives (P := fun u => u.stringsOk = true) (Q := fun u => u.stringsOk = true) hs h (fun _ _ _ hu => hu) id
    (fun _ hu => advance_stringsOk hu) fun _ _ _ hu hv => exec_stringsOk hu hv

end Sys2Proof.Machine

/-! PROOFS. The two expiries of the host watchdog (section 8.3). -/

namespace Sys2Proof.Machine

-- One proof after another: side by side they ask for more thread stacks than there is memory for.
set_option Elab.async false

variable {s s0 t u : State} {m n : Nat}

/-! ### How many notices an operation raises -/

/-- At most `n` notices more stand in the queue of `t` than in that of `s`. -/
def State.TellsAtMost (n : Nat) (s t : State) : Prop := t.host.notices.length ≤ s.host.notices.length + n

theorem tells_of_notices (h : t.host.notices = s.host.notices) : s.TellsAtMost n t := by
  unfold State.TellsAtMost
  rw [h]
  omega

theorem tells_of_frame {f : List Piece} (h : s.ChangesOnly f t) (hf : f.contains .notices = false := by rfl) :
    s.TellsAtMost n t := tells_of_notices (h.kept .notices (by simpa using hf)).1

theorem tells_trans (h : State.TellsAtMost m s t) (k : State.TellsAtMost n t u) : s.TellsAtMost (m + n) u := by
  unfold State.TellsAtMost at *
  omega

theorem tells_mono (h : State.TellsAtMost m s t) (hmn : m ≤ n := by decide) : s.TellsAtMost n t :=
  Nat.le_trans h (Nat.add_le_add_left hmn _)

theorem join_tells (h : HostPort) (x : Notice) : (h.join x).notices.length ≤ h.notices.length + 1 := by
  unfold HostPort.join
  split
  · simp
  · simp

theorem raise_tells (s : State) (k : NoticeKind) (a b c d : Half) : s.TellsAtMost 1 (s.raise k a b c d) := by
  unfold State.raise
  split
  · exact join_tells ..
  · exact tells_of_notices rfl

theorem notify_tells (s : State) (k : NoticeKind) (a b c d : Int) : s.TellsAtMost 1 (s.notify k a b c d) :=
  raise_tells ..

theorem recompute_tells (s : State) (k : Nat) : s.TellsAtMost 1 (s.recompute k) := by
  unfold State.recompute
  split
  · simp only
    split
    · exact tells_of_notices rfl
    · exact notify_tells ..
  · exact tells_of_notices rfl

theorem verdictEffects_tells (s : State) (k : Nat) (v : Verdict) : s.TellsAtMost 1 (s.verdictEffects k v) := by
  have hafter : ∀ f, State.TellsAtMost 1 s ((s.onString k f).recompute k) := fun f => recompute_tells (s.onString k f) k
  unfold State.verdictEffects
  cases v with
  | pass =>
    simp only
    split
    · exact hafter _
    · exact tells_of_notices rfl
  | failVoltage => exact hafter _
  | inconclusive | abortedHost | abortedDeficit | abortedStale | abortedBypass => exact tells_of_notices rfl

theorem endTest_tells (s : State) (v : Verdict) : s.TellsAtMost 2 (s.endTest v) := by
  have hnotice : ∀ u : State, u.TellsAtMost 1 (u.testEndNotice s.job.k v) := fun u => by
    unfold State.testEndNotice
    split
    · exact notify_tells ..
    · exact tells_of_notices rfl
  have hopened : s.TellsAtMost 0 (s.testClosed v) := tells_of_frame (testClosed_frame s v)
  have hjudged := tells_trans hopened (verdictEffects_tells (s.testClosed v) s.job.k v)
  rw [endTest_eq]
  exact tells_trans (m := 1) (t := State.onString _ _ _) hjudged (hnotice _)

/-! ### What an abort makes of the job (R41, R45) -/

/-- There is no test to abort: none is claimed or runs, or the one being claimed is given up. -/
def State.NothingToAbort (s : State) : Prop := s.job.state = .idle ∨ s.job.state = .claiming ∧ s.job.givenUp.isSome = true

theorem abortTest_nothing (h : s.NothingToAbort) (c : AbortCause) : s.abortTest c = s := by
  obtain hidle | ⟨hclaiming, hgiven⟩ := h
  · exact abortTest_idle s c hidle
  · obtain ⟨d, hd⟩ := Option.isSome_iff_exists.mp hgiven
    simp [State.abortTest, hclaiming, hd]

/-- A test being claimed is given up, or has come back denied. -/
theorem abortTest_claimed (hclaiming : s.job.state = .claiming) (hgiven : s.job.givenUp = none) (c : AbortCause) :
    State.TellsAtMost 1 s (s.abortTest c) ∧ ((s.abortTest c).job.state = .idle
      ∨ (s.abortTest c).job.state = .claiming ∧ (s.abortTest c).job.givenUp = some c) := by
  have habort : s.abortTest c = (s.withJob { s.job with givenUp := some c }).giveUp .ageing := by
    simp only [State.abortTest, hclaiming, hgiven]
  cases hslot : s.claims.slot with
  | free => simp [habort, State.giveUp, hslot, hclaiming, State.TellsAtMost]
  | inFlight q id tag d =>
    rw [habort]
    simp only [State.giveUp, withJob_claims, hslot]
    split
    · exact ⟨tells_of_notices rfl, .inr ⟨hclaiming, rfl⟩⟩
    · exact ⟨tells_of_notices rfl, .inr ⟨hclaiming, rfl⟩⟩
  | retryWait q d =>
    by_cases hq : q.requester = .ageing
    · rw [abortTest_of_retryWait hclaiming hgiven hq hslot]
      unfold State.testDenied
      have hjob : ∀ (u : State) (k : NoticeKind) (a b c d : Int), (u.notify k a b c d).job = u.job :=
        fun u k a b c d => (notify_frame u k a b c d).kept .job (by decide)
      exact ⟨notify_tells .., .inl (by rw [hjob]; rfl)⟩
    · simp only [habort, State.giveUp, withJob_claims, hslot, hq, if_false]
      exact ⟨tells_of_notices rfl, .inr ⟨hclaiming, rfl⟩⟩

theorem abortTest_tells (s : State) (c : AbortCause) : s.TellsAtMost 2 (s.abortTest c) := by
  cases hstate : s.job.state with
  | idle =>
    rw [abortTest_nothing (.inl hstate)]
    exact tells_of_notices rfl
  | running =>
    rw [abortTest_ends c hstate]
    exact endTest_tells ..
  | claiming =>
    cases hgiven : s.job.givenUp with
    | none => exact tells_mono (abortTest_claimed hstate hgiven c).1
    | some d =>
      rw [abortTest_nothing (.inr ⟨hstate, by simp [hgiven]⟩)]
      exact tells_of_notices rfl

/-- An abort leaves nothing to abort. -/
theorem abortTest_done (s : State) (c : AbortCause) : (s.abortTest c).NothingToAbort := by
  cases hstate : s.job.state with
  | idle =>
    rw [abortTest_nothing (.inl hstate)]
    exact .inl hstate
  | running => exact .inl (abortTest_over s c hstate)
  | claiming =>
    cases hgiven : s.job.givenUp with
    | none => exact (abortTest_claimed hstate hgiven c).2.imp_right fun ⟨h, k⟩ => ⟨h, by simp [k]⟩
    | some d =>
      rw [abortTest_nothing (.inr ⟨hstate, by simp [hgiven]⟩)]
      exact .inr ⟨hstate, by simp [hgiven]⟩

/-! ### The evaluation of the margin state (R67, R68) -/

theorem marginStep_tells (s : State) : s.TellsAtMost 3 s.marginStep := by
  unfold State.marginStep
  simp only
  split
  · exact tells_of_notices rfl
  · have hnotice : ∀ k a b c d, s.TellsAtMost 1 ((s.figured.notify k a b c d).markStatus) := fun k a b c d =>
      notify_tells s.figured k a b c d
    split
    · exact tells_trans (hnotice ..) (abortTest_tells ..)
    · exact tells_mono (hnotice ..)

theorem evalMargin_tells (s : State) : s.TellsAtMost 6 s.evalMargin := by
  unfold State.evalMargin
  split
  · simp only
    split
    · exact tells_mono (marginStep_tells s)
    · exact tells_trans (marginStep_tells s) (marginStep_tells _)
  · exact tells_of_notices rfl

/-- Where there is nothing to abort the evaluation leaves the job and the records. -/
theorem evalMargin_nothing (hj : s.joined = true) (h : s.NothingToAbort) :
    s.evalMargin.job = s.job ∧ s.evalMargin.strings = s.strings := by
  by_cases hsame : s.marginNow = s.view.margin
  · rw [evalMargin_same hj hsame]
    exact ⟨rfl, rfl⟩
  · have hframe := (evalMargin_changed hj hsame).1
    have hmoved : s.marginMoved = s.marginTold := by
      unfold State.marginMoved
      rw [abortTest_nothing (s := s.marginTold) h, ite_self]
    rw [hmoved] at hframe
    exact ⟨hframe.kept .job (by decide), hframe.kept .strings (by decide)⟩

theorem finish_nothing (s0 : State) (hj : s.joined = true) (h : s.NothingToAbort) :
    (State.finish s0 s).job = s.job ∧ (State.finish s0 s).strings = s.strings := by
  have hafter := finish_afterEval s0 s
  obtain ⟨hjob, hstrings⟩ := evalMargin_nothing hj h
  exact ⟨(show (State.finish s0 s).job = _ from hafter.kept .job (by decide)).trans hjob,
    (finish_strings s0 s).trans hstrings⟩

/-! ### What an event and its end change -/

/-- `t` is `s` but for the pieces `e` and those of an event's end. -/
def State.Within (e : List Piece) (s t : State) : Prop := s.ChangesOnly (e ++ s.eventEnd) t

theorem within_of_frame {e f : List Piece} (h : s.ChangesOnly f t) (hf : f.all (e ++ endPieces).contains = true := by rfl) :
    s.Within e t := changesOnly_into h hf

/-- One part of an event after another: where no test is claimed or runs, none is after the first. -/
theorem within_trans {e : List Piece} (h : State.Within e s t) (k : State.Within e t u)
    (he : e.contains .job = false := by rfl) : s.Within e u := by
  have hends : t.eventEnd.all s.eventEnd.contains = true := by
    by_cases hidle : s.job.state = .idle
    · have hjob : t.job = s.job := h.kept .job (by
        rw [show s.eventEnd = endPieces from if_pos hidle]
        simpa [endPieces] using he)
      have ht : t.eventEnd = endPieces := if_pos (by rw [hjob]; exact hidle)
      rw [ht, show s.eventEnd = endPieces from if_pos hidle]
      rfl
    · rw [show s.eventEnd = endPieces ++ testPieces from if_neg hidle]
      obtain ht | ht := eventEnd_cases t <;> rw [ht] <;> rfl
  refine changesOnly_trans h ⟨fun p hp => k.kept p fun hpk => hp ?_⟩
  obtain hpe | hpend := List.mem_append.mp hpk
  · exact List.mem_append_left _ hpe
  · exact List.mem_append_right _ (by simpa using List.all_eq_true.mp hends p hpend)

theorem abortTest_within (s : State) (c : AbortCause) (e : List Piece) : s.Within e (s.abortTest c) := by
  by_cases hidle : s.job.state = .idle
  · rw [abortTest_idle s c hidle]
    exact changesOnly_refl ..
  · unfold State.Within
    rw [show s.eventEnd = endPieces ++ testPieces from if_neg hidle]
    exact ⟨fun p hp => (changesOnly_mono (abortTest_frame s c) (g := endPieces ++ testPieces) rfl).kept p fun h =>
      hp (List.mem_append_right _ h)⟩

theorem evalMargin_ofWithin (s : State) (e : List Piece) : s.Within e s.evalMargin :=
  ⟨fun p hp => (evalMargin_within s).kept p fun h => hp (List.mem_append_right _ h)⟩

theorem finish_within (s0 s : State) (e : List Piece) : s.Within e (State.finish s0 s) :=
  ⟨fun p hp => (finish_frame s0 s).kept p fun h => hp (List.mem_append_right _ h)⟩

/-! ### The notice of an expiry (R172, R173) -/

theorem lastCounterValue_known (s : State) : (∀ c, s.intake.lastCounter = some c → s.lastCounterValue.1 = half c)
    ∧ s.lastCounterValue.2.freeCount = s.freeCount + (if s.intake.lastCounter = none then 1 else 0) := by
  unfold State.lastCounterValue
  cases h : s.intake.lastCounter with
  | none => exact ⟨(by intro c hc; cases hc), rfl⟩
  | some c => exact ⟨fun d hd => by rw [Option.some.inj hd], rfl⟩

theorem sinceTakeIn_known (s : State) :
    (∀ m, s.intake.lastTakeMs = some m → s.sinceTakeIn.1 = half (min 65535 (s.now - m) : Nat))
    ∧ s.sinceTakeIn.2.freeCount = s.freeCount + (if s.intake.lastTakeMs = none then 1 else 0) := by
  unfold State.sinceTakeIn
  cases h : s.intake.lastTakeMs with
  | none => exact ⟨(by intro m hm; cases hm), rfl⟩
  | some m => exact ⟨fun d hd => by rw [Option.some.inj hd], rfl⟩

/-- The part of `t` that an expiry of the watchdog of `s` into `stage` reports, given the notices that stand. -/
def State.ReportsStage (s : State) (k : NoticeKind) (stage : DogStage) (t : State) : Prop := ∃ counter since : Half,
  (∀ c, s.intake.lastCounter = some c → counter = half c)
  ∧ (∀ m, s.intake.lastTakeMs = some m → since = half (min 65535 (s.now - m) : Nat))
  ∧ (s.host.notices.length ≤ 16 →
      ⟨k, half 0, half stage.code, counter, since, BitVec.ofNat 32 s.now⟩ ∈ t.host.notices)
  ∧ t.freeCount = s.freeCount + (if s.intake.lastCounter = none then 1 else 0)
    + (if s.intake.lastTakeMs = none then 1 else 0)

/-- The end of an event whose last act was the notice of an expiry. -/
theorem dogNotice_reports (s0 : State) (hj : u.joined = true) (hus : u.us = s.us) (hfree : u.freeCount = s.freeCount)
    (hcounter : u.intake.lastCounter = s.intake.lastCounter) (htake : u.intake.lastTakeMs = s.intake.lastTakeMs)
    (htold : State.TellsAtMost 8 s u) (k : NoticeKind) :
    s.ReportsStage k u.dog.stage (State.finish s0 (u.dogNotice k)) := by
  obtain ⟨hcounterValue, hcounterDraw⟩ := lastCounterValue_known u
  obtain ⟨hsinceValue, hsinceDraw⟩ := sinceTakeIn_known u.lastCounterValue.2
  have hdraw1 : u.ChangesOnly [.freeCount] u.lastCounterValue.2 := moves_frame (lastCounterValue_moves (g := .all) u)
  have hdraw : u.ChangesOnly [.freeCount] u.lastCounterValue.2.sinceTakeIn.2 :=
    changesOnly_trans hdraw1 (moves_frame (sinceTakeIn_moves (g := .all) _))
  have hintake : u.lastCounterValue.2.intake = u.intake := hdraw1.kept .intake (by decide)
  have hnow : u.lastCounterValue.2.now = s.now := by
    simp only [State.now, show u.lastCounterValue.2.us = u.us from hdraw1.kept .clock (by decide), hus]
  have hjoined : u.lastCounterValue.2.sinceTakeIn.2.joined = true := (joined_of_frame hdraw).trans hj
  have hnow2 : u.lastCounterValue.2.sinceTakeIn.2.now = s.now := by
    simp only [State.now, show u.lastCounterValue.2.sinceTakeIn.2.us = u.us from hdraw.kept .clock (by decide), hus]
  have hhost : u.lastCounterValue.2.sinceTakeIn.2.host = u.host := host_of_frame hdraw
  have hnotice : (u.dogNotice k).host = u.host.join ⟨k, half 0, half u.dog.stage.code, u.lastCounterValue.1,
      u.lastCounterValue.2.sinceTakeIn.1, BitVec.ofNat 32 s.now⟩ := by
    unfold State.dogNotice State.raise
    simp only [hjoined, if_true, hnow2]
    exact congrArg (fun h : HostPort => h.join _) hhost
  have hfinishFree : (State.finish s0 (u.dogNotice k)).freeCount = (u.dogNotice k).freeCount :=
    (finish_leaves s0 _).kept .freeCount (by decide)
  have hraiseFree : (u.dogNotice k).freeCount = u.lastCounterValue.2.sinceTakeIn.2.freeCount :=
    (raise_frame ..).kept .freeCount (by decide)
  rw [hintake, htake, hnow] at hsinceValue
  rw [hcounter] at hcounterValue
  refine ⟨u.lastCounterValue.1, u.lastCounterValue.2.sinceTakeIn.1, hcounterValue, hsinceValue, fun hroom => ?_, ?_⟩
  · refine (finish_abides s0 _).notices.subset ?_
    have hlt : u.host.notices.length < 32 := by
      have htold : u.host.notices.length ≤ s.host.notices.length + 8 := htold
      omega
    rw [hnotice, HostPort.join, if_pos hlt]
    exact List.mem_append_right _ (List.mem_singleton_self _)
  · rw [hfinishFree, hraiseFree, hsinceDraw, hcounterDraw, hintake, hcounter, htake, hfree]

/-! ### HOST_STALE (R172) -/

/-- `l'` records the test of `l` with the verdict `v`. -/
structure LastTest.Closes (l l' : LastTest) (v : Verdict) : Prop where
  verdict : l'.verdict = some v
  delivered : l'.delivered = l.delivered
  startMs : l'.startMs = l.startMs
  socStart : l'.socStart = l.socStart
  target : l'.target = l.target
  limitMin : l'.limitMin = l.limitMin

/-- The record of the test that a verdict ends, and the state of its string. -/
theorem verdictGiven_last {x : StringRec} {l : LastTest} (hl : x.lastTest = some l) (p : StringParams) (silent : Bool)
    (v : Verdict) (now : Nat) : ∃ l', (x.verdictGiven p silent v now).lastTest = some l' ∧ l.Closes l' v
      ∧ (x.verdictGiven p silent v now).state = .inService := by
  by_cases hfail : v = .failVoltage
  · subst hfail
    rw [verdictGiven_failVoltage hl]
    exact ⟨_, rfl, ⟨rfl, rfl, rfl, rfl, rfl, rfl⟩, rfl⟩
  by_cases hpass : v = .pass ∧ x.testCap ≠ none
  · obtain ⟨rfl, hcap⟩ := hpass
    rw [verdictGiven_pass hl p silent now hcap]
    exact ⟨_, rfl, ⟨rfl, rfl, rfl, rfl, rfl, rfl⟩, rfl⟩
  · rw [verdictGiven_other hl p silent now hfail hpass]
    exact ⟨_, rfl, ⟨rfl, rfl, rfl, rfl, rfl, rfl⟩, rfl⟩

/-- `s` in HOST_STALE, its energy off the floor, before a test is ended. -/
def State.staled (s : State) : State := { s with
  dog := ⟨.hostStale, some (s.now + s.cfg.hostTimeout)⟩
  strings := s.strings.map (fun x => { x with eAvail := 0 })
  intake := { s.intake with baselineNext := true } }

theorem formAvail_silent (x : StringRec) : x.formAvail true = { x with eAvail := 0 } := by
  simp [StringRec.formAvail, availOf]

theorem goStale_eq (s : State) : s.goStale = ((s.staled.abortTest .stale).evalMargin).dogNotice .hostStale := by
  have hstaled : ((s.withDog ⟨.hostStale, some (s.now + s.cfg.hostTimeout)⟩).formAllAvail).onIntake
      (fun i => { i with baselineNext := true }) = s.staled := by
    show { s.staled with strings := s.strings.map (StringRec.formAvail true) } = _
    rw [show StringRec.formAvail true = (fun x => { x with eAvail := 0 }) from funext formAvail_silent]
    rfl
  unfold State.goStale
  simp only [hstaled]

theorem staled_frame (s : State) : s.ChangesOnly [.strings, .intake, .watchdog] s.staled := by
  constructor; intro p hp; cases p <;> simp_all [Piece.kept, State.staled]

/-- No string of a machine that does not hear its host reports energy. -/
theorem formed_silent {x : StringRec} (h : x.Formed true) : x.eAvail = 0 := by
  simpa [StringRec.Formed, availOf] using h

theorem staled_formed (s : State) (n : Nat) : s.staled.FormedBelow n := fun k x _ hx => by
  have hmap : (s.strings.map (fun x => { x with eAvail := 0 } : StringRec → StringRec))[k]? = some x := hx
  rw [List.getElem?_map] at hmap
  obtain ⟨y, -, rfl⟩ := Option.map_eq_some_iff.mp hmap
  show (0 : Nat) = availOf true _
  simp [availOf]

/-- What HOST_STALE leaves of the records: none of them reports energy. -/
theorem goStale_avail (s0 s : State) : ∀ x ∈ (State.finish s0 s.goStale).strings, x.eAvail = 0 := by
  have hmoves : Moves ⟨true, true, false⟩ (.freeCount :: finishPieces) s.staled (State.finish s0 s.goStale) := by
    rw [goStale_eq]
    refine moves_then (f := .freeCount :: finishPieces) ?_ (finish_moves ..) rfl rfl
    refine moves_then (f := .freeCount :: finishPieces) ?_ (dogNotice_moves ..) rfl rfl
    exact moves_then (abortTest_moves ..) (evalMargin_moves _) rfl rfl
  have hformed := moves_formed hmoves (by decide) (.inl rfl) (staled_formed s (State.finish s0 s.goStale).strings.length)
  intro x hx
  obtain ⟨k, hk⟩ := List.mem_iff_getElem?.mp hx
  have hx := hformed k x (List.getElem?_eq_some_iff.mp hk).1 hk
  rw [moves_silent hmoves (by decide)] at hx
  exact formed_silent hx

section
variable (hj : s.joined = true)
include hj

/-- After the abort the event leaves the job and the records. -/
theorem goStale_settled (s0 : State) : (State.finish s0 s.goStale).job = (s.staled.abortTest .stale).job
    ∧ (State.finish s0 s.goStale).strings = (s.staled.abortTest .stale).strings := by
  have hdone := abortTest_done s.staled .stale
  have hjoined : (s.staled.abortTest .stale).joined = true := (joined_of_frame (abortTest_frame ..)).trans hj
  obtain ⟨hjob, hstrings⟩ := evalMargin_nothing hjoined hdone
  have hnotice := moves_frame (dogNotice_moves (g := .all) (s.staled.abortTest .stale).evalMargin .hostStale)
  have hnoticeJob : ((s.staled.abortTest .stale).evalMargin.dogNotice .hostStale).job = _ := hnotice.kept .job (by decide)
  have hnothing : ((s.staled.abortTest .stale).evalMargin.dogNotice .hostStale).NothingToAbort := by
    unfold State.NothingToAbort
    rw [hnoticeJob, hjob]
    exact hdone
  have hjoined' : ((s.staled.abortTest .stale).evalMargin.dogNotice .hostStale).joined = true :=
    (joined_of_frame hnotice).trans ((joined_of_frame (evalMargin_frame _)).trans hjoined)
  obtain ⟨hendJob, hendStrings⟩ := finish_nothing s0 hjoined' hnothing
  rw [goStale_eq]
  exact ⟨hendJob.trans (hnoticeJob.trans hjob), hendStrings.trans ((strings_of_frame hnotice).trans hstrings)⟩

theorem goStale_endsTest (s0 : State) {x : StringRec} {l : LastTest} (hrun : s.job.state = .running)
    (hx : s.strings[s.job.k]? = some x) (hl : x.lastTest = some l) : (State.finish s0 s.goStale).job.state = .idle
    ∧ ∃ y l', (State.finish s0 s.goStale).strings[s.job.k]? = some y ∧ y.lastTest = some l'
      ∧ l'.verdict = some .abortedStale ∧ y.state = .inService := by
  obtain ⟨hjob, hstrings⟩ := goStale_settled hj s0
  have hx' : s.staled.strings[s.job.k]? = some { x with eAvail := 0 } := by
    show (s.strings.map _)[s.job.k]? = _
    rw [List.getElem?_map, hx]
    rfl
  rw [hjob, hstrings]
  refine ⟨abortTest_over s.staled .stale hrun, ?_⟩
  rw [abortTest_ends (s := s.staled) .stale hrun, endTest_strings hx' _ hj]
  obtain ⟨l', hlast, hcloses, hservice⟩ := verdictGiven_last (x := { x with eAvail := 0 }) hl (s.staled.params s.job.k) s.staled.hostSilent
    .abortedStale s.staled.now
  exact ⟨_, _, List.getElem?_set_self (List.getElem?_eq_some_iff.mp hx').1, hlast, hcloses.verdict, hservice⟩

end

/-! ### UNSUPERVISED (R173) -/

/-- `s` in UNSUPERVISED, its line asserted. -/
def State.unheard (s : State) : State := { s with
  dog := ⟨.unsupervised, none⟩
  outs := { s.outs with unsupervised := true } }

theorem goUnsupervised_eq (s : State) : s.goUnsupervised = s.unheard.evalMargin.dogNotice .unsupervised := rfl

theorem unheard_frame (s : State) : s.ChangesOnly [.unsupervisedLine, .watchdog] s.unheard := by
  constructor; intro p hp; cases p <;> simp_all [Piece.kept, State.unheard]

/-- What the expiry into HOST_STALE leaves when its event has ended. -/
theorem goStale_ends (hj : s.joined = true) (s0 : State) :
    (State.finish s0 s.goStale).dog = ⟨.hostStale, some (s.now + s.cfg.hostTimeout)⟩
    ∧ (State.finish s0 s.goStale).intake = { s.intake with baselineNext := true }
    ∧ s.ReportsStage .hostStale .hostStale (State.finish s0 s.goStale)
    ∧ s.Within [.freeCount, .strings, .intake, .watchdog] (State.finish s0 s.goStale) := by
  have hafter : s.staled.ChangesOnly (.freeCount :: (endPieces ++ testPieces)) (State.finish s0 s.goStale) := by
    rw [goStale_eq]
    exact changesOnly_then (changesOnly_then (changesOnly_then (abortTest_frame ..) (evalMargin_frame _)
      (e := endPieces ++ testPieces) rfl rfl) (moves_frame (dogNotice_moves (g := .all) ..))
      (e := .freeCount :: (endPieces ++ testPieces)) rfl rfl) (finish_leaves ..) rfl rfl
  have hbefore : s.staled.ChangesOnly (endPieces ++ testPieces) (s.staled.abortTest .stale).evalMargin :=
    changesOnly_then (abortTest_frame ..) (evalMargin_frame _) rfl rfl
  have hjoined : (s.staled.abortTest .stale).evalMargin.joined = true := (joined_of_frame hbefore).trans hj
  have hdog : (s.staled.abortTest .stale).evalMargin.dog = s.staled.dog := hbefore.kept .watchdog (by decide)
  have hintake : (s.staled.abortTest .stale).evalMargin.intake = s.staled.intake := hbefore.kept .intake (by decide)
  refine ⟨hafter.kept .watchdog (by decide), hafter.kept .intake (by decide), ?_, ?_⟩
  · have hreports := dogNotice_reports (s := s) s0 hjoined (hbefore.kept .clock (by decide))
      (hbefore.kept .freeCount (by decide)) (by rw [hintake]; rfl) (by rw [hintake]; rfl)
      (tells_trans (abortTest_tells s.staled .stale) (evalMargin_tells _)) .hostStale
    rw [hdog] at hreports
    rw [goStale_eq]
    exact hreports
  · rw [goStale_eq]
    exact within_trans (within_trans (within_trans (within_of_frame (staled_frame s)) (within_trans (abortTest_within ..)
      (evalMargin_ofWithin ..))) (within_of_frame (moves_frame (dogNotice_moves (g := .all) ..)))) (finish_within ..)

/-- The records of a machine with no test, and the job of one whose test is being claimed. -/
theorem goStale_idle (hj : s.joined = true) (s0 : State) (hidle : s.job.state = .idle) :
    (State.finish s0 s.goStale).strings = s.strings.map (fun x => { x with eAvail := 0 }) := by
  rw [(goStale_settled hj s0).2, abortTest_idle s.staled _ hidle]
  rfl

theorem goStale_claiming (hj : s.joined = true) (s0 : State) (hclaiming : s.job.state = .claiming)
    (hgiven : s.job.givenUp = none) : (State.finish s0 s.goStale).job.state = .idle
    ∨ (State.finish s0 s.goStale).job.state = .claiming ∧ (State.finish s0 s.goStale).job.givenUp = some .stale := by
  rw [(goStale_settled hj s0).1]
  exact (abortTest_claimed (s := s.staled) hclaiming hgiven .stale).2

/-- What the expiry into UNSUPERVISED leaves when its event has ended. -/
theorem goUnsupervised_ends (hj : s.joined = true) (s0 : State) :
    (State.finish s0 s.goUnsupervised).dog = ⟨.unsupervised, none⟩
    ∧ (State.finish s0 s.goUnsupervised).outs.unsupervised = true
    ∧ s.ReportsStage .unsupervised .unsupervised (State.finish s0 s.goUnsupervised)
    ∧ s.Within [.freeCount, .unsupervisedLine, .watchdog] (State.finish s0 s.goUnsupervised) := by
  have heval := evalMargin_frame s.unheard
  have hafter : s.unheard.ChangesOnly (.freeCount :: (endPieces ++ testPieces)) (State.finish s0 s.goUnsupervised) := by
    rw [goUnsupervised_eq]
    exact changesOnly_then (changesOnly_then heval (moves_frame (dogNotice_moves (g := .all) ..))
      (e := .freeCount :: (endPieces ++ testPieces)) rfl rfl) (finish_leaves ..) rfl rfl
  have hdog : s.unheard.evalMargin.dog = s.unheard.dog := heval.kept .watchdog (by decide)
  have hintake : s.unheard.evalMargin.intake = s.intake := heval.kept .intake (by decide)
  refine ⟨hafter.kept .watchdog (by decide), hafter.kept .unsupervisedLine (by decide), ?_, ?_⟩
  · have hreports := dogNotice_reports (s := s) s0 ((joined_of_frame heval).trans hj) (heval.kept .clock (by decide))
      (heval.kept .freeCount (by decide)) (by rw [hintake]) (by rw [hintake])
      (tells_mono (evalMargin_tells s.unheard)) .unsupervised
    rw [hdog] at hreports
    exact hreports
  · rw [goUnsupervised_eq]
    exact within_trans (within_trans (within_trans (within_of_frame (unheard_frame s)) (evalMargin_ofWithin ..))
      (within_of_frame (moves_frame (dogNotice_moves (g := .all) ..)))) (finish_within ..)

/-- Settles O27: an expiry moves the watchdog, ends what it must, evaluates, and then raises its notice. -/
theorem watchdogStages : Obligations.WatchdogStages := by
  intro s hr hstate hdue reports
  have hj := joined_of_state hstate
  obtain ⟨d, hd, hle⟩ := hdue
  have hexpired : s.isDue s.dog.expiresAt = true := by simpa [State.isDue, hd] using hle
  have hevent : ∀ {f : List Piece} {t : State}, (s.withStatusDue false).ChangesOnly f t → s.ChangesOnly f t := fun h =>
    changesOnly_trans (changesOnly_mono (withStatusDue_frame s false) rfl) h
  refine ⟨fun hstage => ?_, fun hstage => ?_⟩
  · obtain ⟨hdog, hintake, hreports, hwithin⟩ := goStale_ends (s := s.withStatusDue false) hj (s.withStatusDue false)
    exact ⟨_, event_ends hr (by simp [hj, hstage, hexpired]) rfl, hdog, hintake, goStale_avail _ _,
      goStale_idle (s := s.withStatusDue false) hj _, fun x l => goStale_endsTest (s := s.withStatusDue false) hj _,
      goStale_claiming (s := s.withStatusDue false) hj _, hreports, hevent hwithin⟩
  · obtain ⟨hdog, hline, hreports, hwithin⟩ := goUnsupervised_ends (s := s.withStatusDue false) hj (s.withStatusDue false)
    exact ⟨_, event_ends hr (by simp [hj, hstage, hexpired]) rfl, hdog, hline, hreports,
      hevent hwithin⟩

end Sys2Proof.Machine

/-! PROOFS. A baseline take-in and the delivered charge of a test (section 2.3). -/

namespace Sys2Proof.Machine

-- One proof after another: side by side they ask for more thread stacks than there is memory for.
set_option Elab.async false

/-- A machine whose test has a delivered charge one past the 32 bits of its record, and whose next take-in, of the frame
that stands READY in buffer 0, is a baseline. -/
def State.overDelivered : State := { State.reset with
  startup := { State.reset.startup with state := .joined }
  strings := [{ StringRec.blank with state := .test, lastTest := some ⟨0, 0, 0, 0, 4294967296, none, none, none⟩ }]
  job := { TestJob.blank with state := .running }
  dog := ⟨.watching, none⟩
  intake := { State.reset.intake with
    buffers := [⟨.ready, List.replicate 40 0#8⟩, ⟨.free, []⟩, ⟨.free, []⟩]
    baselineNext := true } }

/-- What the take-in of that frame leaves of the delivered charge of string 0: a baseline counts nothing, and nothing is
clamped. -/
theorem overDelivered_takesIn {t : State} (h : exec .measTakeIn State.overDelivered = .next t) :
    ∀ y ∈ t.strings[0]?, ∀ l ∈ y.lastTest, l.delivered = 4294967296 := by
  have hrun : ((match exec .measTakeIn State.overDelivered with
      | .next u => u.strings[0]?.all (fun y => y.lastTest.all (fun l => l.delivered == 4294967296))
      | _ => false) : Bool) = true := by decide +kernel
  rw [h] at hrun
  replace hrun : t.strings[0]?.all (fun y => y.lastTest.all (fun l => l.delivered == 4294967296)) = true := hrun
  intro y hy l hl
  rw [Option.mem_def.mp hy] at hrun
  simpa [Option.mem_def.mp hl] using hrun

/-- Refutes O25: the statement clamps the delivered charge at a baseline take-in too, where the model leaves it as it is,
and it takes a record whose delivered charge lies past its 32 bits. -/
theorem not_testAtTakeIn : ¬ Obligations.TestAtTakeIn := by
  intro h
  obtain ⟨t, hexec, y, l, hy, hl, hdelivered, -⟩ := h 0 State.overDelivered _ _ (by decide) rfl (by decide) (by decide)
    rfl rfl rfl (by decide) (by decide) (by decide) (by decide) (by decide)
  have hkept := overDelivered_takesIn hexec y hy l hl
  have hclamped : l.delivered ≤ 4294967295 := hdelivered ▸ Nat.min_le_left _ _
  omega

end Sys2Proof.Machine

/-! PROOFS. The take-in of the strings from JOIN onward: what it makes of the records, the holds, the test and the notices
(sections 1.3, 2.1 and 8.2). -/

namespace Sys2Proof.Machine

-- One proof after another: side by side they ask for more thread stacks than there is memory for.
set_option Elab.async false

variable {s t u : State} {j k n : Nat} {x : StringRec} {f : MeasFrame} {base : Bool} {dt : Nat}

/-! ### The capture of one string (R31 to R34) -/

theorem capturable_iff (x : StringState) : x.capturable = true ↔ x ≠ .isolated := by cases x <;> simp [StringState.capturable]

theorem classNotice_same {y : StringRec} (h : y.cls = x.cls) : s.classNotice k x y = [] := if_pos h.symm

/-- The capture of a string with the notice of a change of its class. -/
theorem tryCapture_eq (hj : s.joined = true) (hx : s.strings[k]? = some x) (h : Handed) :
    let y := x.captured (s.params k) s.hostSilent h
    s.tryCapture k h = (s.withStrings (s.strings.set k y)).withHost (s.host.joinAll (s.classNotice k x y)) := by
  have hk := (List.getElem?_eq_some_iff.mp hx).1
  have hsame : s.strings = s.strings.set k x := by
    obtain ⟨hlt, rfl⟩ := List.getElem?_eq_some_iff.mp hx
    exact (List.set_getElem_self hlt).symm
  have hnothing : s = (s.withStrings (s.strings.set k x)).withHost (s.host.joinAll (s.classNotice k x x)) := by
    rw [← hsame, classNotice_same rfl]
    rfl
  intro y
  cases hb : x.baseline with
  | none =>
    have hy : y = x := by simp only [y, StringRec.captured, hb]
    rw [hy]
    simp only [State.tryCapture, hx, hb]
    exact hnothing
  | some b =>
    simp only [State.tryCapture, hx, hb]
    have hcond : (h.valid && b.valid && x.state.capturable && b.state.capturable
        && Nat.ble (s.params k).stepThreshold (h.current - b.current).natAbs) = true
        ↔ h.valid = true ∧ b.valid = true ∧ x.state ≠ .isolated ∧ b.state ≠ .isolated
          ∧ (s.params k).stepThreshold ≤ (h.current - b.current).natAbs := by
      simp only [Bool.and_eq_true, capturable_iff, Nat.ble_eq, and_assoc]
    by_cases hattempt : h.valid = true ∧ b.valid = true ∧ x.state ≠ .isolated ∧ b.state ≠ .isolated
        ∧ (s.params k).stepThreshold ≤ (h.current - b.current).natAbs
    · rw [if_pos (hcond.mpr hattempt)]
      by_cases hok : captureOk b.voltage h.voltage b.current h.current = true
      · have hy : y = (x.accept (resistance b.voltage h.voltage b.current h.current).toNat).recompute (s.params k)
            s.hostSilent := by
          simp only [y, StringRec.captured, hb, if_pos hattempt, if_pos hok]
        have haccepted : (s.withStrings (s.strings.set k
            (x.accept (resistance b.voltage h.voltage b.current h.current).toNat))).strings[k]? = some
            (x.accept (resistance b.voltage h.voltage b.current h.current).toNat) := List.getElem?_set_self hk
        rw [if_pos hok, onString_eq hx, recompute_eq (by exact hj) haccepted, hy]
        simp only [withStrings_strings, List.set_set]
        rfl
      · have hy : y = { x with captureRejects := satAdd 16 x.captureRejects 1 } := by
          simp only [y, StringRec.captured, hb, if_pos hattempt, if_neg hok]
        rw [if_neg hok, onString_eq hx, classNotice_same (by rw [hy]), hy]
        rfl
    · have hy : y = x := by simp only [y, StringRec.captured, hb, if_neg hattempt]
      rw [if_neg (mt hcond.mp hattempt), hy]
      exact hnothing

/-! ### A string that is not under test (R35) -/

/-- String `k` is not under test. -/
def State.Spared (s : State) (k : Nat) : Prop := ¬ (s.job.state = .running ∧ s.job.k = k)

theorem spared_running (h : s.Spared k) : (s.job.state == .running && s.job.k == k) = false := by
  by_contra hrun
  simp only [Bool.not_eq_false, Bool.and_eq_true, beq_iff_eq] at hrun
  exact h hrun

theorem testEndCheck_spared (h : s.Spared k) (g : Handed) : s.testEndCheck k g = s := if_neg h

theorem counted_cls (p : StringParams) (base running : Bool) (dt : Nat) (h : Hold) (y : Sample) (x : StringRec) :
    (x.counted p base running dt h y).cls = x.cls := by
  have hflags := takeFlags_cls h y x
  unfold StringRec.counted StringRec.countIn
  cases base with
  | true => exact (takeTemp_cls ..).trans hflags
  | false =>
    simp only [Bool.false_eq_true, if_false]
    rw [takeTemp_cls]
    have hcount : ((x.takeFlags h y).count p false (handedOf h y).current dt).cls = x.cls := by
      rw [count_eq, StringRec.formEnergy]
      exact (countRun_cls ..).trans hflags
    split
    · exact hcount
    · exact hcount

/-- The take-in of a string that is not under test changes its hold and its record alone, and tells of its class. -/
theorem takeString_spared (hj : s.joined = true) (hquiet : s.hostSilent = false) (hspared : s.Spared k)
    (hx : s.strings[k]? = some x) : s.takeString f base dt k
      = s.sampled f k x (x.takenIn (s.params k) base dt (s.heldAfter f k) (f.sample k)) := by
  have hk := (List.getElem?_eq_some_iff.mp hx).1
  obtain ⟨y, hy⟩ : ∃ y, y = x.counted (s.params k) base false dt (s.heldAfter f k) (f.sample k) := ⟨_, rfl⟩
  have hcls : y.cls = x.cls := hy ▸ counted_cls ..
  have hcounted : (s.onIntake (fun i => { i with holds := i.holds.set k (s.heldAfter f k) })).onString k
      (StringRec.counted (s.params k) base (s.job.state == .running && s.job.k == k) dt (s.heldAfter f k) (f.sample k))
      = (s.onIntake (fun i => { i with holds := i.holds.set k (s.heldAfter f k) })).withStrings (s.strings.set k y) := by
    rw [onString_onIntake s _ hx, spared_running hspared, hy]
  have htaken : s.takeString f base dt k = ((s.onIntake (fun i => { i with
      holds := i.holds.set k (s.heldAfter f k) })).withStrings (s.strings.set k y)).afterCount base k
        (handedOf (s.heldAfter f k) (f.sample k)) := by
    rw [takeString_joined hj]
    exact congrArg (fun v : State => v.afterCount base k (handedOf (s.heldAfter f k) (f.sample k))) hcounted
  have hy' : ((s.onIntake (fun i => { i with holds := i.holds.set k (s.heldAfter f k) })).withStrings
      (s.strings.set k y)).strings[k]? = some y := List.getElem?_set_self hk
  rw [htaken, State.afterCount]
  cases base with
  | true =>
    have hnotice : s.classNotice k x (x.takenIn (s.params k) true dt (s.heldAfter f k) (f.sample k)) = [] :=
      classNotice_same (by rw [hy] at hcls; exact hcls)
    rw [if_pos rfl, testEndCheck_spared (by exact hspared), onString_eq hy', State.sampled, hnotice]
    simp only [withStrings_strings, List.set_set, hy]
    rfl
  | false =>
    have hcapture := tryCapture_eq (s := (s.onIntake (fun i => { i with holds := i.holds.set k (s.heldAfter f k) })).withStrings
      (s.strings.set k y)) hj hy' (handedOf (s.heldAfter f k) (f.sample k))
    have hcaptured : ((s.strings.set k y).set k (y.captured (s.params k) s.hostSilent
        (handedOf (s.heldAfter f k) (f.sample k))))[k]? = some (y.captured (s.params k) s.hostSilent
        (handedOf (s.heldAfter f k) (f.sample k))) := List.getElem?_set_self (by simpa using hk)
    have hnotice : ∀ z : StringRec, s.classNotice k y z = s.classNotice k x z := fun z => by
      simp only [State.classNotice, hcls]
    rw [if_neg Bool.false_ne_true, hcapture, testEndCheck_spared (by exact hspared)]
    refine (onString_eq (by exact hcaptured) _).trans ?_
    simp only [withHost_strings, withStrings_strings, List.set_set]
    have htakenIn : x.takenIn (s.params k) false dt (s.heldAfter f k) (f.sample k)
        = (y.captured (s.params k) s.hostSilent (handedOf (s.heldAfter f k) (f.sample k))).setBaseline
          (handedOf (s.heldAfter f k) (f.sample k)) := by
      rw [hquiet, hy]
      rfl
    rw [State.sampled, htakenIn, ← hnotice]
    rfl

/-! ### What the take-in of any string leaves -/

theorem tryCapture_others (s : State) (hk : j ≠ k) (h : Handed) : (s.tryCapture j h).strings[k]? = s.strings[k]? := by
  unfold State.tryCapture
  split
  · split
    · split
      · split
        · rw [recompute_others _ hk, onString_others s hk]
        · exact onString_others s hk _
      · rfl
    · rfl
  · rfl

/-- The end check of string `j` ends the test that runs on it, or does nothing. -/
theorem testEndCheck_cases (s : State) (j : Nat) (h : Handed) :
    s.testEndCheck j h = s ∨ s.job.state = .running ∧ s.job.k = j ∧ ∃ v, s.testEndCheck j h = s.endTest v := by
  unfold State.testEndCheck
  split
  · rename_i htest
    obtain ⟨hrun, hj⟩ := htest
    split
    · split
      · exact .inr ⟨hrun, hj, _, rfl⟩
      · split
        · exact .inr ⟨hrun, hj, _, rfl⟩
        · exact .inl rfl
    · exact .inl rfl
  · exact .inl rfl

/-- The take-in of string `j` up to the end check: its hold, its record, and a capture. -/
def State.measured (s : State) (f : MeasFrame) (base : Bool) (dt j : Nat) : State :=
  let g := handedOf (s.heldAfter f j) (f.sample j)
  let u := (s.onIntake (fun i => { i with holds := i.holds.set j (s.heldAfter f j) })).onString j
    (StringRec.counted (s.params j) base (s.job.state == .running && s.job.k == j) dt (s.heldAfter f j) (f.sample j))
  if base then u else u.tryCapture j g

theorem takeString_measured (hj : s.joined = true) : s.takeString f base dt j
    = ((s.measured f base dt j).testEndCheck j (handedOf (s.heldAfter f j) (f.sample j))).onString j
      (StringRec.setBaseline (handedOf (s.heldAfter f j) (f.sample j))) := takeString_joined hj f base dt j

theorem measured_frame (s : State) (f : MeasFrame) (base : Bool) (dt j : Nat) :
    s.ChangesOnly [.intake, .strings, .notices] (s.measured f base dt j) := by
  have hcounted : s.ChangesOnly [.intake, .strings] ((s.onIntake (fun i => { i with
      holds := i.holds.set j (s.heldAfter f j) })).onString j (StringRec.counted (s.params j) base
      (s.job.state == .running && s.job.k == j) dt (s.heldAfter f j) (f.sample j))) :=
    changesOnly_then (moves_frame (onIntake_moves (g := .all) ..)) (onString_frame ..) rfl rfl
  unfold State.measured
  simp only
  split
  · exact changesOnly_mono hcounted rfl
  · exact changesOnly_then hcounted (moves_frame (tryCapture_moves (g := .all) ..)) rfl rfl

theorem measured_intake (s : State) (f : MeasFrame) (base : Bool) (dt j : Nat) :
    (s.measured f base dt j).intake = { s.intake with holds := s.intake.holds.set j (s.heldAfter f j) } := by
  unfold State.measured
  simp only
  split
  · rfl
  · exact (moves_frame (tryCapture_moves (g := .all) ..)).kept .intake (by decide)

theorem measured_others (s : State) (hk : j ≠ k) : (s.measured f base dt j).strings[k]? = s.strings[k]? := by
  unfold State.measured
  simp only
  split
  · exact onString_others _ hk _
  · rw [tryCapture_others _ hk]
    exact onString_others _ hk _

/-- What the take-in of string `j` leaves besides that string: every other record, the job or no test, and what the
holds are. -/
structure State.TakesOne (s t : State) (f : MeasFrame) (j : Nat) : Prop where
  others : ∀ k, j ≠ k → t.strings[k]? = s.strings[k]?
  job : t.job = s.job ∨ t.job.state = .idle
  intake : t.intake = { s.intake with holds := s.intake.holds.set j (s.heldAfter f j) }
  within : State.Within [.intake, .strings] s t

theorem takeString_takesOne (hj : s.joined = true) (f : MeasFrame) (base : Bool) (dt j : Nat) :
    s.TakesOne (s.takeString f base dt j) f j := by
  have hmeasured := measured_frame s f base dt j
  have hjob : (s.measured f base dt j).job = s.job := hmeasured.kept .job (by decide)
  have hset : ∀ v : State, v.ChangesOnly [.strings] (v.onString j (StringRec.setBaseline
      (handedOf (s.heldAfter f j) (f.sample j)))) := fun v => onString_frame ..
  rw [takeString_measured hj]
  obtain hcheck | ⟨hrun, hk, v, hcheck⟩ := testEndCheck_cases (s.measured f base dt j) j
    (handedOf (s.heldAfter f j) (f.sample j))
  · rw [hcheck]
    exact ⟨fun k hk => (onString_others _ hk _).trans (measured_others s hk), .inl hjob, measured_intake ..,
      within_of_frame (f := [.intake, .strings, .notices]) (changesOnly_then hmeasured (hset _) rfl rfl)⟩
  · rw [hcheck]
    have hended := endTest_frame (s.measured f base dt j) v
    refine ⟨fun k hjk => ?_, .inr ?_, ?_, ?_⟩
    · rw [onString_others _ hjk, endTest_others _ (by rw [hk]; exact hjk), measured_others s hjk]
    · show ((s.measured f base dt j).endTest v).job.state = .idle
      rw [(endTest_job _ v).1]
      rfl
    · exact (show ((s.measured f base dt j).endTest v).intake = _ from hended.kept .intake (by decide)).trans
        (measured_intake ..)
    · have hevent : s.eventEnd = endPieces ++ testPieces := if_neg (by rw [← hjob, hrun]; decide)
      unfold State.Within
      rw [hevent]
      exact changesOnly_then (changesOnly_then hmeasured hended
        (e := [.intake, .strings] ++ (endPieces ++ testPieces)) rfl rfl) (hset _) rfl rfl

theorem spared_of_job (h : s.Spared k) (hjob : t.job = s.job ∨ t.job.state = .idle) : t.Spared k := by
  rintro ⟨hrun, hk⟩
  obtain hsame | hidle := hjob
  · rw [hsame] at hrun hk
    exact h ⟨hrun, hk⟩
  · rw [hidle] at hrun
    cases hrun

/-! ### The take-in of the strings below `n` -/

/-- `t` is `s` after the take-in of the strings below `n`. -/
structure State.TakesBelow (s t : State) (f : MeasFrame) (base : Bool) (dt n : Nat) : Prop where
  heard : t.Heard
  job : t.job = s.job ∨ t.job.state = .idle
  intake : t.intake = { s.intake with holds := s.holdsFrom f 0 n }
  within : State.Within [.intake, .strings] s t
  above : ∀ k, n ≤ k → t.strings[k]? = s.strings[k]?
  taken : ∀ k x, k < n → s.Spared k → s.strings[k]? = some x →
    t.strings[k]? = some (x.takenIn (s.params k) base dt (s.heldAfter f k) (f.sample k))

theorem within_refl (e : List Piece) (s : State) : s.Within e s := changesOnly_refl ..

theorem heard_of_within (h : State.Within [.intake, .strings] s t) (hs : s.Heard) : t.Heard := by
  have kept : ∀ p, p ∉ [Piece.intake, .strings] ++ (endPieces ++ testPieces) → p.kept s t := fun p hp => h.kept p fun hin =>
    hp (by obtain he | he := eventEnd_cases s <;> rw [he] at hin <;> simp at hin ⊢ <;> tauto)
  have hdog : t.dog = s.dog := kept .watchdog (by decide)
  exact ⟨(joined_of_startup (kept .startup (by decide))).trans hs.joined, (hostSilent_of_kept hdog).trans hs.quiet⟩

theorem params_of_within (h : State.Within [.intake, .strings] s t) (k : Nat) : t.params k = s.params k :=
  params_of_kept (h.kept .image (by obtain he | he := eventEnd_cases s <;> rw [he] <;> decide)) k

/-- One hold more. -/
theorem holdsFrom_set (s : State) (f : MeasFrame) (n : Nat) :
    (s.holdsFrom f 0 n).set n (s.heldAfter f n) = s.holdsFrom f 0 (n + 1) := by
  refine List.ext_getElem? fun j => ?_
  simp only [State.holdsFrom, List.getElem?_set, List.getElem?_mapIdx, List.length_mapIdx]
  by_cases hj : n = j
  · subst hj
    by_cases hlt : n < s.intake.holds.length
    · simp [hlt]
    · simp [hlt]
  · rw [if_neg hj]
    cases s.intake.holds[j]? with
    | none => rfl
    | some h => exact congrArg some (if_congr (by omega) rfl rfl)

theorem heldAfter_holdsFrom (h : t.intake = { s.intake with holds := s.holdsFrom f 0 n }) (hn : n ≤ k) :
    t.heldAfter f k = s.heldAfter f k := by
  have hget : (s.holdsFrom f 0 n)[k]? = s.intake.holds[k]? := by
    rw [State.holdsFrom, List.getElem?_mapIdx]
    cases s.intake.holds[k]? with
    | none => rfl
    | some h => exact congrArg some (if_neg (by omega))
  unfold State.heldAfter
  rw [h, List.getD_eq_getElem?_getD, List.getD_eq_getElem?_getD]
  simp only [hget]

theorem takesBelow_all (hs : s.Heard) (f : MeasFrame) (base : Bool) (dt n : Nat) :
    s.TakesBelow ((List.range n).foldl (State.takeString f base dt) s) f base dt n := by
  induction n with
  | zero => exact ⟨hs, .inl rfl, by rw [holdsFrom_zero]; rfl, within_refl .., fun _ _ => rfl, fun _ _ h => absurd h (Nat.not_lt_zero _)⟩
  | succ n ih =>
    rw [List.range_succ, List.foldl_append]
    generalize hu : (List.range n).foldl (State.takeString f base dt) s = u at ih
    show s.TakesBelow (u.takeString f base dt n) f base dt (n + 1)
    have hone := takeString_takesOne ih.heard.joined f base dt n
    have hheld := heldAfter_holdsFrom ih.intake (Nat.le_refl n)
    have hwithin := within_trans ih.within hone.within
    refine ⟨heard_of_within hwithin hs, ?_, ?_, hwithin, fun k hk => ?_, fun k x hk hspared hx => ?_⟩
    · obtain hsame | hidle := hone.job
      · rw [hsame]
        exact ih.job
      · exact .inr hidle
    · rw [hone.intake, hheld, ih.intake]
      simp only [holdsFrom_set]
    · rw [hone.others k (by omega), ih.above k (by omega)]
    · by_cases hkn : n = k
      · subst hkn
        have hux : u.strings[n]? = some x := (ih.above n (Nat.le_refl n)).trans hx
        rw [takeString_spared ih.heard.joined ih.heard.quiet (spared_of_job hspared ih.job) hux, hheld,
          params_of_within ih.within]
        exact List.getElem?_set_self (List.getElem?_eq_some_iff.mp hux).1
      · rw [hone.others k hkn]
        exact ih.taken k x (by omega) hspared hx

end Sys2Proof.Machine

/-! PROOFS. A measurement frame taken in from JOIN onward (sections 8.2 and 8.3). -/

namespace Sys2Proof.Machine

-- One proof after another: side by side they ask for more thread stacks than there is memory for.
set_option Elab.async false

variable {s t u : State} {i j k n : Nat} {x : StringRec} {f : MeasFrame} {base : Bool} {dt : Nat}

/-! ### Readiness and the evaluation, on records, tests and notices -/

/-- A test of readiness raises at most one notice, behind those that stand. -/
theorem testReady_notices (s : State) : s.TellsAtMost 1 s.testReady ∧ s.host.notices <+: s.testReady.host.notices := by
  have hasked : ∀ u : State, (u.requestClaim .sequencer .bypass .cabinet (u.seq.planned.getD 0)).2.host = u.host := fun u =>
    host_of_frame (requestClaim_frame u .sequencer .bypass .cabinet (u.seq.planned.getD 0))
  have hends : ∀ (u : State) (a b : Nat), u.host.notices = s.host.notices →
      State.TellsAtMost 1 s (u.goOnline.transferResult 0 a 0 b)
        ∧ s.host.notices <+: (u.goOnline.transferResult 0 a 0 b).host.notices := fun u a b hu => by
    have hgo : u.goOnline.host.notices = s.host.notices := by
      rw [host_of_frame (goOnline_frame u), hu]
    refine ⟨?_, ?_⟩
    · unfold State.TellsAtMost
      rw [← hgo]
      exact notify_tells ..
    · rw [← hgo]
      exact (notify_grows ..).notices
  unfold State.testReady
  split
  · simp only
    have hhost := congrArg HostPort.notices (hasked (s.onSeq (fun q => { q with syncAt := none })))
    split
    · exact hends _ _ _ hhost
    · exact hends _ _ _ hhost
    · exact ⟨tells_of_notices hhost, [], by rw [List.append_nil]; exact hhost.symm⟩
  · exact ⟨tells_of_notices rfl, List.prefix_refl _⟩

theorem spared_of_over (h : s.Spared k) (hjob : t.job = s.job ∨ t.job.state ≠ .running) : t.Spared k := by
  rintro ⟨hrun, hk⟩
  obtain hsame | hover := hjob
  · rw [hsame] at hrun hk
    exact h ⟨hrun, hk⟩
  · exact hover hrun

theorem nothing_over (h : s.NothingToAbort) : s.job.state ≠ .running := fun hrun => by
  obtain hidle | ⟨hclaiming, -⟩ := h
  · rw [hidle] at hrun
    cases hrun
  · rw [hclaiming] at hrun
    cases hrun

/-- The evaluation leaves the test that runs, or ends it. -/
theorem evalMargin_job (hj : s.joined = true) : s.evalMargin.job = s.job ∨ s.evalMargin.job.state ≠ .running := by
  by_cases hsame : s.marginNow = s.view.margin
  · rw [evalMargin_same hj hsame]
    exact .inl rfl
  · have hjob : s.evalMargin.job = s.marginMoved.job := (evalMargin_changed hj hsame).1.kept .job (by decide)
    rw [hjob]
    unfold State.marginMoved
    split
    · exact .inr (nothing_over (abortTest_done ..))
    · exact .inl rfl

/-- The evaluation leaves the record of a string that is not under test. -/
theorem evalMargin_spared (hj : s.joined = true) (h : s.Spared k) (hx : s.strings[k]? = some x) :
    s.evalMargin.strings[k]? = some x ∧ s.evalMargin.Spared k := by
  refine ⟨?_, spared_of_over h (evalMargin_job hj)⟩
  obtain hsame | ⟨hrun, hk, -⟩ := evalMargin_record hj hx
  · exact hsame
  · exact absurd ⟨hrun, hk.symm⟩ h

/-! ### How many notices a baseline raises -/

/-- The notices that a test that runs may still bring at a baseline: those of its end. -/
def State.testNotices (s : State) : Nat := if s.job.state = .running then 2 else 0

theorem baseline_tells (hj : s.joined = true) (f : MeasFrame) (dt j : Nat) :
    (s.takeString f true dt j).host.notices.length + (s.takeString f true dt j).testNotices
      ≤ s.host.notices.length + s.testNotices := by
  have hhost : (s.measured f true dt j).host = s.host := rfl
  have hjob : (s.measured f true dt j).job = s.job := rfl
  rw [takeString_measured hj]
  obtain hcheck | ⟨hrun, -, v, hcheck⟩ := testEndCheck_cases (s.measured f true dt j) j
    (handedOf (s.heldAfter f j) (f.sample j))
  · rw [hcheck]
    exact Nat.le_refl _
  · have htells : ((s.measured f true dt j).endTest v).host.notices.length ≤ s.host.notices.length + 2 :=
      endTest_tells (s.measured f true dt j) v
    have hover : ((s.measured f true dt j).endTest v).testNotices = 0 := if_neg (by rw [(endTest_job _ v).1]; decide)
    have hbudget : s.testNotices = 2 := if_pos hrun
    rw [hcheck, hbudget]
    show ((s.measured f true dt j).endTest v).host.notices.length + ((s.measured f true dt j).endTest v).testNotices ≤ _
    rw [hover]
    exact htells

theorem baselines_tell (hs : s.Heard) (f : MeasFrame) (dt n : Nat) :
    State.TellsAtMost 2 s ((List.range n).foldl (State.takeString f true dt) s) := by
  have hbudget : ((List.range n).foldl (State.takeString f true dt) s).host.notices.length
      + ((List.range n).foldl (State.takeString f true dt) s).testNotices ≤ s.host.notices.length + s.testNotices := by
    induction n with
    | zero => exact Nat.le_refl _
    | succ n ih =>
      rw [List.range_succ, List.foldl_append]
      exact (baseline_tells (takesBelow_all hs f true dt n).heard.joined f dt n).trans ih
  have hmost : s.testNotices ≤ 2 := by
    unfold State.testNotices
    split <;> omega
  unfold State.TellsAtMost
  omega

/-! ### The hand-over (R35, R170) -/

/-- `s` with its strings taken in. -/
def State.tookStrings (s : State) (f : MeasFrame) (base : Bool) (dt : Nat) : State :=
  ((List.range s.strings.length).foldl (State.takeString f base dt) s).onIntake (fun i => { i with baselineNext := false })

/-- `s` with its strings taken in, the margin state evaluated and BYP_OK formed, before readiness is tested. -/
def State.beforeReady (s : State) (f : MeasFrame) (base : Bool) (dt : Nat) : State :=
  let e := (s.tookStrings f base dt).evalMargin
  e.withSeq { e.seq with bypOk := e.bypGood }

theorem handOver_eq (hs : s.Heard) (f : MeasFrame) (base : Bool) (dt : Nat) :
    s.handOver f base dt = (s.beforeReady f base dt).testReady := by
  have hjoined := (takesBelow_all hs f base dt s.strings.length).heard.joined
  unfold State.handOver
  simp only
  rw [if_pos hs.joined, formBypOk_eq]
  rfl

theorem bypOk_frame (s : State) (b : Bool) : s.ChangesOnly [.sequencer] (s.withSeq { s.seq with bypOk := b }) := by
  constructor; intro p hp; cases p <;> simp_all [Piece.kept, State.withSeq]

/-- BYP_OK is no part of the view. -/
theorem evaluated_bypOk (h : s.Evaluated) (b : Bool) : (s.withSeq { s.seq with bypOk := b }).Evaluated := by
  have hflags := ownFlags_of_seq (bypOk_frame s b) (by rfl)
  obtain ⟨hview, -, hmargin, hfigures⟩ := view_of_flags (bypOk_frame s b) hflags
  exact evaluated_of_sameSums (sameSums_of_sameView hview) hmargin hfigures h

section
variable (hs : s.Heard)
include hs

theorem tookStrings_joined (f : MeasFrame) (base : Bool) (dt : Nat) : (s.tookStrings f base dt).joined = true :=
  (takesBelow_all hs f base dt s.strings.length).heard.joined

theorem tookStrings_within (f : MeasFrame) (base : Bool) (dt : Nat) :
    State.Within [.intake, .strings] s (s.tookStrings f base dt) :=
  within_trans (takesBelow_all hs f base dt s.strings.length).within
    (within_of_frame (moves_frame (onIntake_moves (g := .all) ..)))

theorem beforeReady_within (f : MeasFrame) (base : Bool) (dt : Nat) :
    State.Within [.intake, .strings, .sequencer] s (s.beforeReady f base dt) := by
  have hwider : State.Within [.intake, .strings, .sequencer] s (s.tookStrings f base dt) :=
    ⟨fun p hp => (tookStrings_within hs f base dt).kept p fun hin => hp (by
      simp only [List.mem_append, List.mem_cons, List.not_mem_nil, or_false] at hin ⊢
      tauto)⟩
  exact within_trans (within_trans hwider (evalMargin_ofWithin ..)) (within_of_frame (f := [.sequencer]) (bypOk_frame _ _))

theorem beforeReady_marginOk (f : MeasFrame) (base : Bool) (dt : Nat) : (s.beforeReady f base dt).marginOk = true := by
  have heval := evalMargin_evaluated (tookStrings_joined hs f base dt)
  exact marginOk_iff.mpr fun _ => evaluated_bypOk heval _

/-- The pieces that neither the strings nor an evaluation touch. -/
theorem kept_beforeReady (f : MeasFrame) (base : Bool) (dt : Nat) {p : Piece}
    (hp : p ∉ [Piece.intake, .strings, .sequencer] ++ (endPieces ++ testPieces) := by decide) :
    p.kept s (s.beforeReady f base dt) := (beforeReady_within hs f base dt).kept p fun hin => hp (by
  obtain he | he := eventEnd_cases s <;> rw [he] at hin <;> simp at hin ⊢ <;> tauto)

theorem kept_tookStrings (f : MeasFrame) (base : Bool) (dt : Nat) {p : Piece}
    (hp : p ∉ [Piece.intake, .strings] ++ (endPieces ++ testPieces) := by decide) :
    p.kept s (s.tookStrings f base dt).evalMargin :=
  (within_trans (tookStrings_within hs f base dt) (evalMargin_ofWithin ..)).kept p fun hin => hp (by
  obtain he | he := eventEnd_cases s <;> rw [he] at hin <;> simp at hin ⊢ <;> tauto)

theorem beforeReady_intake (f : MeasFrame) (base : Bool) (dt : Nat) : (s.beforeReady f base dt).intake = { s.intake with
    holds := s.intake.holds.mapIdx (fun k h => if k < s.strings.length then s.heldAfter f k else h),
    baselineNext := false } := by
  have hbelow := (takesBelow_all hs f base dt s.strings.length).intake
  have heval : (s.tookStrings f base dt).evalMargin.intake = (s.tookStrings f base dt).intake :=
    (evalMargin_frame _).kept .intake (by decide)
  refine heval.trans ?_
  show { ((List.range s.strings.length).foldl (State.takeString f base dt) s).intake with baselineNext := false } = _
  rw [hbelow]
  simp only [State.holdsFrom, Nat.zero_le, true_and, Nat.zero_add]

theorem beforeReady_seq (himage : s.image ≠ none) (f : MeasFrame) (base : Bool) (dt : Nat) :
    (s.beforeReady f base dt).seq = { s.seq with
      bypOk := s.phase.byp.freq.isSome && decide ((max s.intake.vBypass s.cfg.bypNominal
        - min s.intake.vBypass s.cfg.bypNominal) * 100 ≤ s.cfg.bypNominal * s.cfg.band) } := by
  have hseq : (s.tookStrings f base dt).evalMargin.seq = s.seq := kept_tookStrings hs f base dt (p := .sequencer)
  have hphase : (s.tookStrings f base dt).evalMargin.phase = s.phase := kept_tookStrings hs f base dt (p := .phase)
  have himage' : (s.tookStrings f base dt).evalMargin.image = s.image := kept_tookStrings hs f base dt (p := .image)
  have hintake : (s.tookStrings f base dt).evalMargin.intake = (s.beforeReady f base dt).intake := rfl
  have hbypass : (s.tookStrings f base dt).evalMargin.intake.vBypass = s.intake.vBypass := by
    rw [hintake, beforeReady_intake hs]
  have hsome : s.image.isSome = true := Option.isSome_iff_ne_none.mpr himage
  have hgood : (s.tookStrings f base dt).evalMargin.bypGood = (s.phase.byp.freq.isSome
      && decide ((max s.intake.vBypass s.cfg.bypNominal - min s.intake.vBypass s.cfg.bypNominal) * 100
        ≤ s.cfg.bypNominal * s.cfg.band)) := by
    unfold State.bypGood State.cfg
    rw [hphase, himage', hbypass, hsome, Bool.and_true]
  show { (s.tookStrings f base dt).evalMargin.seq with bypOk := (s.tookStrings f base dt).evalMargin.bypGood } = _
  rw [hgood, hseq]

/-- A string that is not under test is taken in alone, and is not under test after. -/
theorem beforeReady_record (h : s.Spared k) (hx : s.strings[k]? = some x) : (s.beforeReady f base dt).strings[k]?
    = some (x.takenIn (s.params k) base dt (s.heldAfter f k) (f.sample k)) ∧ (s.beforeReady f base dt).Spared k := by
  have hbelow := takesBelow_all hs f base dt s.strings.length
  have htaken : (s.tookStrings f base dt).strings[k]? = _ :=
    hbelow.taken k x (List.getElem?_eq_some_iff.mp hx).1 h hx
  exact evalMargin_spared (tookStrings_joined hs f base dt) (spared_of_job (t := s.tookStrings f base dt) h hbelow.job) htaken

theorem beforeReady_tells (f : MeasFrame) (dt : Nat) : State.TellsAtMost 8 s (s.beforeReady f true dt) :=
  tells_trans (m := 2) (t := s.tookStrings f true dt) (baselines_tell hs f dt s.strings.length) (evalMargin_tells _)

/-- With no test, the strings tell of their classes, and nothing else touches a record. -/
theorem beforeReady_idle (hidle : s.job.state = .idle) (f : MeasFrame) (base : Bool) (dt : Nat) :
    (s.beforeReady f base dt).job = s.job
    ∧ (s.host.joinAll (s.classNotices (s.beforeReady f base dt).strings)).notices
      <+: (s.beforeReady f base dt).host.notices := by
  have hfold := allSamples_eq (s := s) (f := f) (op := State.takeString f base dt)
    (Y := fun k h x => x.takenIn (s.params k) base dt h (f.sample k)) fun u k x hlike hx => by
      have hjoined : u.joined = true := (joined_of_startup hlike.startup).trans hs.joined
      have hquiet : u.hostSilent = false := (hostSilent_of_kept hlike.dog).trans hs.quiet
      have hspared : u.Spared k := fun hrun => by
        rw [hlike.job, hidle] at hrun
        cases hrun.1
      rw [takeString_spared hjoined hquiet hspared hx, params_of_kept hlike.image]
  have hjob : (s.tookStrings f base dt).job = s.job := by
    unfold State.tookStrings
    rw [hfold]
    rfl
  have habides := evalMargin_abides (s.tookStrings f base dt)
  obtain ⟨hjobAfter, hstrings⟩ := habides.idle (by rw [hjob]; exact hidle)
  have hnotices : (s.host.joinAll (s.classNotices (s.tookStrings f base dt).strings)).notices
      = (s.tookStrings f base dt).host.notices := by
    unfold State.tookStrings
    rw [hfold]
    rfl
  refine ⟨hjobAfter.trans hjob, ?_⟩
  show (s.host.joinAll (s.classNotices (s.tookStrings f base dt).evalMargin.strings)).notices <+: _
  rw [hstrings, hnotices]
  exact habides.notices

end

/-! ### The take-in of a frame (R166, R171, R174) -/

/-- `s` with the figures of the frame `m` taken in and the watchdog restarted, its line released. -/
def State.framed (s : State) (m : MeasFrame) : State := { s with
  intake := { s.intake with
    lastCounter := some m.counter, lastTakeMs := some s.now, inUseSince := some s.us
    pAvail := min s.cfg.pRated m.pAvail, load := m.load, vBypass := m.vBypass }
  dog := ⟨.watching, some (s.now + s.cfg.hostTimeout)⟩
  outs := { s.outs with unsupervised := false } }

theorem framed_heard (hj : s.joined = true) (m : MeasFrame) : (s.framed m).Heard := ⟨hj, rfl⟩

theorem feedDog_framed (hj : s.joined = true) (m : MeasFrame) :
    (s.onIntake (Intake.takeFigures m s.cfg.pRated s.us)).feedDog = s.framed m := if_pos hj

/-- A frame that a heard host sends. -/
theorem takeFrame_quiet (hj : s.joined = true) (hquiet : s.hostSilent = false) (m : MeasFrame) : s.takeFrame m
    = ((s.framed m).beforeReady m (s.intake.baselineNext || s.hostSilent) s.interval).testReady := by
  unfold State.takeFrame
  simp only
  rw [if_neg (ne_true_of_eq_false hquiet), feedDog_framed hj, handOver_eq (framed_heard hj m)]

theorem sinceTakeIn_eq (s : State) : ∃ n, s.sinceTakeIn.2 = s.withFreeCount n := by
  unfold State.sinceTakeIn
  split
  · exact ⟨s.freeCount, rfl⟩
  · exact ⟨s.freeCount + 1, rfl⟩

/-- The notice of a host that is back. -/
def State.hostBackNotice (s : State) (counter : Nat) (since : Half) : Notice :=
  ⟨.hostBack, half 0, half s.dog.stage.code, half counter, since, BitVec.ofNat 32 s.now⟩

/-- What a readiness test and an evaluation may change. -/
def closePieces : List Piece := askPieces ++ (endPieces ++ testPieces)

theorem evalMargin_closing (s : State) {p : Piece} (hp : p ∉ closePieces) : p.kept s s.evalMargin :=
  (changesOnly_mono (evalMargin_frame s) (g := closePieces) rfl).kept p hp

theorem testReady_closing (s : State) {p : Piece} (hp : p ∉ closePieces) : p.kept s s.testReady :=
  (changesOnly_mono (testReady_frame s) (g := closePieces) rfl).kept p hp

theorem finish_closing (s0 s : State) {p : Piece} (hp : p ∉ closePieces) : p.kept s (State.finish s0 s) :=
  (changesOnly_mono (finish_leaves s0 s) (g := closePieces) rfl).kept p hp

/-- A frame that ends a silence: readiness tested, the margin state evaluated once more, and HOST_BACK raised. -/
theorem takeFrame_silent (hj : s.joined = true) (hsilent : s.hostSilent = true) (m : MeasFrame) : ∃ n,
    let v := (((s.withFreeCount n).framed m).beforeReady m (s.intake.baselineNext || s.hostSilent) s.interval).testReady.evalMargin
    s.takeFrame m = v.withHost (v.host.join (s.hostBackNotice m.counter s.sinceTakeIn.1)) := by
  obtain ⟨n, hn⟩ := sinceTakeIn_eq s
  refine ⟨n, ?_⟩
  intro v
  have hheard : ((s.withFreeCount n).framed m).Heard := framed_heard (s := s.withFreeCount n) hj m
  have hfed : ((s.withFreeCount n).onIntake (Intake.takeFigures m s.cfg.pRated s.us)).feedDog
      = (s.withFreeCount n).framed m := feedDog_framed (s := s.withFreeCount n) hj m
  have htake : s.takeFrame m = v.hostBack s.dog.stage m.counter s.sinceTakeIn.1 := by
    unfold State.takeFrame
    simp only
    rw [if_pos hsilent, hn, hfed, handOver_eq hheard]
  have kept : ∀ p ∉ [Piece.intake, .strings, .sequencer] ++ closePieces, p.kept ((s.withFreeCount n).framed m) v := fun p hp =>
    kept_trans (kept_trans (kept_beforeReady hheard _ _ _ fun h => hp (by simp [closePieces] at h ⊢; tauto))
      (testReady_closing _ fun h => hp (List.mem_append_right _ h)))
      (evalMargin_closing _ fun h => hp (List.mem_append_right _ h))
  have hvj : v.joined = true := (joined_of_startup (kept .startup (by decide))).trans hj
  have hus : v.us = s.us := kept .clock (by decide)
  rw [htake, State.hostBack, State.raise, if_pos hvj]
  simp only [State.now, hus]
  rfl

/-! ### The statement -/

/-- The pieces of a take-in, behind the figures and the watchdog. -/
def frameInPieces : List Piece := [.freeCount, .intake, .strings, .watchdog, .unsupervisedLine, .sequencer]

/-- What an entry to CLAIMING or the end of SYNC_WAIT adds. -/
def State.waitPieces (s : State) : List Piece :=
  if s.seq.state = .syncWait then [.requests, .lamp, .claimIds, .slot] else []

/-- The machine whose take-in is under way: the buffer in use, a free value drawn or not, the figures kept. -/
def State.taking (s : State) (i n : Nat) : State :=
  ((((s.withStatusDue false).setRole i .inUse).withFreeCount n).framed (s.frameIn i))

theorem taking_frame (s : State) (i n : Nat) :
    s.ChangesOnly [.freeCount, .intake, .watchdog, .unsupervisedLine] (s.taking i n) := by
  constructor
  intro p hp
  cases p <;> simp_all [Piece.kept, State.taking, State.framed, State.withFreeCount, setRole_eq, State.withStatusDue,
    State.withIntake]

/-- How the event of a take-in closes: `r` is the state before its end, `u` the one before readiness was tested. -/
structure State.ClosesOn (s u r : State) : Prop where
  kept : ∀ p ∉ closePieces, p.kept u r
  spared : ∀ k x, u.Spared k → u.strings[k]? = some x → r.strings[k]? = some x ∧ r.Spared k
  within : State.Within (frameInPieces ++ s.waitPieces) s u → State.Within (frameInPieces ++ s.waitPieces) s r
  seq : s.seq.state ≠ .syncWait → r.seq = u.seq

theorem testReady_closes (hseq : u.seq.state = s.seq.state) : s.ClosesOn u u.testReady := by
  have hframe := testReady_frame u
  have hjob : u.testReady.job = u.job := hframe.kept .job (by decide)
  refine ⟨fun p hp => testReady_closing u hp, fun k x hspared hx =>
    ⟨(strings_of_frame hframe).symm ▸ hx, spared_of_over hspared (.inl hjob)⟩, fun h => ?_, fun hwait => ?_⟩
  · by_cases hwait : s.seq.state = .syncWait
    · have hpieces : s.waitPieces = [.requests, .lamp, .claimIds, .slot] := if_pos hwait
      rw [hpieces] at h ⊢
      exact within_trans h (within_of_frame hframe)
    · rwa [testReady_idle (.inl (by rw [hseq]; exact hwait))]
  · rw [testReady_idle (.inl (by rw [hseq]; exact hwait))]

theorem evaluated_closes (hj : u.joined = true) (hseq : u.seq.state = s.seq.state) (n : Notice) : s.ClosesOn u
    (u.testReady.evalMargin.withHost (u.testReady.evalMargin.host.join n)) := by
  have hclose := testReady_closes (s := s) hseq
  have hready : u.testReady.joined = true := (joined_of_frame (testReady_frame u)).trans hj
  have heval := evalMargin_frame u.testReady
  have hnotice := tell_frame u.testReady.evalMargin n
  have hjob : ∀ v : State, (v.withHost (v.host.join n)).job = v.job := fun _ => rfl
  refine ⟨fun p hp => kept_trans (kept_trans (hclose.kept p hp) (evalMargin_closing _ hp)) (hnotice.kept p fun h => hp (by
        simp only [List.mem_singleton] at h
        subst h
        decide)), fun k x hspared hx => ?_, fun h => ?_, fun hwait => ?_⟩
  · obtain ⟨hsame, hspared'⟩ := hclose.spared k x hspared hx
    exact evalMargin_spared hready hspared' hsame
  · have hjobFree : (frameInPieces ++ s.waitPieces).contains .job = false := by
      unfold State.waitPieces
      split <;> rfl
    have htold : State.Within (frameInPieces ++ s.waitPieces) u.testReady.evalMargin
        (u.testReady.evalMargin.withHost (u.testReady.evalMargin.host.join n)) :=
      ⟨fun p hp => hnotice.kept p fun h => hp (by
        simp only [List.mem_singleton] at h
        subst h
        refine List.mem_append_right _ ?_
        obtain he | he := eventEnd_cases u.testReady.evalMargin <;> rw [he] <;> decide)⟩
    exact within_trans (within_trans (hclose.within h) (evalMargin_ofWithin ..) hjobFree) htold hjobFree
  · exact (show _ = u.testReady.evalMargin.seq from hnotice.kept .sequencer (by decide)).trans
      ((show u.testReady.evalMargin.seq = _ from heval.kept .sequencer (by decide)).trans (hclose.seq hwait))

/-- The state of a take-in before readiness is tested. -/
def State.takenBefore (s : State) (i n : Nat) : State :=
  (s.taking i n).beforeReady (s.frameIn i) (s.intake.baselineNext || s.hostSilent) s.interval

section
variable (hj : s.joined = true)
include hj

theorem taking_heard (i n : Nat) : (s.taking i n).Heard := framed_heard (s := ((s.withStatusDue false).setRole i .inUse).withFreeCount n) hj _

theorem takenBefore_within (i n : Nat) : State.Within (frameInPieces ++ s.waitPieces) s (s.takenBefore i n)
    ∧ s.ChangesOnly (frameInPieces ++ s.eventEnd) (s.takenBefore i n) := by
  have hbefore := beforeReady_within (taking_heard hj i n) (s.frameIn i) (s.intake.baselineNext || s.hostSilent) s.interval
  have hwithin : State.Within frameInPieces s (s.takenBefore i n) := by
    refine within_trans (within_of_frame (taking_frame s i n)) ⟨fun p hp => hbefore.kept p fun h => hp ?_⟩
    simp only [frameInPieces, List.mem_append, List.mem_cons, List.not_mem_nil, or_false] at h ⊢
    tauto
  refine ⟨⟨fun p hp => hwithin.kept p fun h => hp ?_⟩, hwithin⟩
  simp only [List.mem_append] at h ⊢
  tauto

/-- What stands after a take-in closed on `r` has ended its event. -/
theorem closed_leaves (i n : Nat) {r : State} (hr : s.ClosesOn (s.takenBefore i n) r) :
    let t := s.ends r
    t.intake = { s.intake with
      buffers := s.intake.buffers.modify i (fun b => { b with role := .inUse })
      lastCounter := some (s.frameIn i).counter, lastTakeMs := some s.now, inUseSince := some s.us
      pAvail := min s.cfg.pRated (s.frameIn i).pAvail, load := (s.frameIn i).load, vBypass := (s.frameIn i).vBypass
      holds := s.intake.holds.mapIdx (fun k h => if k < s.strings.length then s.heldAfter (s.frameIn i) k else h),
      baselineNext := false }
    ∧ t.dog = ⟨.watching, some (s.now + s.cfg.hostTimeout)⟩ ∧ t.outs.unsupervised = false
    ∧ (∀ k x, s.strings[k]? = some x → s.Spared k → t.strings[k]? = some (x.takenIn (s.params k)
        (s.intake.baselineNext || s.hostSilent) s.interval (s.heldAfter (s.frameIn i) k) ((s.frameIn i).sample k)))
    ∧ (s.seq.state ≠ .syncWait → t.seq = (s.takenBefore i n).seq)
    ∧ State.Within (frameInPieces ++ s.waitPieces) s t := by
  intro t
  have hheard := taking_heard hj i n
  have kept : ∀ p ∉ closePieces, p.kept (s.takenBefore i n) t := fun p hp => kept_trans (hr.kept p hp) (finish_closing (s.withStatusDue false) r hp)
  have hintake : t.intake = (s.takenBefore i n).intake := kept .intake (by decide)
  have hdog : t.dog = (s.taking i n).dog := kept_trans (kept_beforeReady hheard (s.frameIn i) _ _) (kept .watchdog (by decide))
  have hline : t.outs.unsupervised = (s.taking i n).outs.unsupervised :=
    kept_trans (kept_beforeReady hheard (s.frameIn i) _ _) (kept .unsupervisedLine (by decide))
  have hjoined : r.joined = true := (joined_of_startup (kept_trans (p := .startup) (kept_beforeReady hheard (s.frameIn i) _ _)
    (hr.kept .startup (by decide)))).trans hheard.joined
  refine ⟨hintake.trans (beforeReady_intake hheard ..), hdog, hline, fun k x hx hspared => ?_, fun hwait => ?_, ?_⟩
  · obtain ⟨htaken, hspared⟩ := beforeReady_record (f := s.frameIn i) (base := s.intake.baselineNext || s.hostSilent)
      (dt := s.interval) hheard (k := k) (x := x) hspared hx
    obtain ⟨hclosed, hspared⟩ := hr.spared k _ hspared htaken
    show (State.finish (s.withStatusDue false) r).strings[k]? = _
    rw [finish_strings]
    exact (evalMargin_spared hjoined hspared hclosed).1
  · have hfinish : t.seq = r.seq := (finish_leaves (s.withStatusDue false) r).kept .sequencer (by decide)
    exact hfinish.trans (hr.seq hwait)
  · exact within_trans (hr.within (takenBefore_within hj i n).1) (finish_within ..) (by
      unfold State.waitPieces
      split <;> rfl)

end

theorem takenBefore_joined (hj : s.joined = true) (i n : Nat) : (s.takenBefore i n).joined = true :=
  (joined_of_startup (kept_beforeReady (p := .startup) (taking_heard hj i n) (s.frameIn i) _ _)).trans hj

/-- There is room for the notice of a host that is back. -/
theorem hostBack_told (hj : s.joined = true) (hsilent : s.hostSilent = true) (hroom : s.host.notices.length ≤ 16) (i n : Nat)
    (x : Notice) : x ∈ (s.ends ((s.takenBefore i n).testReady.evalMargin.withHost
      ((s.takenBefore i n).testReady.evalMargin.host.join x))).host.notices := by
  have hbase : s.takenBefore i n = (s.taking i n).beforeReady (s.frameIn i) true s.interval := by
    unfold State.takenBefore
    rw [hsilent, Bool.or_true]
  have hbefore : State.TellsAtMost 8 (s.taking i n) (s.takenBefore i n) :=
    hbase ▸ beforeReady_tells (taking_heard hj i n) (s.frameIn i) s.interval
  have htells : State.TellsAtMost 15 (s.taking i n) (s.takenBefore i n).testReady.evalMargin :=
    tells_trans (tells_trans hbefore (testReady_notices _).1) (evalMargin_tells _)
  have hlt : (s.takenBefore i n).testReady.evalMargin.host.notices.length < 32 := by
    have htells : (s.takenBefore i n).testReady.evalMargin.host.notices.length ≤ s.host.notices.length + 15 := htells
    omega
  refine (finish_abides (s.withStatusDue false) _).notices.subset ?_
  show x ∈ ((s.takenBefore i n).testReady.evalMargin.host.join x).notices
  rw [HostPort.join, if_pos hlt]
  exact List.mem_append_right _ (List.mem_singleton_self _)

/-- With no test, a heard host's frame raises the notices of the classes that its strings end in. -/
theorem quiet_raises (hj : s.joined = true) (hidle : s.job.state = .idle) (i n : Nat) :
    s.raised (s.classNotices (s.ends (s.takenBefore i n).testReady).strings) (s.ends (s.takenBefore i n).testReady) := by
  obtain ⟨hjob, hprefix⟩ := beforeReady_idle (s := s.taking i n) (taking_heard hj i n) hidle (s.frameIn i)
    (s.intake.baselineNext || s.hostSilent) s.interval
  have hready := testReady_frame (s.takenBefore i n)
  have hreadyJob : (s.takenBefore i n).testReady.job = (s.takenBefore i n).job := hready.kept .job (by decide)
  have hend := finish_abides (s.withStatusDue false) (s.takenBefore i n).testReady
  have hstrings : (s.ends (s.takenBefore i n).testReady).strings = (s.takenBefore i n).strings :=
    (hend.idle (by rw [hreadyJob]; exact (congrArg TestJob.state hjob).trans hidle)).2.trans (strings_of_frame hready)
  rw [hstrings]
  exact (hprefix.trans (testReady_notices (s.takenBefore i n)).2).trans hend.notices

/-- The event of a take-in, and what it closes on. -/
theorem takeIn_event (hr : s.running = true) (hj : s.startup.state = .joined) (hi : s.bufferIn .ready = some i)
    (hno : s.bufferIn .inUse = none) (hnew : s.intake.lastCounter ≠ some (s.frameIn i).counter) :
    exec .measTakeIn s = .next (s.ends (((s.withStatusDue false).setRole i .inUse).takeFrame (s.frameIn i))) := by
  rw [execMeasTakeIn_eq]
  refine event_ends hr (takeIn_due hi hno) ?_
  rw [takeInBody_eq (s := s.withStatusDue false) hi]
  exact examine_taken (s := s.withStatusDue false) (.inr hj) hnew

/-- Settles O24: a take-in runs over the strings, evaluates, forms BYP_OK and tests readiness, in that order. -/
theorem frameTakenIn : Obligations.FrameTakenIn := by
  intro i s hr hstate himage hi hno f hnew silent base dt holds bypOk changed
  have hj := joined_of_state hstate
  have hevent := takeIn_event hr hstate hi hno hnew
  have hsilent : s.hostSilent = true ↔ silent := by simp [State.hostSilent, silent]
  have hseq : ∀ n, (s.takenBefore i n).seq = { s.seq with bypOk := bypOk } := fun n =>
    beforeReady_seq (taking_heard hj i n) himage ..
  have hstay : ∀ n, (s.takenBefore i n).seq.state = s.seq.state := fun n => by rw [hseq n]
  have hmargin : ∀ n, (s.takenBefore i n).marginOk = true := fun n => beforeReady_marginOk (taking_heard hj i n) ..
  have hchanged : ∀ n, s.ChangesOnly changed (s.takenBefore i n) := fun n => (takenBefore_within hj i n).2
  have hlength : ∀ t, exec .measTakeIn s = .next t → t.strings.length = s.strings.length := fun t h =>
    moves_strings_length (exec_moves (g := .all) (by decide) (by simp) (.inl rfl) h)
  have hwhole : ∀ t, State.Within (frameInPieces ++ s.waitPieces) s t → s.ChangesOnly (changed ++ (if s.seq.state = .syncWait
      then [.requests, .lamp, .claimIds, .slot] else [])) t := fun t h => ⟨fun p hp => h.kept p fun hin => hp (by
    simp only [changed, List.mem_append] at hin ⊢
    unfold State.waitPieces frameInPieces at hin
    tauto)⟩
  by_cases hs : s.hostSilent = true
  · obtain ⟨n, htake⟩ : ∃ n, ((s.withStatusDue false).setRole i .inUse).takeFrame f
        = (s.takenBefore i n).testReady.evalMargin.withHost ((s.takenBefore i n).testReady.evalMargin.host.join
          (s.hostBackNotice f.counter ((s.withStatusDue false).setRole i .inUse).sinceTakeIn.1)) :=
      takeFrame_silent (s := (s.withStatusDue false).setRole i .inUse) hj hs f
    have hready := (takenBefore_joined hj i n)
    have hclose := evaluated_closes (s := s) (u := s.takenBefore i n) hready (hstay n)
      (s.hostBackNotice f.counter ((s.withStatusDue false).setRole i .inUse).sinceTakeIn.1)
    obtain ⟨hintake, hdog, hline, hrecords, hposition, hwithin⟩ := closed_leaves hj i n hclose
    have hexec := hevent.trans (congrArg (fun u => Host.Outcome.next (s.ends u)) htake)
    have hsince := (sinceTakeIn_known ((s.withStatusDue false).setRole i .inUse)).1
    refine ⟨_, s.takenBefore i n, hexec, hmargin n, hseq n, hchanged n, fun hno => absurd (hsilent.mp hs) hno,
      fun _ => ⟨_, hsince, rfl⟩, hintake, hdog, hline, hlength _ hexec, fun k x hx hspared => hrecords k x hx hspared,
      fun hwait => (hposition hwait).trans (hseq n), fun _ hno => absurd (hsilent.mp hs) hno, fun _ m hm hroom => ?_,
      hwhole _ hwithin⟩
    have hvalue := hsince m hm
    have htold := hostBack_told hj hs hroom i n
      (s.hostBackNotice f.counter ((s.withStatusDue false).setRole i .inUse).sinceTakeIn.1)
    rw [hvalue] at htold
    rw [hvalue]
    exact htold
  · have hquiet : s.hostSilent = false := by simpa using hs
    have htake := takeFrame_quiet (s := (s.withStatusDue false).setRole i .inUse) hj hquiet f
    have hclose := testReady_closes (s := s) (u := s.takenBefore i s.freeCount) (hstay _)
    obtain ⟨hintake, hdog, hline, hrecords, hposition, hwithin⟩ := closed_leaves hj i s.freeCount hclose
    have hexec : exec .measTakeIn s = .next (s.ends (s.takenBefore i s.freeCount).testReady) :=
      hevent.trans (congrArg (fun u => Host.Outcome.next (s.ends u)) htake)
    refine ⟨_, s.takenBefore i s.freeCount, hexec, hmargin _, hseq _, hchanged _, fun _ => rfl,
      fun hyes => absurd (hsilent.mpr hyes) hs, hintake, hdog, hline, hlength _ hexec,
      fun k x hx hspared => hrecords k x hx hspared, fun hwait => (hposition hwait).trans (hseq _), fun hidle _ => ?_,
      fun hyes => absurd (hsilent.mpr hyes) hs, hwhole _ hwithin⟩
    exact quiet_raises hj hidle i s.freeCount

end Sys2Proof.Machine

/-! PROOFS. What the own withdrawals and the claim slot agree on with the cabinet, the test job and the visit: one
relation for each, read off the laws of sections 2.3, 4.1, 5.2 and 6.2, and the laws read off it. -/

namespace Sys2Proof.Machine

-- One proof after another: side by side they ask for more thread stacks than there is memory for.
set_option Elab.async false

variable {s t u : State}

/-! ### What each of the three sees of the state -/

/-- The request in the claim slot, where it is that of `r` (R75). -/
def State.asked (s : State) (r : Requester) : Option Request := s.claims.slot.request.filter (fun q => q.requester == r)

theorem asked_eq_some {r : Requester} {q : Request} :
    s.asked r = some q ↔ s.claims.slot.request = some q ∧ q.requester = r := by
  simp [State.asked, Option.filter_eq_some_iff]

theorem asked_isSome (s : State) (r : Requester) :
    (s.asked r).isSome = s.claims.slot.request.any (fun q => q.requester == r) := by
  unfold State.asked
  cases s.claims.slot.request with
  | none => rfl
  | some q => cases hq : q.requester == r <;> simp [Option.filter, hq]

/-- The entries of a list, the slot, and whose they are. -/
structure EntriesAgree (flight joined : Bool) (own : Nat) (l : List Withdrawal) (x : Slot) : Prop where
  fit : ∀ w ∈ l, w.owner = own → w.active = true ∧ pairs w.kind w.scope = true
  distinct : (l.map (fun w => (w.owner, w.claimId))).Nodup
  room : (l.filter (fun w => w.owner != own)).length ≤ 29
  flight : flight = true → ∀ q id tag d, x = .inFlight q id tag d → ∀ w ∈ l, w.owner = own → w.claimId ≠ id
  before : joined = false → l = [] ∧ x = .free

/-- What the cabinet's agreement speaks of: the start-up state, the switch and the position it gives, the sequencer,
the own cabinet entries, the sequencer's request, and whether a CABINET visit is OPEN. -/
structure CabinetView where
  start : StartState
  running : Bool
  ssFb : Bool
  position : Found
  state : SeqState
  prior : Option SeqState
  superseded : Bool
  found : Found
  held : List Withdrawal
  asked : Option Request
  visitOpen : Bool

def State.cabinetView (s : State) : CabinetView where
  start := s.startup.state
  running := s.running
  ssFb := s.pins.ssFb
  position := s.pins.found
  state := s.seq.state
  prior := s.seq.prior
  superseded := s.seq.superseded
  found := s.seq.found
  held := s.ownOf WKind.isCabinet
  asked := s.asked .sequencer
  visitOpen := s.cabinetVisitOpen

/-- The switch, the sequencer, the own cabinet entry and the sequencer's request agree (R101, R104, R115, R119). -/
structure CabinetView.Agrees (c : CabinetView) : Prop where
  running : c.start = .joined ∨ c.start = .startWindow → c.running = true
  found : c.start = .startWindow → c.found = c.position
  bypass : c.start = .joined → c.ssFb = true → c.state.withdrawn = true ∧ c.state ≠ .transferOut
  before : c.start ≠ .joined → c.state = .online
  held : c.held.length = if c.state.withdrawn then 1 else 0
  maint : c.state = .maint → c.visitOpen = true ∨ ∃ w ∈ c.held, w.kind = .maint ∧ w.unsanctioned = true
  prior : c.prior.all SeqState.onStatic = true
  asked : ∀ q, c.asked = some q → q.kind = .bypass ∧ q.scope = .cabinet ∧ q.givenUp = c.superseded
  waits : c.asked.isSome = true ↔ c.state = .claiming ∨ c.superseded = true
  claiming : c.state = .claiming → c.superseded = false

/-- What the test job's agreement speaks of. -/
structure TestView where
  state : JobState
  k : Nat
  givenUp : Bool
  states : List StringState
  held : List Scope
  asked : Option Request

/-- The states of the strings. -/
def State.states (s : State) : List StringState := s.strings.map (fun x => x.state)

def State.testView (s : State) : TestView where
  state := s.job.state
  k := s.job.k
  givenUp := s.job.givenUp.isSome
  states := s.states
  held := (s.ownOf WKind.isTest).map (fun w => w.scope)
  asked := s.asked .ageing

/-- The test job, the strings' states, the own TEST entry and the job's request agree (R36, R39, R41). -/
structure TestView.Agrees (c : TestView) : Prop where
  held : c.held = if c.state = .running then [.string c.k] else []
  tested : ∀ k x, c.states[k]? = some x → (x = .test ↔ c.state = .running ∧ c.k = k)
  place : c.state ≠ .idle → c.k < c.states.length
  asked : ∀ q, c.asked = some q → q.kind = .test ∧ q.scope = .string c.k ∧ q.givenUp = c.givenUp
  waits : c.asked.isSome = true ↔ c.state = .claiming

/-- What the claim of a visit depends on. -/
structure VisitMark where
  scope : Scope
  admitting : Bool
  givenUp : Bool

def Visit.mark (v : Visit) : VisitMark := ⟨v.scope, v.admitting, v.givenUp⟩

/-- What the visit's agreement speaks of. -/
structure VisitView where
  current : Option VisitMark
  held : List Scope
  asked : Option Request

def State.visitView (s : State) : VisitView where
  current := s.visit.current.map Visit.mark
  held := (s.ownOf WKind.isService).map (fun w => w.scope)
  asked := s.asked .visit

/-- The scopes of the SERVICE entries that a current visit stands on: that of a STRING visit that is OPEN. -/
def admittedScopes : Option VisitMark → List Scope
  | some m => if m.scope ≠ .cabinet ∧ m.admitting = false then [m.scope] else []
  | none => []

/-- The current visit, the own SERVICE entry and the visit's request agree (R128 to R131). -/
structure VisitView.Agrees (c : VisitView) : Prop where
  held : c.held = admittedScopes c.current
  asked : ∀ q, c.asked = some q → q.kind = .service ∧ c.current = some ⟨q.scope, true, q.givenUp⟩
  waits : ∀ m, c.current = some m → m.admitting = true → m.scope ≠ .cabinet ∧ c.asked.isSome = true

/-- The entries of `s` are in order, with no own entry of the claim id in flight where `a`. -/
def State.EntriesOk (a : Bool) (s : State) : Prop :=
  EntriesAgree a s.joined s.own s.claims.list s.claims.slot

/-- All of the agreement but the cabinet's part. -/
structure State.Rest (a : Bool) (s : State) : Prop where
  entries : s.EntriesOk a
  test : s.testView.Agrees
  visit : s.visitView.Agrees

/-- The whole agreement. -/
structure State.Agrees (a : Bool) (s : State) : Prop extends State.Rest a s where
  cabinet : s.cabinetView.Agrees

/-! ### From the laws and back -/

theorem mem_ownOf {c : WKind → Bool} {w : Withdrawal} :
    w ∈ s.ownOf c ↔ w ∈ s.claims.list ∧ w.owner = s.own ∧ c w.kind = true := by
  simp only [State.ownOf, State.ownWithdrawals, List.mem_filter, beq_iff_eq, and_assoc]

/-- A kind is of exactly one class. -/
theorem class_of_kind (k : WKind) : (k.isCabinet = true ∧ k.isTest = false ∧ k.isService = false)
    ∨ (k.isCabinet = false ∧ k.isTest = true ∧ k.isService = false)
    ∨ (k.isCabinet = false ∧ k.isTest = false ∧ k.isService = true) := by
  cases k <;> decide

theorem own_classes (s : State) : s.ownWithdrawals.length = (s.ownOf WKind.isCabinet).length
    + (s.ownOf WKind.isTest).length + (s.ownOf WKind.isService).length := by
  have hclasses : ∀ l : List Withdrawal, l.length = (l.filter (fun w => WKind.isCabinet w.kind)).length
      + (l.filter (fun w => WKind.isTest w.kind)).length + (l.filter (fun w => WKind.isService w.kind)).length := by
    intro l
    induction l with
    | nil => rfl
    | cons w l ih =>
      obtain ⟨hc, ht, hv⟩ | ⟨hc, ht, hv⟩ | ⟨hc, ht, hv⟩ := class_of_kind w.kind
      all_goals simp only [List.length_cons, List.filter_cons, hc, ht, hv, if_true, Bool.false_eq_true, if_false]; omega
  exact hclasses _

theorem states_getElem? (s : State) (k : Nat) : s.states[k]? = s.strings[k]?.map (fun x => x.state) := by
  simp [State.states]

theorem entriesOk_of (hc : s.cabinetOk = true) (ho : s.ownersOk = true) (hp : s.pairsOk = true) : s.EntriesOk true := by
  simp only [State.cabinetOk, State.ownersOk, State.pairsOk, Bool.and_eq_true, State.ownWithdrawals, List.all_eq_true,
    List.mem_filter, beq_iff_eq, and_imp, Bool.or_eq_true, List.isEmpty_iff, Nat.ble_eq, decide_eq_true_eq] at hc ho hp
  obtain ⟨⟨⟨_, hfit⟩, _⟩, hbefore⟩ := hc
  obtain ⟨_, hroom⟩ := ho
  obtain ⟨hdistinct, hflight⟩ := hp
  refine ⟨hfit, hdistinct, hroom, fun _ q id tag d hslot w hw hown => ?_, fun hj => hbefore.resolve_left (by simp [hj])⟩
  have hno := hflight
  simp only [State.claimInFlight, hslot, Option.all_some, List.all_eq_true, List.mem_filter, beq_iff_eq, and_imp] at hno
  simpa using hno w hw hown

theorem cabinetAgrees_of (hc : s.cabinetOk = true) (ho : s.ownersOk = true) : s.cabinetView.Agrees := by
  simp only [State.cabinetOk, State.ownersOk, State.holdersOk, Bool.and_eq_true] at hc ho
  obtain ⟨⟨⟨⟨⟨⟨⟨⟨⟨hrun, hfound⟩, hbypass⟩, hbefore⟩, _⟩, hmaint⟩, hprior⟩, _⟩, _⟩, _⟩ := hc
  obtain ⟨⟨_, ⟨⟨⟨⟨⟨⟨⟨⟨⟨⟨_, _⟩, hheld⟩, _⟩, _⟩, _⟩, hrequest⟩, hclaiming⟩, hsuperseded⟩, _⟩, _⟩⟩, _⟩ := ho
  have hasked : ∀ q, s.asked .sequencer = some q → q.kind = .bypass ∧ q.scope = .cabinet
      ∧ q.givenUp = s.seq.superseded ∧ (s.seq.superseded = true ∨ s.seq.state = .claiming) := fun q hq => by
    obtain ⟨hslot, hwho⟩ := asked_eq_some.mp hq
    rw [hslot] at hrequest
    simpa [State.requesterOk, hwho, and_assoc] using hrequest
  have hasks : s.seq.superseded = true ∨ s.seq.state = .claiming → (s.asked .sequencer).isSome = true := fun h => by
    rw [asked_isSome]
    obtain h | h := h
    · simpa [h] using hsuperseded
    · simp only [h, bne_self_eq_false, Bool.false_or, Option.any_eq_true_iff_get, Bool.and_eq_true] at hclaiming
      obtain ⟨hsome, hwho, -⟩ := hclaiming
      rw [Option.any_eq_true_iff_get]
      exact ⟨hsome, hwho⟩
  refine ⟨?_, fun h => ?_, fun h hb => ?_, fun h => ?_, ?_, fun h => ?_, hprior, fun q hq => ?_, ⟨fun h => ?_,
    fun h => hasks h.symm⟩, fun h => ?_⟩
  · show s.startup.state = .joined ∨ s.startup.state = .startWindow → s.running = true
    rintro (h | h) <;> simpa [State.joined, State.inWindow, h] using hrun
  · replace h : s.startup.state = .startWindow := h
    simpa [State.cabinetView, State.inWindow, h] using hfound
  · replace h : s.startup.state = .joined := h
    replace hb : s.pins.ssFb = true := hb
    simpa [State.cabinetView, State.joined, h, hb] using hbypass
  · replace h : s.startup.state ≠ .joined := h
    simpa [State.cabinetView, State.joined, h] using hbefore
  · exact beq_iff_eq.mp hheld
  · replace h : s.seq.state = .maint := h
    obtain h | h : s.cabinetVisitOpen = true ∨ s.unsanctionedMaint = true := by simpa [h] using hmaint
    · exact .inl h
    · obtain ⟨w, hw, hmark⟩ := List.any_eq_true.mp h
      obtain ⟨hk, hu⟩ : w.kind = .maint ∧ w.unsanctioned = true := by simpa using hmark
      exact .inr ⟨w, List.mem_filter.mpr ⟨hw, by rw [hk]; rfl⟩, hk, hu⟩
  · obtain ⟨hk, hs, hg, -⟩ := hasked q hq
    exact ⟨hk, hs, hg⟩
  · obtain ⟨q, hq⟩ := Option.isSome_iff_exists.mp h
    exact (hasked q hq).2.2.2.symm
  · obtain ⟨q, hq⟩ := Option.isSome_iff_exists.mp (hasks (.inr h))
    obtain ⟨-, -, hgiven, -⟩ := hasked q hq
    have hclaimed : q.givenUp = false := by
      rw [(asked_eq_some.mp hq).1] at hclaiming
      simpa [show s.seq.state = .claiming from h, (asked_eq_some.mp hq).2] using hclaiming
    exact hgiven.symm.trans hclaimed

theorem testAgrees_of (ho : s.ownersOk = true) : s.testView.Agrees := by
  simp only [State.ownersOk, State.holdersOk, Bool.and_eq_true] at ho
  obtain ⟨⟨_, ⟨⟨⟨⟨⟨⟨⟨⟨⟨⟨hheld, _⟩, _⟩, _⟩, hplace⟩, hstates⟩, hrequest⟩, _⟩, _⟩, hclaiming⟩, _⟩⟩, _⟩ := ho
  have hasked : ∀ q, s.asked .ageing = some q → q.kind = .test ∧ q.scope = .string s.job.k ∧ s.job.state = .claiming
      ∧ q.givenUp = s.job.givenUp.isSome := fun q hq => by
    obtain ⟨hslot, hwho⟩ := asked_eq_some.mp hq
    rw [hslot] at hrequest
    simpa [State.requesterOk, hwho, and_assoc] using hrequest
  refine ⟨beq_iff_eq.mp hheld, fun k x hx => ?_, fun h => ?_, fun q hq => ?_, ⟨fun h => ?_, fun h => ?_⟩⟩
  · obtain ⟨y, hy, rfl⟩ : ∃ y, s.strings[k]? = some y ∧ y.state = x := by
      simpa [State.testView, states_getElem?] using hx
    have hmem : (y, k) ∈ s.strings.zip (List.range s.strings.length) := by
      refine List.mem_iff_getElem?.mpr ⟨k, ?_⟩
      rw [List.getElem?_zip_eq_some]
      exact ⟨hy, List.getElem?_range (List.getElem?_eq_some_iff.mp hy).1⟩
    have hrow := List.all_eq_true.mp hstates (y, k) hmem
    show y.state = .test ↔ s.job.state = .running ∧ s.job.k = k
    rw [← beq_iff_eq, beq_iff_eq.mp hrow]
    simp
  · replace h : s.job.state ≠ .idle := h
    show s.job.k < s.states.length
    rw [State.states, List.length_map]
    exact (by simpa using hplace : s.job.state = .idle ∨ s.job.k < s.strings.length).resolve_left h
  · obtain ⟨hk, hs, -, hg⟩ := hasked q hq
    exact ⟨hk, hs, hg⟩
  · obtain ⟨q, hq⟩ := Option.isSome_iff_exists.mp h
    exact (hasked q hq).2.2.1
  · replace h : s.job.state = .claiming := h
    show (s.asked .ageing).isSome = true
    rw [asked_isSome]
    simpa [h] using hclaiming

theorem visitAgrees_of (ho : s.ownersOk = true) : s.visitView.Agrees := by
  simp only [State.ownersOk, State.holdersOk, Bool.and_eq_true] at ho
  obtain ⟨⟨_, ⟨⟨⟨⟨⟨⟨⟨⟨⟨⟨_, hheld⟩, _⟩, _⟩, _⟩, _⟩, hrequest⟩, _⟩, _⟩, _⟩, hwaits⟩⟩, _⟩ := ho
  refine ⟨?_, fun q hq => ?_, fun m hm ha => ?_⟩
  · show (s.ownOf WKind.isService).map (fun w => w.scope) = admittedScopes (s.visit.current.map Visit.mark)
    rw [beq_iff_eq.mp hheld]
    cases s.visit.current <;> simp [admittedScopes, Visit.mark]
  · obtain ⟨hslot, hwho⟩ := asked_eq_some.mp hq
    rw [hslot] at hrequest
    obtain ⟨hk, v, hv, ⟨ha, hs⟩, hg⟩ : q.kind = .service ∧ ∃ v, s.visit.current = some v
        ∧ (v.admitting = true ∧ v.scope = q.scope) ∧ v.givenUp = q.givenUp := by
      simp only [Option.all_some, State.requesterOk, hwho, Bool.and_eq_true, beq_iff_eq] at hrequest
      obtain ⟨hk, hv⟩ := hrequest
      cases hcur : s.visit.current with
      | none => simp [hcur] at hv
      | some v => exact ⟨hk, v, rfl, by simpa [hcur] using hv⟩
    exact ⟨hk, by simp [State.visitView, hv, Visit.mark, ha, hs, hg]⟩
  · obtain ⟨v, hv, rfl⟩ := Option.map_eq_some_iff.mp hm
    replace ha : v.admitting = true := ha
    rw [hv] at hwaits
    show v.scope ≠ .cabinet ∧ (s.asked .visit).isSome = true
    rw [asked_isSome]
    simpa [ha] using hwaits

theorem agrees_of (hc : s.cabinetOk = true) (ho : s.ownersOk = true) (hp : s.pairsOk = true) : s.Agrees true :=
  ⟨⟨entriesOk_of hc ho hp, testAgrees_of ho, visitAgrees_of ho⟩, cabinetAgrees_of hc ho⟩

theorem scope_of_cabinet {k : WKind} {c : Scope} (hp : pairs k c = true) (hk : k.isCabinet = true) : c = .cabinet := by
  cases k with
  | test | service => cases hk
  | bypass | maint =>
    cases c with
    | cabinet => rfl
    | string k => cases hp

theorem cabinetOk_of {a : Bool} (h : s.Agrees a) : s.cabinetOk = true := by
  obtain ⟨⟨he, ht, hv⟩, hc⟩ := h
  have hrequest : s.claims.slot.request.all s.requestOk = true := by
    cases hslot : s.claims.slot.request with
    | none => rfl
    | some q =>
      show s.requestOk q = true
      cases hwho : q.requester with
      | sequencer =>
        have hq := asked_eq_some.mpr ⟨hslot, hwho⟩
        obtain ⟨hk, hs, -⟩ := hc.asked q hq
        have hw : s.seq.state = .claiming ∨ s.seq.superseded = true :=
          hc.waits.mp (show (s.asked .sequencer).isSome = true by rw [hq]; rfl)
        simpa [State.requestOk, hwho, hk, hs] using hw.symm
      | ageing => simpa [State.requestOk, hwho] using (ht.asked q (asked_eq_some.mpr ⟨hslot, hwho⟩)).1
      | visit => simpa [State.requestOk, hwho] using (hv.asked q (asked_eq_some.mpr ⟨hslot, hwho⟩)).1
  have hfit : s.ownWithdrawals.all (fun w => w.active && pairs w.kind w.scope) = true := by
    simp only [List.all_eq_true, State.ownWithdrawals, List.mem_filter, beq_iff_eq, Bool.and_eq_true]
    exact fun w hw => he.fit w hw.1 hw.2
  have hheld : s.seq.state.withdrawn = true → s.holdsCabinet = true := fun h => by
    have hlen : (s.ownOf WKind.isCabinet).length = 1 := hc.held.trans (if_pos h)
    obtain ⟨w, hw⟩ := List.length_eq_one_iff.mp hlen
    obtain ⟨hmem, hown, hcab⟩ := mem_ownOf.mp (hw ▸ List.mem_singleton.mpr rfl)
    obtain ⟨hact, hpair⟩ := he.fit w hmem hown
    refine List.any_eq_true.mpr ⟨w, by simp [State.ownWithdrawals, hmem, hown], ?_⟩
    simp [hcab, hact, scope_of_cabinet hpair hcab]
  have hmaint : s.seq.state = .maint → s.cabinetVisitOpen = true ∨ s.unsanctionedMaint = true := fun h => by
    obtain h | ⟨w, hw, hk, hu⟩ := hc.maint h
    · exact .inl h
    · exact .inr (List.any_eq_true.mpr ⟨w, (List.mem_filter.mp hw).1, by simp [hk, hu]⟩)
  have hjoined : s.joined = false → s.startup.state ≠ .joined := fun h => by simpa [State.joined] using h
  have hrunning : (!s.joined && !s.inWindow || s.running) = true := by
    by_cases hat : s.startup.state = .joined ∨ s.startup.state = .startWindow
    · rw [show s.running = true from hc.running hat, Bool.or_true]
    · simp [State.joined, State.inWindow, not_or.mp hat]
  have hfound : (!s.inWindow || s.seq.found == s.pins.found) = true := by
    cases hw : s.inWindow with
    | false => rfl
    | true => exact beq_iff_eq.mpr (hc.found (beq_iff_eq.mp hw))
  have hbypass : (!s.joined || !s.pins.ssFb || (s.seq.state.withdrawn && s.seq.state != .transferOut)) = true := by
    cases hj : s.joined with
    | false => rfl
    | true =>
      cases hb : s.pins.ssFb with
      | false => rfl
      | true =>
        obtain ⟨hw, hne⟩ := hc.bypass (beq_iff_eq.mp hj) hb
        rw [show s.seq.state.withdrawn = true from hw, show (s.seq.state != .transferOut) = true from bne_iff_ne.mpr hne]
        rfl
  have hbefore : (s.joined || s.seq.state == .online) = true := by
    cases hj : s.joined with
    | true => rfl
    | false => exact beq_iff_eq.mpr (hc.before (hjoined hj))
  have hempty : (s.joined || (s.claims.list.isEmpty && s.claims.slot == .free)) = true := by
    cases hj : s.joined with
    | true => rfl
    | false => simpa using he.before hj
  have hentry : (!s.seq.state.withdrawn || s.holdsCabinet) = true := by
    cases hw : s.seq.state.withdrawn with
    | false => rfl
    | true => exact hheld hw
  have hsanction : (s.seq.state != .maint || s.cabinetVisitOpen || s.unsanctionedMaint) = true := by
    by_cases h : s.seq.state = .maint
    · simpa [h] using hmaint h
    · simp [h]
  simp only [State.cabinetOk, Bool.and_eq_true]
  exact ⟨⟨⟨⟨⟨⟨⟨⟨⟨hrunning, hfound⟩, hbypass⟩, hbefore⟩, hentry⟩, hsanction⟩, hc.prior⟩, hfit⟩, hrequest⟩, hempty⟩

theorem held_lengths {a : Bool} (h : s.Rest a) : (s.ownOf WKind.isTest).length ≤ 1
    ∧ (s.ownOf WKind.isService).length ≤ 1 := by
  have htest : (s.ownOf WKind.isTest).length = s.testView.held.length := by simp [State.testView]
  have hvisit : (s.ownOf WKind.isService).length = s.visitView.held.length := by simp [State.visitView]
  rw [htest, hvisit, h.test.held, h.visit.held]
  refine ⟨by split <;> simp, ?_⟩
  unfold admittedScopes
  split
  · split <;> simp
  · simp

theorem classesOk_of {a : Bool} (h : s.Agrees a) : s.classesOk = true := by
  obtain ⟨htest, hvisit⟩ := held_lengths h.toRest
  have hcabinet : (s.ownOf WKind.isCabinet).length ≤ 1 := by
    rw [show (s.ownOf WKind.isCabinet).length = _ from h.cabinet.held]
    split <;> simp
  have hown := own_classes s
  have hroom := h.entries.room
  have hall : s.claims.list.length = s.ownWithdrawals.length
      + (s.claims.list.filter (fun w => w.owner != s.own)).length := by
    have hsplit := List.length_eq_length_filter_add (l := s.claims.list) (fun w => w.owner == s.own)
    exact hsplit
  simp only [State.classesOk, Bool.and_eq_true, Nat.ble_eq]
  exact ⟨⟨⟨hcabinet, htest⟩, hvisit⟩, by omega⟩

/-- The own TEST entries have the scopes that the test's agreement speaks of. -/
theorem testEntry_iff {a : Bool} (h : s.EntriesOk a) (k : Nat) : s.ownWithdrawals.any (fun w => w.kind == .test && w.active
    && w.scope == .string k) = true ↔ Scope.string k ∈ s.testView.held := by
  constructor
  · intro hany
    obtain ⟨w, hw, hentry⟩ := List.any_eq_true.mp hany
    obtain ⟨⟨hk, -⟩, hs⟩ : (w.kind = .test ∧ w.active = true) ∧ w.scope = .string k := by simpa using hentry
    exact List.mem_map.mpr ⟨w, List.mem_filter.mpr ⟨hw, by simp [WKind.isTest, hk]⟩, hs⟩
  · intro hmem
    obtain ⟨w, hw, hs⟩ := List.mem_map.mp hmem
    obtain ⟨hin, hown, hk⟩ := mem_ownOf.mp hw
    have hk : w.kind = .test := by simpa [WKind.isTest] using hk
    exact List.any_eq_true.mpr ⟨w, (List.mem_filter.mp hw).1, by simp [hk, hs, (h.fit w hin hown).1]⟩

theorem testLaw_of {a : Bool} (h : s.Rest a) : s.testLaw = true := by
  refine List.all_eq_true.mpr fun k hk => beq_iff_eq.mpr (Bool.eq_iff_iff.mpr ?_)
  have hlt : k < s.strings.length := List.mem_range.mp hk
  have hx : s.strings[k]? = some s.strings[k] := List.getElem?_eq_getElem hlt
  have htested := h.test.tested k s.strings[k].state (by simp [State.testView, states_getElem?, hx])
  rw [testEntry_iff h.entries, h.test.held, stringIs_iff, hx]
  refine (by simp : _ ↔ s.strings[k].state = .test).trans (htested.trans ?_)
  split
  · rename_i hrun
    simp [hrun, eq_comm]
  · rename_i hrun
    simp [hrun]

theorem requesterOk_of {a : Bool} (h : s.Agrees a) : s.claims.slot.request.all s.requesterOk = true := by
  cases hslot : s.claims.slot.request with
  | none => rfl
  | some q =>
    show s.requesterOk q = true
    cases hwho : q.requester with
    | sequencer =>
      have hq := asked_eq_some.mpr ⟨hslot, hwho⟩
      obtain ⟨hk, hs, hg⟩ := h.cabinet.asked q hq
      have hw : s.seq.state = .claiming ∨ s.seq.superseded = true :=
        h.cabinet.waits.mp (show (s.asked .sequencer).isSome = true by rw [hq]; rfl)
      simpa [State.requesterOk, hwho, hk, hs, show q.givenUp = s.seq.superseded from hg] using hw.symm
    | ageing =>
      have hq := asked_eq_some.mpr ⟨hslot, hwho⟩
      obtain ⟨hk, hs, hg⟩ := h.test.asked q hq
      have hw : s.job.state = .claiming := h.test.waits.mp (show (s.asked .ageing).isSome = true by rw [hq]; rfl)
      simp [State.requesterOk, hwho, hk, show q.scope = .string s.job.k from hs, hw,
        show q.givenUp = s.job.givenUp.isSome from hg]
    | visit =>
      obtain ⟨hk, hcur⟩ := h.visit.asked q (asked_eq_some.mpr ⟨hslot, hwho⟩)
      obtain ⟨v, hv, hmark⟩ := Option.map_eq_some_iff.mp hcur
      obtain ⟨hs, ha, hg⟩ : v.scope = q.scope ∧ v.admitting = true ∧ v.givenUp = q.givenUp := by
        simpa [Visit.mark] using hmark
      simp [State.requesterOk, hwho, hk, hv, hs, ha, hg]

theorem holdersOk_of {a : Bool} (h : s.Agrees a) : s.holdersOk = true := by
  have hactive : s.ownWithdrawals.all (fun w => w.active) = true := by
    simp only [List.all_eq_true, State.ownWithdrawals, List.mem_filter, beq_iff_eq]
    exact fun w hw => (h.entries.fit w hw.1 hw.2).1
  have hservice : ((s.ownOf WKind.isService).map (fun w => w.scope) == (match s.visit.current with
      | some v => if (v.scope != .cabinet) = true ∧ (!v.admitting) = true then [v.scope] else []
      | none => [])) = true := by
    rw [beq_iff_eq, show (s.ownOf WKind.isService).map (fun w => w.scope) = _ from h.visit.held]
    show admittedScopes (s.visit.current.map Visit.mark) = _
    cases s.visit.current <;> simp [admittedScopes, Visit.mark]
  have hplace : (s.job.state == .idle || Nat.blt s.job.k s.strings.length) = true := by
    by_cases hidle : s.job.state = .idle
    · simp [hidle]
    · have hlt : s.job.k < s.states.length := h.test.place hidle
      rw [State.states, List.length_map] at hlt
      simp [Nat.blt_eq.mpr hlt]
  have hstates : (s.strings.zip (List.range s.strings.length)).all
      (fun x => (x.1.state == .test) == (s.job.state == .running && s.job.k == x.2)) = true := by
    refine List.all_eq_true.mpr fun x hx => beq_iff_eq.mpr (Bool.eq_iff_iff.mpr ?_)
    obtain ⟨i, hi⟩ := List.mem_iff_getElem?.mp hx
    obtain ⟨hy, hk⟩ := List.getElem?_zip_eq_some.mp hi
    obtain rfl : i = x.2 := by
      obtain ⟨hlt, hget⟩ := List.getElem?_eq_some_iff.mp hk
      rwa [List.getElem_range] at hget
    have htested : x.1.state = .test ↔ s.job.state = .running ∧ s.job.k = x.2 :=
      h.test.tested x.2 x.1.state (by simp [State.testView, states_getElem?, hy])
    simpa using htested
  have hsequencer : s.seq.state = .claiming ∨ s.seq.superseded = true →
      s.claims.slot.request.any (fun q => q.requester == .sequencer) = true := fun hw => by
    rw [← asked_isSome]
    exact h.cabinet.waits.mpr hw
  have hclaiming : (s.seq.state != .claiming
      || s.claims.slot.request.any (fun q => q.requester == .sequencer && !q.givenUp)) = true := by
    by_cases hstate : s.seq.state = .claiming
    · obtain ⟨q, hq⟩ := Option.isSome_iff_exists.mp (h.cabinet.waits.mpr (.inl hstate))
      obtain ⟨hslot, hwho⟩ := asked_eq_some.mp hq
      have hgiven : q.givenUp = false := ((h.cabinet.asked q hq).2.2).trans (h.cabinet.claiming hstate)
      simp [hslot, hwho, hgiven]
    · simp [hstate]
  have hsuperseded : (!s.seq.superseded || s.claims.slot.request.any (fun q => q.requester == .sequencer)) = true := by
    cases hsup : s.seq.superseded with
    | false => rfl
    | true => exact hsequencer (.inr hsup)
  have htest : (s.job.state != .claiming || s.claims.slot.request.any (fun q => q.requester == .ageing)) = true := by
    by_cases hstate : s.job.state = .claiming
    · rw [← asked_isSome, show (s.asked .ageing).isSome = true from h.test.waits.mpr hstate, Bool.or_true]
    · simp [hstate]
  have hvisit : s.visit.current.all (fun v => !v.admitting
      || (v.scope != .cabinet && s.claims.slot.request.any (fun q => q.requester == .visit))) = true := by
    cases hcur : s.visit.current with
    | none => rfl
    | some v =>
      cases ha : v.admitting with
      | false => simp [ha]
      | true =>
        obtain ⟨hs, hasked⟩ : v.scope ≠ .cabinet ∧ (s.asked .visit).isSome = true :=
          h.visit.waits v.mark (by simp [State.visitView, hcur]) ha
        rw [← asked_isSome, hasked]
        simpa [ha] using hs
  simp only [State.holdersOk, Bool.and_eq_true]
  exact ⟨⟨⟨⟨⟨⟨⟨⟨⟨⟨beq_iff_eq.mpr h.test.held, hservice⟩, beq_iff_eq.mpr h.cabinet.held⟩, hactive⟩, hplace⟩, hstates⟩,
    requesterOk_of h⟩, hclaiming⟩, hsuperseded⟩, htest⟩, hvisit⟩

theorem ownersOk_of {a : Bool} (h : s.Agrees a) : s.ownersOk = true := by
  simp only [State.ownersOk, Bool.and_eq_true, Nat.ble_eq]
  exact ⟨⟨⟨classesOk_of h, testLaw_of h.toRest⟩, holdersOk_of h⟩, h.entries.room⟩

theorem pairsOk_of (h : s.Agrees true) : s.pairsOk = true := by
  have he := h.entries
  have hflight : s.claimInFlight.all (fun id => s.ownWithdrawals.all (fun w => w.claimId != id)) = true := by
    cases hslot : s.claims.slot with
    | free => simp [State.claimInFlight, hslot]
    | retryWait q d => simp [State.claimInFlight, hslot]
    | inFlight q id tag d =>
      simp only [State.claimInFlight, hslot, Option.all_some, List.all_eq_true, State.ownWithdrawals, List.mem_filter,
        beq_iff_eq, bne_iff_ne]
      exact fun w hw => he.flight rfl q id tag d hslot w hw.1 hw.2
  rw [State.pairsOk, hflight, Bool.and_true, decide_eq_true_iff]
  exact he.distinct

end Sys2Proof.Machine

/-! PROOFS. What an operation must leave of the state for the agreement to stand, and what the records' states and the
own entries become (sections 1.1, 4.1 and 4.7). -/

namespace Sys2Proof.Machine

-- One proof after another: side by side they ask for more thread stacks than there is memory for.
set_option Elab.async false

variable {s t u : State} {a : Bool} {f : List Piece}

/-! ### What stands where its pieces are kept -/

theorem agrees_weaken (h : s.Agrees true) (a : Bool) : s.Agrees a :=
  { h with entries := { h.entries with flight := fun _ => h.entries.flight rfl } }

/-- Neither of two lists of pieces meets the other. -/
def Apart (f e : List Piece) : Prop := f.all (fun p => !e.contains p) = true

theorem kept_of_apart {e : List Piece} (h : s.ChangesOnly f t) (hf : Apart f e) {p : Piece} (hp : p ∈ e) : p.kept s t :=
  h.kept p fun hpf => by
    have := List.all_eq_true.mp hf p hpf
    simp [hp] at this

theorem own_of_frame (h : s.ChangesOnly f t) (hf : Apart f [.image] := by rfl) : t.own = s.own :=
  own_of_kept (kept_of_apart h hf (by decide))

theorem slot_of_frame (h : s.ChangesOnly f t) (hf : Apart f [.slot] := by rfl) : t.claims.slot = s.claims.slot :=
  kept_of_apart h hf (p := .slot) (by decide)

theorem asked_of_slot (h : t.claims.slot = s.claims.slot) (r : Requester) : t.asked r = s.asked r := by
  simp only [State.asked, h]

theorem ownOf_of_list (hl : t.claims.list = s.claims.list) (ho : t.own = s.own) (c : WKind → Bool) :
    t.ownOf c = s.ownOf c := by
  simp only [State.ownOf, State.ownWithdrawals, hl, ho]

theorem ownOf_of_frame (h : s.ChangesOnly f t) (c : WKind → Bool) (hf : Apart f [.withdrawals, .image] := by rfl) :
    t.ownOf c = s.ownOf c := by
  obtain ⟨hlist, -⟩ := kept_of_apart h hf (p := .withdrawals) (by decide)
  exact ownOf_of_list hlist (own_of_kept (kept_of_apart h hf (by decide))) c

/-- The cabinet's view but for the entries and the request. -/
theorem cabinetView_of_frame (h : s.ChangesOnly f t) (hheld : t.ownOf WKind.isCabinet = s.ownOf WKind.isCabinet)
    (hasked : t.asked .sequencer = s.asked .sequencer)
    (hf : Apart f [.supply, .pins, .startup, .sequencer, .visits] := by rfl) : t.cabinetView = s.cabinetView := by
  have hpower : t.power = s.power := kept_of_apart h hf (p := .supply) (by decide)
  have hpins : t.pins = s.pins := kept_of_apart h hf (p := .pins) (by decide)
  have hstartup : t.startup = s.startup := kept_of_apart h hf (p := .startup) (by decide)
  have hseq : t.seq = s.seq := kept_of_apart h hf (p := .sequencer) (by decide)
  have hvisit := cabinetVisitOpen_of_kept (kept_of_apart h hf (p := .visits) (by decide))
  simp only [State.cabinetView, State.running, hpower, hpins, hstartup, hseq, hvisit, hheld, hasked]

theorem testView_of_frame (h : s.ChangesOnly f t) (hheld : t.ownOf WKind.isTest = s.ownOf WKind.isTest)
    (hasked : t.asked .ageing = s.asked .ageing) (hf : Apart f [.job, .strings] := by rfl) : t.testView = s.testView := by
  have hjob : t.job = s.job := kept_of_apart h hf (p := .job) (by decide)
  have hstrings : t.strings = s.strings := kept_of_apart h hf (p := .strings) (by decide)
  simp only [State.testView, State.states, hjob, hstrings, hheld, hasked]

theorem visitView_of_frame (h : s.ChangesOnly f t) (hheld : t.ownOf WKind.isService = s.ownOf WKind.isService)
    (hasked : t.asked .visit = s.asked .visit) (hf : Apart f [.visits] := by rfl) : t.visitView = s.visitView := by
  have hvisit : t.visit = s.visit := kept_of_apart h hf (p := .visits) (by decide)
  simp only [State.visitView, hvisit, hheld, hasked]

theorem entriesOk_of_frame (h : s.ChangesOnly f t) (hs : s.EntriesOk a)
    (hf : Apart f [.startup, .image, .withdrawals, .slot] := by rfl) : t.EntriesOk a := by
  have hj := joined_of_startup (kept_of_apart h hf (p := .startup) (by decide))
  have hown := own_of_kept (kept_of_apart h hf (p := .image) (by decide))
  obtain ⟨hlist, -⟩ := kept_of_apart h hf (p := .withdrawals) (by decide)
  have hslot : t.claims.slot = s.claims.slot := kept_of_apart h hf (p := .slot) (by decide)
  unfold State.EntriesOk
  rwa [hj, hown, hlist, hslot]

/-- The pieces that the agreement speaks of. -/
def standingPieces : List Piece :=
  [.supply, .pins, .startup, .image, .strings, .job, .withdrawals, .slot, .sequencer, .visits]

theorem apart_mono {e d : List Piece} (hf : Apart f e) (he : ∀ p ∈ d, p ∈ e) : Apart f d := by
  refine List.all_eq_true.mpr fun p hp => ?_
  have hnot := List.all_eq_true.mp hf p hp
  simp only [Bool.not_eq_true', List.contains_eq_mem, decide_eq_false_iff_not] at hnot ⊢
  exact fun hpd => hnot (he p hpd)

theorem rest_of_frame (h : s.ChangesOnly f t) (hs : s.Rest a)
    (hf : Apart f [.startup, .image, .strings, .job, .withdrawals, .slot, .visits] := by rfl) : t.Rest a := by
  have hheld := fun c => ownOf_of_frame h c (apart_mono hf (by decide))
  have hasked := asked_of_slot (slot_of_frame h (apart_mono hf (by decide)))
  refine ⟨entriesOk_of_frame h hs.entries (apart_mono hf (by decide)), ?_, ?_⟩
  · rw [testView_of_frame h (hheld _) (hasked _) (apart_mono hf (by decide))]
    exact hs.test
  · rw [visitView_of_frame h (hheld _) (hasked _) (apart_mono hf (by decide))]
    exact hs.visit

theorem agrees_of_frame (h : s.ChangesOnly f t) (hs : s.Agrees a) (hf : Apart f standingPieces := by rfl) :
    t.Agrees a := by
  refine ⟨rest_of_frame h hs.toRest (apart_mono hf (by decide)), ?_⟩
  rw [cabinetView_of_frame h (ownOf_of_frame h _ (apart_mono hf (by decide)))
    (asked_of_slot (slot_of_frame h (apart_mono hf (by decide))) _) (apart_mono hf (by decide))]
  exact hs.cabinet

/-! ### The states of the strings (R7) -/

theorem states_of_frame (h : s.ChangesOnly f t) (hf : Apart f [.strings] := by rfl) : t.states = s.states :=
  congrArg (List.map _) (kept_of_apart h hf (p := .strings) (by decide))

theorem onString_states (s : State) (k : Nat) {g : StringRec → StringRec} (hg : ∀ x, (g x).state = x.state) :
    (s.onString k g).states = s.states := by
  show (s.strings.modify k g).map (fun x => x.state) = s.strings.map (fun x => x.state)
  refine List.ext_getElem? fun i => ?_
  simp only [List.getElem?_map, List.getElem?_modify]
  split
  · cases s.strings[i]? <;> simp [hg]
  · simp

theorem setStringState_states (s : State) (k : Nat) (x : StringState) :
    (s.setStringState k x).states = s.states.set k x := by
  show (s.strings.modify k _).map (fun x => x.state) = (s.strings.map (fun x => x.state)).set k x
  refine List.ext_getElem? fun i => ?_
  simp only [List.getElem?_map, List.getElem?_modify, List.getElem?_set]
  split
  · rename_i hk
    subst hk
    by_cases hlt : k < s.strings.length
    · simp [hlt, StringRec.formAvail]
    · simp [hlt]
  · simp

theorem recompute_states (s : State) (k : Nat) : (s.recompute k).states = s.states := by
  unfold State.recompute
  split
  · rename_i r hr
    have hset : (s.withStrings (s.strings.set k (r.recompute (s.params k) s.hostSilent))).states = s.states := by
      obtain ⟨hlt, rfl⟩ := List.getElem?_eq_some_iff.mp hr
      show (s.strings.set k _).map (fun x => x.state) = _
      rw [List.map_set]
      refine List.ext_getElem? fun i => ?_
      rw [List.getElem?_set]
      split
      · rename_i hk
        subst hk
        simp [State.states, hlt, StringRec.recompute, StringRec.formEnergy]
      · rfl
    simp only
    split
    · exact hset
    · exact (states_of_frame (notify_frame ..)).trans hset
  · rfl

theorem verdictEffects_states (s : State) (k : Nat) (v : Verdict) : (s.verdictEffects k v).states = s.states := by
  cases v with
  | pass =>
    simp only [State.verdictEffects]
    split
    · rw [recompute_states]
      exact onString_states s k fun _ => rfl
    · rfl
  | failVoltage =>
    have hkappa : ∀ p (x : StringRec), (x.setKappa p).state = x.state := fun p x => by
      unfold StringRec.setKappa
      split <;> rfl
    simp only [State.verdictEffects]
    refine (onString_states _ k (g := StringRec.empty _ _) fun _ => rfl).trans ?_
    rw [recompute_states, onString_states s k (hkappa _)]
  | inconclusive | abortedHost | abortedDeficit | abortedStale | abortedBypass => rfl

theorem endTest_states (s : State) (v : Verdict) : (s.endTest v).states = s.states.set s.job.k .inService := by
  have hclosed : (s.testClosed v).states = s.states.set s.job.k .inService := by
    show (State.onString _ s.job.k (StringRec.closeTest v s.now)).states = _
    refine (onString_states _ _ (g := StringRec.closeTest v s.now) fun _ => rfl).trans ?_
    rw [states_of_frame (release_frame ..)]
    exact setStringState_states (s.onOuts (fun o => { o with dischReq := false })) s.job.k .inService
  rw [endTest_eq, states_of_frame (testEndNotice_frame ..)]
  refine (onString_states _ _ (g := StringRec.formAvail _) fun _ => rfl).trans ?_
  rw [verdictEffects_states, hclosed]

/-! ### The own entries of a class -/

/-- Two classes that share no kind. -/
def ClassesApart (c d : WKind → Bool) : Prop := [WKind.bypass, .maint, .test, .service].all (fun k => !(c k && d k)) = true

theorem not_of_classesApart {c d : WKind → Bool} (h : ClassesApart c d) {k : WKind} (hk : c k = true) : d k = false := by
  have hmem : k ∈ [WKind.bypass, .maint, .test, .service] := by cases k <;> decide
  simpa [hk] using List.all_eq_true.mp h k hmem

/-- A release takes no entry of another class. -/
theorem release_ownOf_other (s : State) {c d : WKind → Bool} (hcd : ClassesApart c d := by rfl) :
    (s.release c).ownOf d = s.ownOf d := by
  have hown : (s.release c).own = s.own := own_of_frame (release_frame s c)
  cases hw : s.ownOfClass c with
  | none => rw [release_none hw]
  | some w =>
    unfold State.ownOf State.ownWithdrawals
    rw [release_list hw, hown, List.filter_filter, List.filter_filter, List.filter_filter]
    refine List.filter_congr fun x _ => ?_
    cases hc : c x.kind
    · simp
    · simp [not_of_classesApart hcd hc]

/-- A release takes the one entry of its class. -/
theorem release_ownOf_self {c : WKind → Bool} (hone : (s.ownOf c).length ≤ 1) : (s.release c).ownOf c = [] := by
  have hown : (s.release c).own = s.own := own_of_frame (release_frame s c)
  cases hw : s.ownOfClass c with
  | none =>
    rw [release_none hw]
    exact List.filter_eq_nil_iff.mpr (List.find?_eq_none.mp hw)
  | some w =>
    obtain ⟨hmem, howner, hkind⟩ := ownOfClass_some hw
    have hsingle : ∀ x ∈ s.ownOf c, x = w := by
      have hin := mem_ownOf.mpr ⟨hmem, howner, hkind⟩
      have hlen : (s.ownOf c).length = 1 := le_antisymm hone (List.length_pos_of_mem hin)
      obtain ⟨y, hy⟩ := List.length_eq_one_iff.mp hlen
      rw [hy] at hin ⊢
      exact fun x hx => (List.mem_singleton.mp hx).trans (List.mem_singleton.mp hin).symm
    refine List.eq_nil_iff_forall_not_mem.mpr fun x hx => ?_
    obtain ⟨hxin, hxown, hxkind⟩ := mem_ownOf.mp hx
    rw [release_list hw, List.mem_filter] at hxin
    rw [hown] at hxown
    obtain rfl := hsingle x (mem_ownOf.mpr ⟨hxin.1, hxown, hxkind⟩)
    simp [Withdrawal.isFor, howner, hkind] at hxin

theorem entriesAgree_sublist {j : Bool} {own : Nat} {l m : List Withdrawal} {x : Slot} (h : EntriesAgree a j own l x)
    (hm : m.Sublist l) : EntriesAgree a j own m x where
  fit w hw := h.fit w (hm.subset hw)
  distinct := h.distinct.sublist (hm.map _)
  room := ((hm.filter _).length_le).trans h.room
  flight ha q id tag d hx w hw := h.flight ha q id tag d hx w (hm.subset hw)
  before hj := by
    obtain ⟨rfl, hx⟩ := h.before hj
    exact ⟨List.sublist_nil.mp hm, hx⟩

/-- A slot that holds no claim in flight but one of the id in flight leaves the entries in order. -/
theorem entriesAgree_slot {j : Bool} {own : Nat} {l : List Withdrawal} {x y : Slot} (h : EntriesAgree a j own l x)
    (hfree : x = .free → y = .free)
    (hid : ∀ q id tag d, y = .inFlight q id tag d → ∃ q' tag' d', x = .inFlight q' id tag' d') :
    EntriesAgree a j own l y :=
  { h with
    flight := fun ha q id tag d hy => by
      obtain ⟨q', tag', d', hx⟩ := hid q id tag d hy
      exact h.flight ha q' id tag' d' hx
    before := fun hj => ⟨(h.before hj).1, hfree (h.before hj).2⟩ }

/-- An operation that only takes entries out. -/
theorem entriesOk_of_drops (h : s.ChangesOnly f t) (hs : s.EntriesOk a) (hdrops : s.Drops t)
    (hf : Apart f [.startup, .image, .slot] := by rfl) : t.EntriesOk a := by
  have hj := joined_of_startup (kept_of_apart h hf (p := .startup) (by decide))
  have hown := own_of_kept (kept_of_apart h hf (p := .image) (by decide))
  have hslot : t.claims.slot = s.claims.slot := kept_of_apart h hf (p := .slot) (by decide)
  unfold State.EntriesOk
  rw [hj, hown, hslot]
  exact entriesAgree_sublist hs hdrops

end Sys2Proof.Machine

/-! PROOFS. The ageing unit keeps the agreement: the end of a test, its claim's outcome, its abort, and the margin
state that may end it (sections 2.2, 2.3 and 3.6). -/

namespace Sys2Proof.Machine

-- One proof after another: side by side they ask for more thread stacks than there is memory for.
set_option Elab.async false

variable {s t u : State} {a : Bool} {q : Request} {x y : Slot}

/-- `t` keeps all of the agreement of `s`, and the cabinet's view with it. -/
structure State.KeepsRest (a : Bool) (s t : State) : Prop where
  rest : t.Rest a
  cabinet : t.cabinetView = s.cabinetView

theorem keepsRest_refl (h : s.Rest a) : s.KeepsRest a s := ⟨h, rfl⟩

theorem keepsRest_trans (h : s.KeepsRest a t) (k : t.KeepsRest a u) : s.KeepsRest a u :=
  ⟨k.rest, k.cabinet.trans h.cabinet⟩

theorem keepsRest_of_frame {f : List Piece} (h : s.ChangesOnly f t) (hs : s.Rest a)
    (hf : Apart f standingPieces := by rfl) : s.KeepsRest a t :=
  ⟨rest_of_frame h hs (apart_mono hf (by decide)), cabinetView_of_frame h (ownOf_of_frame h _ (apart_mono hf (by decide)))
    (asked_of_slot (slot_of_frame h (apart_mono hf (by decide))) _) (apart_mono hf (by decide))⟩

theorem agrees_of_keepsRest (h : s.Agrees a) (k : s.KeepsRest a t) : t.Agrees a :=
  ⟨k.rest, k.cabinet ▸ h.cabinet⟩

/-! ### The slot and its requesters -/

theorem asked_other {r : Requester} (hq : s.claims.slot.request = some q) (hr : q.requester ≠ r) : s.asked r = none := by
  simp [State.asked, hq, Option.filter, hr]

theorem asked_self (hq : s.claims.slot.request = some q) : s.asked q.requester = some q := asked_eq_some.mpr ⟨hq, rfl⟩

theorem asked_none {r : Requester} (hq : s.claims.slot = .free) : s.asked r = none := by
  simp [State.asked, hq, Slot.request]

/-- The entries where the slot falls FREE. -/
theorem entriesAgree_free {j : Bool} {own : Nat} {l : List Withdrawal} (h : EntriesAgree a j own l x) :
    EntriesAgree a j own l .free :=
  entriesAgree_slot h (fun _ => rfl) fun _ _ _ _ hx => nomatch hx

/-- A part with a request in the slot is JOINED. -/
theorem joined_of_request (h : s.EntriesOk a) (hq : s.claims.slot.request = some q) : s.joined = true := by
  by_contra hj
  rw [(h.before (by simpa using hj)).2] at hq
  cases hq

/-! ### The job where no test runs -/

theorem test_asked_none {c : TestView} (h : c.Agrees) (hstate : c.state ≠ .claiming) : c.asked = none := by
  cases hasked : c.asked with
  | none => rfl
  | some q => exact absurd (h.waits.mp (by rw [hasked]; rfl)) hstate

/-- Where no test runs, no string is in TEST and no TEST entry is held. -/
theorem test_quiet {c : TestView} (h : c.Agrees) (hstate : c.state ≠ .running) :
    c.held = [] ∧ ∀ k : Nat, c.states[k]? ≠ some StringState.test :=
  ⟨h.held.trans (if_neg hstate), fun k hk => hstate ((h.tested k _ hk).mp rfl).1⟩

theorem idle_agrees {c : TestView} (hidle : c.state = .idle) (hheld : c.held = []) (hno : ∀ k : Nat, c.states[k]? ≠ some StringState.test)
    (hasked : c.asked = none) : c.Agrees where
  held := by rw [hheld, hidle]; rfl
  tested k x hx := ⟨fun ht => absurd (ht ▸ hx) (hno k), fun hr => by rw [hidle] at hr; cases hr.1⟩
  place h := absurd hidle h
  asked q hq := by rw [hasked] at hq; cases hq
  waits := by rw [hasked, hidle]; simp

/-! ### The end of a test (R46) -/

theorem endTest_ownOf (s : State) (v : Verdict) (c : WKind → Bool) : (s.endTest v).ownOf c = (((s.onOuts (fun o =>
    { o with dischReq := false })).setStringState s.job.k .inService).release WKind.isTest).ownOf c := by
  rw [endTest_eq, ownOf_of_frame (testEndNotice_frame ..), ownOf_of_frame (onString_frame ..),
    ownOf_of_frame (verdictEffects_frame ..)]
  exact (ownOf_of_frame (withJob_frame ..) c).trans (ownOf_of_frame (onString_frame ..) c)

theorem endTest_keepsRest (h : s.Rest a) (hrun : s.job.state = .running) (v : Verdict) :
    s.KeepsRest a (s.endTest v) := by
  have hframe := endTest_frame s v
  have hasked := asked_of_slot (slot_of_frame hframe)
  have hothers : ∀ {d : WKind → Bool}, ClassesApart WKind.isTest d → (s.endTest v).ownOf d = s.ownOf d :=
    fun hd => (endTest_ownOf s v _).trans (release_ownOf_other _ hd)
  have hnone : (s.endTest v).ownOf WKind.isTest = [] :=
    (endTest_ownOf s v _).trans (release_ownOf_self (held_lengths h).1)
  refine ⟨⟨entriesOk_of_drops hframe h.entries (endTest_drops s v), ?_, ?_⟩, ?_⟩
  · obtain ⟨hjob, -⟩ := endTest_job s v
    refine idle_agrees (congrArg TestJob.state hjob) (congrArg (List.map _) hnone) (fun k hk => ?_) ?_
    · have hk : (s.states.set s.job.k .inService)[k]? = some .test := (endTest_states s v) ▸ hk
      rw [List.getElem?_set] at hk
      split at hk
      · split at hk <;> cases hk
      · rename_i hne
        exact hne ((h.test.tested k _ hk).mp rfl).2
    · exact (hasked _).trans (test_asked_none h.test (by rw [show s.testView.state = .running from hrun]; decide))
  · rw [visitView_of_frame hframe (hothers rfl) (hasked _)]
    exact h.visit
  · exact cabinetView_of_frame hframe (hothers rfl) (hasked _)

/-! ### A claim whose slot has fallen FREE -/

/-- `u` is `s` with its slot FREE, whatever frames have been queued. -/
structure State.Frees (s u : State) : Prop where
  frame : s.ChangesOnly [.slot, .ownQueue] u
  slot : u.claims.slot = .free

theorem setSlot_frees (s : State) : s.Frees (s.setSlot .free) := ⟨changesOnly_mono (setSlot_frame ..) rfl, rfl⟩

theorem frees_of_frame (h : s.Frees t) (k : t.ChangesOnly [.ownQueue] u) : s.Frees u :=
  ⟨changesOnly_then h.frame k rfl rfl, (slot_of_frame k).trans h.slot⟩

theorem entriesOk_freed {f : List Piece} (h : s.ChangesOnly f t) (hs : s.EntriesOk a) (hslot : t.claims.slot = .free)
    (hf : Apart f [.startup, .image, .withdrawals] := by rfl) : t.EntriesOk a := by
  have hj := joined_of_startup (kept_of_apart h hf (p := .startup) (by decide))
  have hown := own_of_kept (kept_of_apart h hf (p := .image) (by decide))
  obtain ⟨hlist, -⟩ := kept_of_apart h hf (p := .withdrawals) (by decide)
  unfold State.EntriesOk
  rw [hj, hown, hlist, hslot]
  exact entriesAgree_free hs

/-- A request that is answered to the ageing unit finds the job CLAIMING, given up as the request is. -/
theorem claiming_of_request (h : s.Rest a) (hq : s.claims.slot.request = some q) (hwho : q.requester = .ageing) :
    s.job.state = .claiming ∧ q.kind = .test ∧ q.scope = .string s.job.k ∧ q.givenUp = s.job.givenUp.isSome := by
  have hasked : s.asked .ageing = some q := hwho ▸ asked_self hq
  exact ⟨h.test.waits.mp (by rw [show s.testView.asked = some q from hasked]; rfl), h.test.asked q hasked⟩

/-- A TEST claim that is not granted, or is given up, brings the job back to IDLE (R40). -/
theorem denied_keepsRest (h : s.Rest a) (hq : s.claims.slot.request = some q) (hwho : q.requester = .ageing)
    (hfree : s.ChangesOnly [.slot, .ownQueue, .job] t) (hslot : t.claims.slot = .free) (o : ClaimOutcome) (b c : Nat) :
    s.KeepsRest a (t.testDenied o b c) := by
  obtain ⟨hclaiming, -⟩ := claiming_of_request h hq hwho
  obtain ⟨hheld, hno⟩ := test_quiet h.test (by rw [show s.testView.state = .claiming from hclaiming]; decide)
  have hframe : s.ChangesOnly [.slot, .ownQueue, .job, .notices] (t.testDenied o b c) :=
    changesOnly_then hfree (testDenied_frame ..) rfl rfl
  have hslot : (t.testDenied o b c).claims.slot = .free := (slot_of_frame (testDenied_frame ..)).trans hslot
  have hother : ∀ r, r ≠ .ageing → (t.testDenied o b c).asked r = s.asked r := fun r hr => by
    rw [asked_none hslot, asked_other hq (hwho ▸ hr.symm)]
  have hjob : (t.testDenied o b c).job = TestJob.blank := (notify_frame ..).kept .job (by decide)
  refine ⟨⟨entriesOk_freed hframe h.entries hslot, ?_, ?_⟩, ?_⟩
  · refine idle_agrees (congrArg TestJob.state hjob) ?_ (fun k => ?_) (asked_none hslot)
    · exact (congrArg (List.map _) (ownOf_of_frame hframe _)).trans hheld
    · rw [show (t.testDenied o b c).testView.states = s.testView.states from states_of_frame hframe]
      exact hno k
  · rw [visitView_of_frame hframe (ownOf_of_frame hframe _) (hother _ (by decide))]
    exact h.visit
  · exact cabinetView_of_frame hframe (ownOf_of_frame hframe _) (hother _ (by decide))

theorem reportTest_denied (h : s.Rest a) (hq : s.claims.slot.request = some q) (hwho : q.requester = .ageing)
    (hfree : s.Frees t) {f : Final} (hfail : f.outcome ≠ .granted ∨ q.givenUp = true) :
    s.KeepsRest a (t.reportTest f) := by
  obtain ⟨hclaiming, -, -, hgiven⟩ := claiming_of_request h hq hwho
  have hjob : t.job = s.job := hfree.frame.kept .job (by decide)
  cases hcause : s.job.givenUp with
  | some c =>
    rw [reportTest_givenUp (by rw [hjob]; exact hclaiming) (by rw [hjob]; exact hcause)]
    exact denied_keepsRest h hq hwho (changesOnly_mono hfree.frame rfl) hfree.slot ..
  | none =>
    rw [reportTest_failed (by rw [hjob]; exact hclaiming) (by rw [hjob]; exact hcause)
      (hfail.resolve_right (by simp [hgiven, hcause]))]
    exact denied_keepsRest h hq hwho (changesOnly_mono hfree.frame rfl) hfree.slot ..

/-! ### An event that ends or gives up a test (R41, R45) -/

/-- The slot of a request that is given up in flight bears the mark. -/
theorem entriesAgree_marked {j : Bool} {own : Nat} {l : List Withdrawal} {id tag d : Nat}
    (h : EntriesAgree a j own l (.inFlight q id tag d)) :
    EntriesAgree a j own l (.inFlight { q with givenUp := true } id tag d) :=
  entriesAgree_slot h (fun hx => nomatch hx) fun _ _ _ _ hy => by
    cases hy
    exact ⟨_, _, _, rfl⟩

/-- A test whose claim is in flight is given up: the job and the request bear the mark (R41). -/
theorem abortTest_keepsRest_inFlight (h : s.Rest a) {id tag d : Nat} (hslot : s.claims.slot = .inFlight q id tag d)
    (hwho : q.requester = .ageing) (hgiven : s.job.givenUp = none) (c : AbortCause) : s.KeepsRest a (s.abortTest c) := by
  have hq : s.claims.slot.request = some q := by rw [hslot]; rfl
  obtain ⟨hclaiming, hkind, hscope, hmark⟩ := claiming_of_request h hq hwho
  rw [abortTest_of_inFlight hclaiming hgiven hwho hslot (by simp [hmark, hgiven])]
  have hframe : s.ChangesOnly [.job, .slot] ((s.withJob { s.job with givenUp := some c }).setSlot
      (.inFlight { q with givenUp := true } id tag d)) :=
    changesOnly_then (withJob_frame ..) (setSlot_frame ..) rfl rfl
  have hother : ∀ r, r ≠ .ageing → State.asked ((s.withJob { s.job with givenUp := some c }).setSlot
      (.inFlight { q with givenUp := true } id tag d)) r = s.asked r := fun r hr => by
    rw [asked_other hq (hwho ▸ hr.symm)]
    exact asked_other (q := { q with givenUp := true }) rfl (hwho ▸ hr.symm)
  refine ⟨⟨?_, ?_, ?_⟩, ?_⟩
  · refine entriesAgree_marked (q := q) ?_
    rw [← hslot]
    exact h.entries
  · have hself : State.asked ((s.withJob { s.job with givenUp := some c }).setSlot
        (.inFlight { q with givenUp := true } id tag d)) .ageing = some { q with givenUp := true } :=
      asked_eq_some.mpr ⟨rfl, hwho⟩
    refine ⟨h.test.held, h.test.tested, h.test.place, fun q' hq' => ?_, ⟨fun _ => hclaiming, fun _ => ?_⟩⟩
    · obtain rfl := Option.some.inj (hq'.symm.trans hself)
      exact ⟨hkind, hscope, rfl⟩
    · exact Option.isSome_iff_exists.mpr ⟨_, hself⟩
  · rw [visitView_of_frame hframe (ownOf_of_frame hframe _) (hother _ (by decide))]
    exact h.visit
  · exact cabinetView_of_frame hframe (ownOf_of_frame hframe _) (hother _ (by decide))

theorem abortTest_keepsRest (h : s.Rest a) (c : AbortCause) : s.KeepsRest a (s.abortTest c) := by
  cases hstate : s.job.state with
  | idle =>
    rw [abortTest_idle s c hstate]
    exact keepsRest_refl h
  | running =>
    rw [abortTest_ends c hstate]
    exact endTest_keepsRest h hstate _
  | claiming =>
    cases hgiven : s.job.givenUp with
    | some d =>
      rw [abortTest_nothing (.inr ⟨hstate, by simp [hgiven]⟩)]
      exact keepsRest_refl h
    | none =>
      obtain ⟨q, hq⟩ := Option.isSome_iff_exists.mp (h.test.waits.mpr hstate)
      obtain ⟨hrequest, hwho⟩ := asked_eq_some.mp hq
      cases hslot : s.claims.slot with
      | free =>
        rw [hslot] at hrequest
        cases hrequest
      | inFlight q' id tag d =>
        obtain rfl : q' = q := by simpa [hslot, Slot.request] using hrequest
        exact abortTest_keepsRest_inFlight h hslot hwho hgiven c
      | retryWait q' d =>
        obtain rfl : q' = q := by simpa [hslot, Slot.request] using hrequest
        rw [abortTest_of_retryWait hstate hgiven hwho hslot]
        exact denied_keepsRest h hrequest hwho (changesOnly_then (withJob_frame ..) (setSlot_frame ..) rfl rfl) rfl ..

/-! ### The margin state and the end of an event (R67, R68) -/

theorem marginStep_keepsRest (h : s.Rest a) : s.KeepsRest a s.marginStep := by
  unfold State.marginStep
  simp only
  split
  · exact keepsRest_of_frame (figures_frame ..) h
  · split
    · have hnotice := fun x y z w => keepsRest_of_frame (a := a)
        (marginNotice_frame s s.figuresNow s.marginNow .deficitEnter x y z w) h
      exact keepsRest_trans (hnotice ..) (abortTest_keepsRest (hnotice ..).rest _)
    · exact keepsRest_of_frame (marginNotice_frame ..) h

theorem evalMargin_keepsRest (h : s.Rest a) : s.KeepsRest a s.evalMargin := by
  have hstep := marginStep_keepsRest h
  unfold State.evalMargin
  split
  · simp only
    split
    · exact hstep
    · exact keepsRest_trans hstep (marginStep_keepsRest hstep.rest)
  · exact keepsRest_refl h

theorem finish_keepsRest (s0 : State) (h : s.Rest a) : s.KeepsRest a (State.finish s0 s) := by
  have heval := evalMargin_keepsRest h
  unfold State.finish
  simp only
  split
  · exact keepsRest_trans heval (keepsRest_of_frame (queueStatus_frame _) heval.rest)
  · exact heval

theorem evalMargin_agrees (h : s.Agrees a) : s.evalMargin.Agrees a :=
  agrees_of_keepsRest h (evalMargin_keepsRest h.toRest)

theorem finish_agrees (s0 : State) (h : s.Agrees a) : (State.finish s0 s).Agrees a :=
  agrees_of_keepsRest h (finish_keepsRest s0 h.toRest)

theorem abortTest_agrees (h : s.Agrees a) (c : AbortCause) : (s.abortTest c).Agrees a :=
  agrees_of_keepsRest h (abortTest_keepsRest h.toRest c)

theorem endTest_agrees (h : s.Agrees a) (hrun : s.job.state = .running) (v : Verdict) : (s.endTest v).Agrees a :=
  agrees_of_keepsRest h (endTest_keepsRest h.toRest hrun v)

/-- A row whose event's own effect keeps the agreement. -/
theorem agrees_of_answers {m : State → State → Prop} (h : s.Agrees a) (hans : s.Answers m t)
    (hm : ∀ u, (s.withStatusDue false).Agrees a → m (s.withStatusDue false) u → u.Agrees a) : t.Agrees a := by
  obtain rfl | ⟨-, u, hu, rfl⟩ := hans
  · exact h
  · exact finish_agrees _ (hm u (agrees_of_frame (withStatusDue_frame ..) h) hu)

end Sys2Proof.Machine

/-! PROOFS. What becomes of the own entries, the slot and the sequencer's position in a claim that is sent or granted
(sections 4.2, 4.4 and 5.3). -/

namespace Sys2Proof.Machine

-- One proof after another: side by side they ask for more thread stacks than there is memory for.
set_option Elab.async false

variable {s t u : State} {a : Bool} {q : Request} {x y : Slot} {f : List Piece}

/-! ### A new claim id (R72) -/

/-- A counter past its range starts again at 1, as one at its end does. -/
theorem nextFree_capped (held : Nat → Bool) (fuel c : Nat) :
    nextFree held (fuel + 1) c = nextFree held (fuel + 1) (min 255 c) := by
  have hnext : (if 255 ≤ c then 1 else c + 1) = if 255 ≤ min 255 c then 1 else min 255 c + 1 := by
    split <;> split <;> omega
  unfold nextFree
  rw [hnext]

/-- A new claim id is one that no own entry bears, wherever the counter stands. -/
theorem newClaimId_new (hown : s.ownWithdrawals.length < 255) :
    ∀ w ∈ s.claims.list, w.owner = s.own → w.claimId ≠ s.newClaimId := by
  have hspec := nextFree_spec (held := fun n => s.ownWithdrawals.any (fun w => w.claimId == n))
    (l := s.ownWithdrawals.map (fun w => w.claimId)) (by intro n hn; simpa using hn) (by simpa using hown) (le_refl 255)
    (min_le_left 255 s.claims.lastId)
  rw [← nextFree_capped] at hspec
  obtain ⟨-, -, hfree, -⟩ := hspec
  intro w hw ho hid
  have hno := List.any_eq_false.mp hfree w (List.mem_filter.mpr ⟨hw, beq_iff_eq.mpr ho⟩)
  exact hno (beq_iff_eq.mpr hid)

theorem own_length_of (h : s.Rest a) (hheld : (s.ownOf WKind.isCabinet).length ≤ 1) : s.ownWithdrawals.length < 255 := by
  obtain ⟨htest, hvisit⟩ := held_lengths h
  have := own_classes s
  omega

theorem own_length (h : s.Agrees a) : s.ownWithdrawals.length < 255 := by
  refine own_length_of h.toRest ?_
  rw [show (s.ownOf WKind.isCabinet).length = _ from h.cabinet.held]
  split <;> simp

/-! ### An own entry that joins (R73, R82) -/

theorem entriesAgree_addOwn {j : Bool} {own : Nat} {l : List Withdrawal} {w : Withdrawal} (h : EntriesAgree a j own l x)
    (ho : w.owner = own) (hw : w.active = true ∧ pairs w.kind w.scope = true) (hj : j = true)
    (hnew : ∀ v ∈ l, v.owner = own → v.claimId ≠ w.claimId)
    (hflight : a = true → ∀ q id tag d, x = .inFlight q id tag d → w.claimId ≠ id) : EntriesAgree a j own (l ++ [w]) x where
  fit v hv hvo := by
    obtain hv | hv := List.mem_append.mp hv
    · exact h.fit v hv hvo
    · rwa [List.mem_singleton.mp hv]
  distinct := by
    rw [List.map_append, List.nodup_append]
    refine ⟨h.distinct, List.nodup_singleton _, fun p hp r hr => ?_⟩
    obtain ⟨v, hv, rfl⟩ := List.mem_map.mp hp
    obtain rfl := List.mem_singleton.mp hr
    exact fun heq => hnew v hv ((congrArg Prod.fst heq).trans ho) (congrArg Prod.snd heq)
  room := by simpa [List.filter_append, ho] using h.room
  flight ha q id tag d hx v hv hvo := by
    obtain hv | hv := List.mem_append.mp hv
    · exact h.flight ha q id tag d hx v hv hvo
    · rw [List.mem_singleton.mp hv]
      exact hflight ha q id tag d hx
  before hno := absurd (hj.symm.trans hno) (by decide)

theorem addOwnEntry_ownOf {w : Withdrawal} (ho : w.owner = s.own) (c : WKind → Bool) :
    (s.addOwnEntry w).ownOf c = s.ownOf c ++ if c w.kind then [w] else [] := by
  have hlist : (s.addOwnEntry w).ownWithdrawals = s.ownWithdrawals ++ [w] := by
    show (s.claims.list ++ [w]).filter (fun x => x.owner == s.own) = _
    rw [List.filter_append]
    simp [State.ownWithdrawals, ho]
  rw [State.ownOf, hlist, List.filter_append]
  cases hc : c w.kind <;> simp [State.ownOf, hc]

/-- What a granted claim that was not given up leaves behind, before it is reported. -/
theorem granted_ownOf (hgiven : q.givenUp = false) (id : Nat) (c : WKind → Bool) :
    (s.granted q id).ownOf c = s.ownOf c ++ if c q.kind then [s.grantedEntry q id] else [] := by
  have hgranted : s.granted q id = ((s.setSlot .free).addOwnEntry (s.grantedEntry q id)).sendGrant id q.kind q.scope := by
    unfold State.granted
    rw [hgiven]
    rfl
  rw [hgranted, ownOf_of_frame (sendGrant_frame ..)]
  exact addOwnEntry_ownOf (s := s.setSlot .free) rfl c

theorem granted_slot (s : State) (q : Request) (id : Nat) : (s.granted q id).claims.slot = .free := by
  unfold State.granted
  split
  · exact ((slot_of_frame (sendDrop_frame ..)).trans (slot_of_frame (sendGrant_frame ..)))
  · exact slot_of_frame (sendGrant_frame ..)

theorem granted_entriesOk (h : s.EntriesOk a) (hq : s.claims.slot.request = some q) (hgiven : q.givenUp = false)
    {id : Nat} (hpair : pairs q.kind q.scope = true) (hnew : ∀ w ∈ s.claims.list, w.owner = s.own → w.claimId ≠ id) :
    (s.granted q id).EntriesOk a := by
  have hgranted : s.granted q id = ((s.setSlot .free).addOwnEntry (s.grantedEntry q id)).sendGrant id q.kind q.scope := by
    unfold State.granted
    rw [hgiven]
    rfl
  have hj := joined_of_request h hq
  rw [hgranted]
  refine entriesOk_of_frame (sendGrant_frame ..) ?_
  exact entriesAgree_addOwn (entriesAgree_free h) rfl ⟨rfl, hpair⟩ hj hnew
    fun _ _ _ _ _ hx => nomatch hx

/-- A granted claim that was given up leaves no entry (R86). -/
theorem granted_frees (hgiven : q.givenUp = true) (id : Nat) : s.Frees (s.granted q id) := by
  have hgranted : s.granted q id = ((s.setSlot .free).sendGrant id q.kind q.scope).sendDrop id .released := by
    unfold State.granted
    rw [hgiven]
    rfl
  rw [hgranted]
  exact frees_of_frame (frees_of_frame (setSlot_frees s) (sendGrant_frame ..)) (sendDrop_frame ..)

/-! ### A claim that goes out (R77) -/

theorem sendClaim_asked (s : State) (q : Request) (r : Requester) : (s.sendClaim q).asked r
    = if q.requester = r then some { q with lastId := s.newClaimId } else none := by
  simp only [State.asked, sendClaim_slot, Slot.request, Option.filter]
  by_cases hr : q.requester = r <;> simp [hr]

theorem sendClaim_entriesOk (h : s.Agrees a) (hj : s.joined = true) (q : Request) : (s.sendClaim q).EntriesOk a := by
  have hframe := sendClaim_frame s q
  have hlist : (s.sendClaim q).claims.list = s.claims.list := list_of_frame hframe
  unfold State.EntriesOk
  rw [joined_of_frame hframe, own_of_frame hframe, hlist, sendClaim_slot]
  refine { h.entries with
    flight := fun _ q' id tag d hx w hw ho => ?_
    before := fun hno => absurd (hj.symm.trans hno) (by decide) }
  cases hx
  exact newClaimId_new (own_length h) w hw ho

/-! ### The cabinet's view from JOIN onward -/

/-- The cabinet's view stands where the visit's change leaves a CABINET visit OPEN or not, as it was. -/
theorem cabinetView_of_visit (h : s.ChangesOnly f t) (hheld : t.ownOf WKind.isCabinet = s.ownOf WKind.isCabinet)
    (hasked : t.asked .sequencer = s.asked .sequencer) (hopen : t.cabinetVisitOpen = s.cabinetVisitOpen)
    (hf : Apart f [.supply, .pins, .startup, .sequencer] := by rfl) : t.cabinetView = s.cabinetView := by
  have hpower : t.power = s.power := kept_of_apart h hf (p := .supply) (by decide)
  have hpins : t.pins = s.pins := kept_of_apart h hf (p := .pins) (by decide)
  have hstartup : t.startup = s.startup := kept_of_apart h hf (p := .startup) (by decide)
  have hseq : t.seq = s.seq := kept_of_apart h hf (p := .sequencer) (by decide)
  simp only [State.cabinetView, State.running, hpower, hpins, hstartup, hseq, hopen, hheld, hasked]

/-- The cabinet's view hangs on the sequencer, the entries and the request alone, where the lines and the visit stand. -/
theorem cabinetView_of_seq (h : s.ChangesOnly f t) (hf : Apart f [.supply, .pins, .startup, .visits] := by rfl) :
    t.cabinetView = { s.cabinetView with
      state := t.seq.state, prior := t.seq.prior, superseded := t.seq.superseded, found := t.seq.found
      held := t.ownOf WKind.isCabinet, asked := t.asked .sequencer } := by
  have hpower : t.power = s.power := kept_of_apart h hf (p := .supply) (by decide)
  have hpins : t.pins = s.pins := kept_of_apart h hf (p := .pins) (by decide)
  have hstartup : t.startup = s.startup := kept_of_apart h hf (p := .startup) (by decide)
  have hvisit := cabinetVisitOpen_of_kept (kept_of_apart h hf (p := .visits) (by decide))
  simp only [State.cabinetView, State.running, hpower, hpins, hstartup, hvisit]

/-- What the cabinet's agreement asks from JOIN onward. -/
theorem cabinet_of (h : s.cabinetView.Agrees) (hframe : s.ChangesOnly f t) (hj : s.joined = true)
    (hbypass : s.pins.ssFb = true → t.seq.state.withdrawn = true ∧ t.seq.state ≠ .transferOut)
    (hheld : (t.ownOf WKind.isCabinet).length = if t.seq.state.withdrawn then 1 else 0)
    (hmaint : t.seq.state = .maint →
      t.cabinetVisitOpen = true ∨ ∃ w ∈ t.ownOf WKind.isCabinet, w.kind = .maint ∧ w.unsanctioned = true)
    (hprior : t.seq.prior.all SeqState.onStatic = true)
    (hasked : ∀ q, t.asked .sequencer = some q → q.kind = .bypass ∧ q.scope = .cabinet ∧ q.givenUp = t.seq.superseded)
    (hwaits : (t.asked .sequencer).isSome = true ↔ t.seq.state = .claiming ∨ t.seq.superseded = true)
    (hclaiming : t.seq.state = .claiming → t.seq.superseded = false)
    (hf : Apart f [.supply, .pins, .startup] := by rfl) : t.cabinetView.Agrees := by
  have hpower : t.power = s.power := kept_of_apart hframe hf (p := .supply) (by decide)
  have hpins : t.pins = s.pins := kept_of_apart hframe hf (p := .pins) (by decide)
  have hstartup : t.startup = s.startup := kept_of_apart hframe hf (p := .startup) (by decide)
  have hstart : t.cabinetView.start = .joined := (congrArg StartUp.state hstartup).trans (beq_iff_eq.mp hj)
  refine ⟨fun _ => ?_, fun hw => ?_, fun _ hb => hbypass ?_, fun hn => absurd hstart hn, hheld, hmaint, hprior, hasked, hwaits,
    hclaiming⟩
  · show (t.power && t.pins.resetN) = true
    rw [hpower, hpins]
    exact h.running (.inl (beq_iff_eq.mp hj))
  · rw [hstart] at hw
    cases hw
  · rw [← hpins]
    exact hb

/-- A move of the sequencer between states in which it claims nothing. -/
theorem cabinet_moved (h : s.cabinetView.Agrees) (hframe : s.ChangesOnly f t) (hj : s.joined = true)
    (hslot : t.asked .sequencer = s.asked .sequencer) (hsup : t.seq.superseded = s.seq.superseded)
    (hfrom : s.seq.state ≠ .claiming) (hto : t.seq.state ≠ .claiming)
    (hbypass : s.pins.ssFb = true → t.seq.state.withdrawn = true ∧ t.seq.state ≠ .transferOut)
    (hheld : (t.ownOf WKind.isCabinet).length = if t.seq.state.withdrawn then 1 else 0)
    (hmaint : t.seq.state = .maint →
      t.cabinetVisitOpen = true ∨ ∃ w ∈ t.ownOf WKind.isCabinet, w.kind = .maint ∧ w.unsanctioned = true)
    (hprior : t.seq.prior.all SeqState.onStatic = true)
    (hf : Apart f [.supply, .pins, .startup] := by rfl) : t.cabinetView.Agrees := by
  refine cabinet_of h hframe hj hbypass hheld hmaint hprior ?_ ?_ (fun hc => absurd hc hto) hf
  · rw [hslot, hsup]
    exact h.asked
  · rw [hslot, hsup]
    refine h.waits.trans ?_
    simp [hto, hfrom, State.cabinetView]

end Sys2Proof.Machine

/-! PROOFS. Every outcome of a claim keeps the agreement: reported to the ageing unit, to the sequencer or to the visit,
whether it is granted, fails, waits for its retry, or is given up (sections 4.4, 5.3 and 6.2). -/

namespace Sys2Proof.Machine

-- One proof after another: side by side they ask for more thread stacks than there is memory for.
set_option Elab.async false

variable {s t u : State} {a : Bool} {q r : Request} {x y : Slot} {f : Final}

/-! ### The ageing unit (R39 to R41) -/

theorem startTest_states {z : StringRec} (hz : s.strings[s.job.k]? = some z) (id : Nat) :
    (s.startTest id).states = s.states.set s.job.k .test := by
  unfold State.startTest
  simp only [hz]
  rw [states_of_frame (notify_frame ..)]
  have hset := setStringState_states (s.onString s.job.k (fun r => { r with
    lastTest := some (newLastTest s.now r.soc s.job.target s.job.limitMin) })) s.job.k .test
  rw [onString_states s s.job.k (g := fun r => { r with
    lastTest := some (newLastTest s.now r.soc s.job.target s.job.limitMin) }) fun _ => rfl] at hset
  exact hset

theorem startTest_job {z : StringRec} (hz : s.strings[s.job.k]? = some z) (id : Nat) :
    (s.startTest id).job = { s.job with state := .running, limitAt := some (s.now + s.job.limitMin * 60000) } := by
  unfold State.startTest
  simp only [hz]
  exact (notify_frame ..).kept .job (by decide)

theorem running_agrees {c : TestView} (hrun : c.state = .running) (hheld : c.held = [.string c.k])
    (htested : ∀ (k : Nat) x, c.states[k]? = some x → (x = StringState.test ↔ c.k = k)) (hplace : c.k < c.states.length)
    (hasked : c.asked = none) : c.Agrees where
  held := by rw [hheld, hrun]; rfl
  tested k x hx := (htested k x hx).trans (by simp [hrun])
  place _ := hplace
  asked q hq := by rw [hasked] at hq; cases hq
  waits := by rw [hasked, hrun]; simp

/-- What answers the ageing unit's request leaves the other two as they were. -/
theorem keepsRest_of_ageing {g : List Piece} (h : s.Rest a) (hq : s.claims.slot.request = some q)
    (hwho : q.requester = .ageing) (hframe : s.ChangesOnly g t) (hslot : t.claims.slot = .free) (hentries : t.EntriesOk a)
    (hown : ∀ c : WKind → Bool, c .test = false → t.ownOf c = s.ownOf c) (htest : t.testView.Agrees)
    (hg : Apart g [.supply, .pins, .startup, .sequencer, .visits] := by rfl) : s.KeepsRest a t := by
  have hother : ∀ w, w ≠ .ageing → t.asked w = s.asked w := fun w hw => by
    rw [asked_none hslot, asked_other hq (hwho ▸ hw.symm)]
  refine ⟨⟨hentries, htest, ?_⟩, ?_⟩
  · rw [visitView_of_frame hframe (hown _ rfl) (hother _ (by decide)) (apart_mono hg (by decide))]
    exact h.visit
  · exact cabinetView_of_frame hframe (hown _ rfl) (hother _ (by decide)) hg

/-- The granted entry of a TEST claim is the one TEST entry. -/
theorem granted_test_ownOf (h : s.Rest a) (hq : s.claims.slot.request = some q) (hwho : q.requester = .ageing)
    (hgiven : q.givenUp = false) (id : Nat) : (s.granted q id).ownOf WKind.isTest = [s.grantedEntry q id]
      ∧ ∀ c : WKind → Bool, c .test = false → (s.granted q id).ownOf c = s.ownOf c := by
  obtain ⟨hclaiming, hkind, -⟩ := claiming_of_request h hq hwho
  obtain ⟨hheld, -⟩ := test_quiet h.test (by rw [show s.testView.state = .claiming from hclaiming]; decide)
  refine ⟨?_, fun c hc => ?_⟩
  · rw [granted_ownOf hgiven, hkind, List.map_eq_nil_iff.mp hheld]
    rfl
  · rw [granted_ownOf hgiven, hkind, hc]
    simp

/-- A granted test starts (R39). -/
theorem startTest_keepsRest (h : s.Rest a) (hq : s.claims.slot.request = some q) (hwho : q.requester = .ageing)
    (hgiven : q.givenUp = false) {id : Nat} (hentries : (s.granted q id).EntriesOk a) :
    s.KeepsRest a ((s.granted q id).startTest id) := by
  obtain ⟨hclaiming, -, hscope, -⟩ := claiming_of_request h hq hwho
  have hstate : s.testView.state = .claiming := hclaiming
  obtain ⟨-, hno⟩ := test_quiet h.test (by rw [hstate]; decide)
  obtain ⟨hself, hown⟩ := granted_test_ownOf h hq hwho hgiven id
  have hgranted := granted_frame s q id
  have hstart := startTest_frame (s.granted q id) id
  have hjob : (s.granted q id).job = s.job := hgranted.kept .job (by decide)
  have hlen : s.job.k < s.states.length := h.test.place (by rw [hstate]; decide)
  obtain ⟨z, hz⟩ : ∃ z, (s.granted q id).strings[(s.granted q id).job.k]? = some z := by
    rw [hjob, strings_of_frame hgranted]
    exact ⟨_, List.getElem?_eq_getElem (by simpa [State.states] using hlen)⟩
  obtain ⟨hrun, hk⟩ : ((s.granted q id).startTest id).job.state = .running
      ∧ ((s.granted q id).startTest id).job.k = s.job.k := by
    rw [startTest_job hz, hjob]
    exact ⟨rfl, rfl⟩
  have hstates : ((s.granted q id).startTest id).states = s.states.set s.job.k .test := by
    rw [startTest_states hz, states_of_frame hgranted, hjob]
  have hslot := (slot_of_frame hstart).trans (granted_slot s q id)
  refine keepsRest_of_ageing h hq hwho (changesOnly_then hgranted hstart
    (e := [.withdrawals, .slot, .ownQueue, .strings, .dischReq, .job, .notices]) rfl rfl) hslot
    (entriesOk_of_frame hstart hentries) (fun c hc => (ownOf_of_frame hstart c).trans (hown c hc)) ?_
  refine running_agrees hrun ?_ (fun k x hx => ?_) ?_ (asked_none hslot)
  · show (State.ownOf _ WKind.isTest).map (fun w => w.scope) = [Scope.string (State.startTest _ id).job.k]
    rw [ownOf_of_frame hstart, hself, hk, ← hscope]
    rfl
  · replace hx : (State.startTest _ id).states[k]? = some x := hx
    show x = .test ↔ (State.startTest _ id).job.k = k
    rw [hstates, List.getElem?_set] at hx
    rw [hk]
    split at hx
    · rename_i hkk
      exact iff_of_true (Option.some.inj hx).symm hkk
    · rename_i hkk
      exact iff_of_false (fun ht => hno k (ht ▸ hx)) hkk
  · show (State.startTest _ id).job.k < (State.startTest _ id).states.length
    rw [hstates, hk, List.length_set]
    exact hlen

/-- A granted test that finds its string unfit gives its entry back (R39). -/
theorem unfitTest_keepsRest (h : s.Rest a) (hq : s.claims.slot.request = some q) (hwho : q.requester = .ageing)
    (hgiven : q.givenUp = false) {id : Nat} (hentries : (s.granted q id).EntriesOk a) (o : ClaimOutcome) (b c : Nat) :
    s.KeepsRest a (((s.granted q id).release WKind.isTest).testDenied o b c) := by
  obtain ⟨hclaiming, -⟩ := claiming_of_request h hq hwho
  obtain ⟨-, hno⟩ := test_quiet h.test (by rw [show s.testView.state = .claiming from hclaiming]; decide)
  obtain ⟨hself, hown⟩ := granted_test_ownOf h hq hwho hgiven id
  have hgranted := granted_frame s q id
  have hrelease := release_frame (s.granted q id) WKind.isTest
  have hdenied := testDenied_frame ((s.granted q id).release WKind.isTest) o b c
  have hframe := changesOnly_then (changesOnly_then hgranted hrelease (e := [.withdrawals, .slot, .ownQueue]) rfl rfl)
    hdenied (e := [.withdrawals, .slot, .ownQueue, .job, .notices]) rfl rfl
  have hslot := (slot_of_frame hdenied).trans ((slot_of_frame hrelease).trans (granted_slot s q id))
  refine keepsRest_of_ageing h hq hwho hframe hslot (entriesOk_of_frame hdenied
    (entriesOk_of_drops hrelease hentries (release_drops ..))) (fun d hd => ?_) (idle_agrees ?_ ?_ (fun k => ?_)
    (asked_none hslot))
  · refine (ownOf_of_frame hdenied d).trans ((release_ownOf_other _ ?_).trans (hown d hd))
    simp [ClassesApart, WKind.isTest, hd]
  · exact congrArg TestJob.state ((notify_frame ..).kept .job (by decide))
  · refine (congrArg (List.map _) (ownOf_of_frame hdenied _)).trans ?_
    rw [release_ownOf_self (by rw [hself]; rfl)]
    rfl
  · show (State.states _)[k]? ≠ _
    rw [states_of_frame hframe]
    exact hno k

/-- A TEST claim that is granted (R39). -/
theorem reportTest_granted_keepsRest (h : s.Rest a) (hq : s.claims.slot.request = some q) (hwho : q.requester = .ageing)
    (hgiven : q.givenUp = false) {id : Nat} (hentries : (s.granted q id).EntriesOk a) :
    s.KeepsRest a ((s.granted q id).reportTest ⟨.granted, id, 0, 0, 0⟩) := by
  obtain ⟨hclaiming, -, -, hmark⟩ := claiming_of_request h hq hwho
  have hjob : (s.granted q id).job = s.job := (granted_frame s q id).kept .job (by decide)
  rw [reportTest_granted (by rw [hjob]; exact hclaiming) (by rw [hjob]; simpa [hgiven] using hmark) rfl]
  split
  · exact startTest_keepsRest h hq hwho hgiven hentries
  · exact unfitTest_keepsRest h hq hwho hgiven hentries ..

/-! ### The sequencer (R104, R106, R112) -/

/-- A request that is answered to the sequencer finds it CLAIMING, or superseded, as the request is given up. -/
theorem bypass_of_request (h : s.Agrees a) (hq : s.claims.slot.request = some q) (hwho : q.requester = .sequencer) :
    q.kind = .bypass ∧ q.scope = .cabinet ∧ q.givenUp = s.seq.superseded
      ∧ (s.seq.superseded = false → s.seq.state = .claiming) := by
  have hasked : s.asked .sequencer = some q := hwho ▸ asked_self hq
  obtain ⟨hk, hs, hg⟩ := h.cabinet.asked q hasked
  have hw : s.seq.state = .claiming ∨ s.seq.superseded = true :=
    h.cabinet.waits.mp (by rw [show s.cabinetView.asked = some q from hasked]; rfl)
  exact ⟨hk, hs, hg, fun hsup => hw.resolve_right (by simp [hsup])⟩

/-- A cabinet that claims stands on the inverter, with no entry. -/
theorem inverter_of_claiming (h : s.Agrees a) (hj : s.joined = true) (hc : s.seq.state = .claiming) :
    s.pins.ssFb = false ∧ s.ownOf WKind.isCabinet = [] := by
  have hwithdrawn : s.cabinetView.state.withdrawn = false := by
    rw [show s.cabinetView.state = .claiming from hc]
    rfl
  refine ⟨?_, ?_⟩
  · by_contra hb
    obtain ⟨hw, -⟩ := h.cabinet.bypass (beq_iff_eq.mp hj) (by simpa [State.cabinetView] using hb)
    rw [hwithdrawn] at hw
    cases hw
  · have hlen := h.cabinet.held
    rw [hwithdrawn] at hlen
    exact List.length_eq_zero_iff.mp hlen

/-- What answers the sequencer's request leaves the other two as they were. -/
theorem rest_of_sequencer {g : List Piece} (h : s.Rest a) (hother : ∀ w, w ≠ .sequencer → t.asked w = s.asked w)
    (hframe : s.ChangesOnly g t) (hentries : t.EntriesOk a)
    (hown : ∀ c : WKind → Bool, ClassesApart WKind.isCabinet c → t.ownOf c = s.ownOf c)
    (hg : Apart g [.job, .strings, .visits] := by rfl) : t.Rest a := by
  refine ⟨hentries, ?_, ?_⟩
  · rw [testView_of_frame hframe (hown _ rfl) (hother _ (by decide)) (apart_mono hg (by decide))]
    exact h.test
  · rw [visitView_of_frame hframe (hown _ rfl) (hother _ (by decide)) (apart_mono hg (by decide))]
    exact h.visit

theorem freed_other (hq : s.claims.slot.request = some q) (hslot : t.claims.slot = .free) :
    ∀ w, w ≠ q.requester → t.asked w = s.asked w := fun w hw => by
  rw [asked_none hslot, asked_other hq hw.symm]

theorem transferResult_seq (s : State) (i b c d : Nat) : (s.transferResult i b c d).seq = s.seq :=
  (notify_frame ..).kept .sequencer (by decide)

theorem goOnline_position (s : State) : s.goOnline.seq.state = .online ∧ s.goOnline.seq.prior = none
    ∧ s.goOnline.seq.superseded = s.seq.superseded := ⟨rfl, rfl, rfl⟩

/-- A superseded request that is answered leaves the sequencer where it stands. -/
theorem superseded_answered (h : s.Rest a) (hq : s.claims.slot.request = some q) (hwho : q.requester = .sequencer)
    (hfree : s.Frees t) (hsup : s.seq.superseded = true) (i : Nat) (f : Final) : (t.reportSeq i f).Rest a
      ∧ (t.reportSeq i f).cabinetView = { s.cabinetView with superseded := false, asked := none } := by
  have hseq : t.seq = s.seq := hfree.frame.kept .sequencer (by decide)
  have hreport : t.reportSeq i f = (t.onSeq (fun q => { q with pending := false, superseded := false })).transferResult i
      resultSuperseded f.outcome.code f.first := by
    unfold State.reportSeq
    rw [hseq, hsup]
    rfl
  rw [hreport]
  have hlast : t.ChangesOnly [.sequencer, .notices] ((t.onSeq (fun q => { q with
      pending := false, superseded := false })).transferResult i resultSuperseded f.outcome.code f.first) :=
    changesOnly_then (onSeq_frame ..) (notify_frame ..) rfl rfl
  have hframe := changesOnly_then hfree.frame hlast (e := [.slot, .ownQueue, .sequencer, .notices]) rfl rfl
  have hslot := (slot_of_frame hlast).trans hfree.slot
  refine ⟨rest_of_sequencer h (fun w hw => freed_other hq hslot w (hwho ▸ hw)) hframe
    (entriesOk_freed hframe h.entries hslot) fun c _ => ownOf_of_frame hframe c, ?_⟩
  rw [cabinetView_of_seq hframe, transferResult_seq, ownOf_of_frame hframe, asked_none hslot]
  simp only [State.onSeq, withSeq_seq, hseq]
  rfl

theorem cabinet_superseded {c : CabinetView} (h : c.Agrees) (hsup : c.superseded = true) :
    CabinetView.Agrees { c with superseded := false, asked := none } := by
  have hnot : c.state ≠ .claiming := fun hc => by
    have := h.claiming hc
    rw [hsup] at this
    cases this
  exact { h with
    asked := fun q hq => nomatch hq
    waits := by simpa using hnot
    claiming := fun _ => rfl }

/-- The sequencer back ONLINE from CLAIMING, with no entry and no request. -/
theorem online_agrees {g : List Piece} (h : s.Agrees a) (hj : s.joined = true) (hc : s.seq.state = .claiming)
    (hframe : s.ChangesOnly g t) (hrest : t.Rest a) (hseq : t.seq.state = .online ∧ t.seq.prior = none
      ∧ t.seq.superseded = s.seq.superseded) (hheld : t.ownOf WKind.isCabinet = []) (hslot : t.claims.slot = .free)
    (hg : Apart g [.supply, .pins, .startup] := by rfl) : t.Agrees a := by
  obtain ⟨hstate, hprior, hsup⟩ := hseq
  obtain ⟨hdown, -⟩ := inverter_of_claiming h hj hc
  have hplain : s.seq.superseded = false := h.cabinet.claiming hc
  refine ⟨hrest, cabinet_of h.cabinet hframe hj (fun hb => ?_) ?_ (fun hm => ?_) ?_ (fun q hq => ?_) ?_ (fun _ => ?_) hg⟩
  · rw [hdown] at hb
    cases hb
  · rw [hheld, hstate]
    rfl
  · rw [hstate] at hm
    cases hm
  · rw [hprior]
    rfl
  · rw [asked_none hslot] at hq
    cases hq
  · rw [asked_none hslot, hstate, hsup, hplain]
    simp
  · rw [hsup, hplain]

theorem reportSeq_failed_agrees (h : s.Agrees a) (hq : s.claims.slot.request = some q) (hwho : q.requester = .sequencer)
    (hfree : s.Frees t) (i : Nat) (hfail : f.outcome ≠ .granted ∨ q.givenUp = true) : (t.reportSeq i f).Agrees a := by
  obtain ⟨-, -, hmark, hclaims⟩ := bypass_of_request h hq hwho
  cases hsup : s.seq.superseded with
  | true =>
    obtain ⟨hrest, hview⟩ := superseded_answered h.toRest hq hwho hfree hsup i f
    exact ⟨hrest, hview ▸ cabinet_superseded h.cabinet hsup⟩
  | false =>
    have hj := joined_of_request h.entries hq
    have hc := hclaims hsup
    have hseq : t.seq = s.seq := hfree.frame.kept .sequencer (by decide)
    have hreport : t.reportSeq i f = (t.onSeq (fun q => { q with pending := false })).goOnline.transferResult i
        f.outcome.code f.second f.reason := by
      unfold State.reportSeq
      rw [hseq, hsup]
      exact if_neg (hfail.resolve_right (by rw [hmark, hsup]; decide))
    rw [hreport]
    have hlast : t.ChangesOnly [.sequencer, .requests, .lamp, .notices] ((t.onSeq (fun q => { q with
        pending := false })).goOnline.transferResult i f.outcome.code f.second f.reason) :=
      changesOnly_then (changesOnly_then (onSeq_frame ..) (goOnline_frame ..) (e := [.sequencer, .requests, .lamp])
        rfl rfl) (notify_frame ..) rfl rfl
    have hframe := changesOnly_then hfree.frame hlast (e := [.slot, .ownQueue, .sequencer, .requests, .lamp, .notices])
      rfl rfl
    have hslot := (slot_of_frame hlast).trans hfree.slot
    refine online_agrees h hj hc hframe (rest_of_sequencer h.toRest (fun w hw => freed_other hq hslot w (hwho ▸ hw))
      hframe (entriesOk_freed hframe h.entries hslot) fun c _ => ownOf_of_frame hframe c) ?_
      ((ownOf_of_frame hframe _).trans (inverter_of_claiming h hj hc).2) hslot
    rw [transferResult_seq, ← hseq]
    exact ⟨rfl, rfl, rfl⟩

/-- A granted BYPASS claim as the sequencer takes it: its entry stands, and nothing is pending. -/
def State.grantTaken (s : State) (q : Request) (id : Nat) : State :=
  (s.granted q id).onSeq (fun x => { x with pending := false })

theorem grantTaken_frame (s : State) (q : Request) (id : Nat) :
    s.ChangesOnly [.withdrawals, .slot, .ownQueue, .sequencer] (s.grantTaken q id) :=
  changesOnly_then (granted_frame s q id) (onSeq_frame ..) rfl rfl

theorem grantTaken_seq (s : State) (q : Request) (id : Nat) :
    (s.grantTaken q id).seq = { s.seq with pending := false } := by
  have hseq : (s.granted q id).seq = s.seq := (granted_frame s q id).kept .sequencer (by decide)
  rw [← hseq]
  rfl

section
variable (h : s.Agrees a) (hq : s.claims.slot.request = some q) (hwho : q.requester = .sequencer)
  (hgiven : q.givenUp = false)
include h hq hwho hgiven

/-- The granted entry of a BYPASS claim is the one cabinet entry. -/
theorem grantTaken_ownOf (id : Nat) : (s.grantTaken q id).ownOf WKind.isCabinet = [s.grantedEntry q id]
    ∧ ∀ c : WKind → Bool, ClassesApart WKind.isCabinet c → (s.grantTaken q id).ownOf c = s.ownOf c := by
  obtain ⟨hkind, -, hmark, hclaims⟩ := bypass_of_request h hq hwho
  obtain ⟨-, hnone⟩ := inverter_of_claiming h (joined_of_request h.entries hq) (hclaims (hmark.symm.trans hgiven))
  refine ⟨(granted_ownOf hgiven id _).trans ?_, fun c hc => (granted_ownOf hgiven id c).trans ?_⟩
  · rw [hkind, hnone]
    rfl
  · rw [hkind, not_of_classesApart hc rfl]
    simp

/-- A cabinet that is ready goes over to bypass (R106). -/
theorem transferOut_agrees {id : Nat} (hentries : (s.granted q id).EntriesOk a) :
    (((s.grantTaken q id).goto .transferOut).startXfer .out .sync).Agrees a := by
  obtain ⟨-, -, hmark, hclaims⟩ := bypass_of_request h hq hwho
  have hj := joined_of_request h.entries hq
  have hsup : s.seq.superseded = false := hmark.symm.trans hgiven
  obtain ⟨hself, hown⟩ := grantTaken_ownOf h hq hwho hgiven id
  have htaken : (s.grantTaken q id).EntriesOk a := entriesOk_of_frame (onSeq_frame ..) hentries
  have hlast : (s.grantTaken q id).ChangesOnly [.sequencer, .requests, .lamp]
      (((s.grantTaken q id).goto .transferOut).startXfer .out .sync) :=
    changesOnly_then (goto_frame ..) (startXfer_frame ..) rfl rfl
  have hframe := changesOnly_then (grantTaken_frame s q id) hlast
    (e := [.withdrawals, .slot, .ownQueue, .sequencer, .requests, .lamp]) rfl rfl
  have hslot := (slot_of_frame hlast).trans (granted_slot s q id)
  obtain ⟨hdown, -⟩ := inverter_of_claiming h hj (hclaims hsup)
  have hsame : (((s.grantTaken q id).goto .transferOut).startXfer .out .sync).seq.superseded = false :=
    (congrArg Sequencer.superseded (grantTaken_seq s q id)).trans hsup
  refine ⟨rest_of_sequencer h.toRest (fun w hw => freed_other hq hslot w (hwho ▸ hw)) hframe
    (entriesOk_of_frame hlast htaken) fun c hc => (ownOf_of_frame hlast c).trans (hown c hc), ?_⟩
  refine cabinet_of h.cabinet hframe hj (fun hb => ?_) ?_ (fun hm => nomatch hm) ?_ (fun q' hq' => ?_)
    ⟨fun hx => ?_, fun hx => ?_⟩ (fun hm => nomatch hm)
  · rw [hdown] at hb
    cases hb
  · rw [ownOf_of_frame hlast, hself]
    rfl
  · exact (congrArg (fun q : Sequencer => q.prior.all SeqState.onStatic) (grantTaken_seq s q id)).trans h.cabinet.prior
  · rw [asked_none hslot] at hq'
    cases hq'
  · rw [asked_none hslot] at hx
    cases hx
  · rw [hsame] at hx
    obtain hx | hx := hx <;> cases hx

/-- A cabinet that has lost its readiness gives the entry back (R104). -/
theorem syncLost_agrees {id : Nat} (hentries : (s.granted q id).EntriesOk a) (i b c d : Nat) :
    (((s.grantTaken q id).release WKind.isCabinet).goOnline.transferResult i b c d).Agrees a := by
  obtain ⟨-, -, hmark, hclaims⟩ := bypass_of_request h hq hwho
  have hj := joined_of_request h.entries hq
  obtain ⟨hself, hown⟩ := grantTaken_ownOf h hq hwho hgiven id
  have htaken : (s.grantTaken q id).EntriesOk a := entriesOk_of_frame (onSeq_frame ..) hentries
  have hrelease := release_frame (s.grantTaken q id) WKind.isCabinet
  have hback : ((s.grantTaken q id).release WKind.isCabinet).ChangesOnly [.sequencer, .requests, .lamp, .notices]
      (((s.grantTaken q id).release WKind.isCabinet).goOnline.transferResult i b c d) :=
    changesOnly_then (goOnline_frame ..) (notify_frame ..) rfl rfl
  have hframe := changesOnly_then (changesOnly_then (grantTaken_frame s q id) hrelease
    (e := [.withdrawals, .slot, .ownQueue, .sequencer]) rfl rfl) hback
    (e := [.withdrawals, .slot, .ownQueue, .sequencer, .requests, .lamp, .notices]) rfl rfl
  have hslot := (slot_of_frame hback).trans ((slot_of_frame hrelease).trans (granted_slot s q id))
  have hentries' := entriesOk_of_frame hback (entriesOk_of_drops hrelease htaken (release_drops ..))
  refine online_agrees h hj (hclaims (hmark.symm.trans hgiven)) hframe (rest_of_sequencer h.toRest
    (fun w hw => freed_other hq hslot w (hwho ▸ hw)) hframe hentries' fun d hd =>
      (ownOf_of_frame hback d).trans ((release_ownOf_other _ hd).trans (hown d hd))) ?_
    ((ownOf_of_frame hback _).trans (release_ownOf_self (by rw [hself]; rfl))) hslot
  have hseq : ((s.grantTaken q id).release WKind.isCabinet).seq = { s.seq with pending := false } :=
    (hrelease.kept .sequencer (by decide)).trans (grantTaken_seq s q id)
  obtain ⟨hstate, hprior, hsup⟩ := goOnline_position ((s.grantTaken q id).release WKind.isCabinet)
  rw [transferResult_seq]
  exact ⟨hstate, hprior, by rw [hsup, hseq]⟩

theorem reportSeq_granted_agrees {id : Nat} (hentries : (s.granted q id).EntriesOk a) (i : Nat) :
    ((s.granted q id).reportSeq i ⟨.granted, id, 0, 0, 0⟩).Agrees a := by
  obtain ⟨-, -, hmark, -⟩ := bypass_of_request h hq hwho
  have hsup : (s.granted q id).seq.superseded = false := by
    rw [show (s.granted q id).seq = s.seq from (granted_frame s q id).kept .sequencer (by decide)]
    exact hmark.symm.trans hgiven
  unfold State.reportSeq
  rw [if_neg (by rw [hsup]; decide), if_pos rfl]
  split
  · exact transferOut_agrees h hq hwho hgiven hentries
  · exact syncLost_agrees h hq hwho hgiven hentries ..

end

/-! ### The visit (R129 to R131) -/

/-- A request that is answered to the visit unit finds a STRING visit ADMITTING, given up as the request is. -/
theorem visit_of_request (h : s.Rest a) (hq : s.claims.slot.request = some q) (hwho : q.requester = .visit) :
    q.kind = .service ∧ ∃ v, s.visit.current = some v ∧ v.scope = q.scope ∧ v.admitting = true ∧ v.givenUp = q.givenUp
      ∧ v.scope ≠ .cabinet := by
  have hasked : s.asked .visit = some q := hwho ▸ asked_self hq
  obtain ⟨hkind, hcur⟩ := h.visit.asked q hasked
  obtain ⟨v, hv, hmark⟩ := Option.map_eq_some_iff.mp hcur
  obtain ⟨hs, ha, hg⟩ : v.scope = q.scope ∧ v.admitting = true ∧ v.givenUp = q.givenUp := by
    simpa [Visit.mark] using hmark
  exact ⟨hkind, v, hv, hs, ha, hg, (h.visit.waits v.mark (by simp [State.visitView, hv]) ha).1⟩

theorem cabinetVisitOpen_admitting {v : Visit} (hv : s.visit.current = some v) (ha : v.admitting = true) :
    s.cabinetVisitOpen = false := by
  simp [State.cabinetVisitOpen, hv, ha]

/-- Without a current visit the visit agrees where no SERVICE entry and no request stands. -/
theorem novisit_agrees {c : VisitView} (hcur : c.current = none) (hheld : c.held = []) (hasked : c.asked = none) :
    c.Agrees where
  held := by rw [hheld, hcur]; rfl
  asked q hq := by rw [hasked] at hq; cases hq
  waits m hm := by rw [hcur] at hm; cases hm

/-- What answers the visit's request leaves the test and the cabinet as they were. -/
theorem keepsRest_of_visit {g : List Piece} (h : s.Rest a) (hother : ∀ w, w ≠ .visit → t.asked w = s.asked w)
    (hframe : s.ChangesOnly g t) (hentries : t.EntriesOk a)
    (hown : ∀ c : WKind → Bool, c .service = false → t.ownOf c = s.ownOf c)
    (hopen : t.cabinetVisitOpen = s.cabinetVisitOpen) (hvisit : t.visitView.Agrees)
    (hg : Apart g [.supply, .pins, .startup, .sequencer, .job, .strings] := by rfl) : s.KeepsRest a t := by
  refine ⟨⟨hentries, ?_, hvisit⟩, ?_⟩
  · rw [testView_of_frame hframe (hown _ rfl) (hother _ (by decide)) (apart_mono hg (by decide))]
    exact h.test
  · exact cabinetView_of_visit hframe (hown _ rfl) (hother _ (by decide)) hopen (apart_mono hg (by decide))

theorem refuseVisit_current {v : Visit} (hv : s.visit.current = some v) (o : ClaimOutcome) (b c : Nat) :
    (s.refuseVisit o b c).visit.current = none := by
  unfold State.refuseVisit
  simp only [hv]
  have hvisit : ((s.retireVisit (some (o, v.givenUp))).notify .visitNotAdmitted v.visitId o.code b
      (if v.givenUp then codeCancelled else c)).visit = (s.retireVisit (some (o, v.givenUp))).visit :=
    (notify_frame ..).kept .visits (by decide)
  rw [hvisit]
  unfold State.retireVisit
  simp only [hv]
  rfl

theorem cabinetVisitOpen_none (hv : s.visit.current = none) : s.cabinetVisitOpen = false := by
  simp [State.cabinetVisitOpen, hv]

/-- A visit that is not admitted goes to the history (R130). -/
theorem refused_keepsRest (h : s.Rest a) (hq : s.claims.slot.request = some q) (hwho : q.requester = .visit)
    (hbefore : s.ChangesOnly [.slot, .ownQueue, .visits] t) (hfree : t.claims.slot = .free) {v : Visit}
    (hcur : t.visit.current = some v) (o : ClaimOutcome) (b c : Nat) : s.KeepsRest a (t.refuseVisit o b c) := by
  obtain ⟨-, v0, hv0, -, ha0, -, -⟩ := visit_of_request h hq hwho
  have hlast := refuseVisit_frame t o b c
  have hframe := changesOnly_then hbefore hlast (e := [.slot, .ownQueue, .visits, .lamp, .notices]) rfl rfl
  have hslot := (slot_of_frame hlast).trans hfree
  have hnone := refuseVisit_current hcur o b c
  refine keepsRest_of_visit h (fun w hw => freed_other hq hslot w (hwho ▸ hw)) hframe
    (entriesOk_freed hframe h.entries hslot) (fun c _ => ownOf_of_frame hframe c)
    ((cabinetVisitOpen_none hnone).trans (cabinetVisitOpen_admitting hv0 ha0).symm) (novisit_agrees ?_ ?_ (asked_none hslot))
  · exact congrArg (Option.map Visit.mark) hnone
  · refine (congrArg (List.map _) (ownOf_of_frame hframe _)).trans (h.visit.held.trans ?_)
    show admittedScopes (s.visit.current.map Visit.mark) = []
    rw [hv0]
    exact if_neg (by simp [Visit.mark, ha0])

theorem reportVisit_refused (h : s.Rest a) (hq : s.claims.slot.request = some q) (hwho : q.requester = .visit)
    (hfree : s.Frees t) (hfail : f.outcome ≠ .granted ∨ q.givenUp = true) : s.KeepsRest a (t.reportVisit f) := by
  obtain ⟨-, v, hv, -, ha, hg, -⟩ := visit_of_request h hq hwho
  have hvisit : t.visit = s.visit := hfree.frame.kept .visits (by decide)
  have hcur : t.visit.current = some v := by rw [hvisit]; exact hv
  have hrefused : ¬ (f.outcome = .granted ∧ v.givenUp = false) := by
    rintro ⟨hgranted, hopen⟩
    obtain hf | hf := hfail
    · exact hf hgranted
    · rw [hg, hf] at hopen
      cases hopen
  rw [reportVisit_admitting hcur ha, if_neg hrefused]
  exact refused_keepsRest h hq hwho (changesOnly_mono hfree.frame rfl) hfree.slot hcur ..

theorem admitVisit_current {v : Visit} (hv : s.visit.current = some v) :
    s.admitVisit.visit.current = some { v with admitting := false } := by
  have hvisit : s.admitVisit.visit = (s.onCurrent (fun v => { v with admitting := false })).formPermit.visit :=
    (visitOpenedNotice_frame _).kept .visits (by decide)
  rw [hvisit]
  show s.visit.current.map _ = _
  rw [hv]
  rfl

theorem reportVisit_admitted (h : s.Rest a) (hq : s.claims.slot.request = some q) (hwho : q.requester = .visit)
    (hgiven : q.givenUp = false) {id : Nat} (hentries : (s.granted q id).EntriesOk a) :
    s.KeepsRest a ((s.granted q id).reportVisit ⟨.granted, id, 0, 0, 0⟩) := by
  obtain ⟨hkind, v, hv, hs, ha, hg, hscope⟩ := visit_of_request h hq hwho
  have hgranted := granted_frame s q id
  have hvisit : (s.granted q id).visit = s.visit := hgranted.kept .visits (by decide)
  have hcur : (s.granted q id).visit.current = some v := by rw [hvisit]; exact hv
  rw [reportVisit_admitting hcur ha, if_pos ⟨rfl, hg.trans hgiven⟩]
  have hlast := admitVisit_frame (s.granted q id)
  have hframe := changesOnly_then hgranted hlast (e := [.withdrawals, .slot, .ownQueue, .visits, .lamp, .notices]) rfl rfl
  have hslot := (slot_of_frame hlast).trans (granted_slot s q id)
  have hopened := admitVisit_current hcur
  have hbefore : s.visitView.held = [] := by
    refine h.visit.held.trans ?_
    show admittedScopes (s.visit.current.map Visit.mark) = []
    rw [hv]
    exact if_neg (by simp [Visit.mark, ha])
  refine keepsRest_of_visit h (fun w hw => freed_other hq hslot w (hwho ▸ hw)) hframe
    (entriesOk_of_frame hlast hentries) (fun c hc => (ownOf_of_frame hlast c).trans ?_) ?_
    ⟨?_, fun q' hq' => ?_, fun m hm hadm => ?_⟩
  · rw [granted_ownOf hgiven, hkind, hc]
    simp
  · rw [cabinetVisitOpen_admitting hv ha]
    simp [State.cabinetVisitOpen, hopened, hscope]
  · have hheld : (s.granted q id).ownOf WKind.isService = [s.grantedEntry q id] := by
      rw [granted_ownOf hgiven, hkind, List.map_eq_nil_iff.mp hbefore]
      rfl
    show (State.ownOf _ WKind.isService).map (fun w => w.scope) = admittedScopes ((State.admitVisit _).visit.current.map
      Visit.mark)
    rw [ownOf_of_frame hlast, hheld, hopened]
    refine Eq.trans ?_ (if_pos ⟨hscope, rfl⟩).symm
    show [q.scope] = [v.scope]
    rw [hs]
  · exact nomatch (asked_none hslot).symm.trans hq'
  · obtain rfl : m = Visit.mark { v with admitting := false } := by
      have hm : (State.admitVisit _).visit.current.map Visit.mark = some m := hm
      rw [hopened] at hm
      exact (Option.some.inj hm).symm
    cases hadm

end Sys2Proof.Machine

/-! PROOFS. The claim unit keeps the agreement: settlement, retries, the timers of the slot, requests that are given up,
and requests that go out (sections 4.2 and 4.4). -/

namespace Sys2Proof.Machine

-- One proof after another: side by side they ask for more thread stacks than there is memory for.
set_option Elab.async false

variable {s t u : State} {a : Bool} {q r : Request} {f : Final}

/-! ### Outcomes and settlement (R82 to R87) -/

/-- A request that is answered otherwise than by a grant, or that was given up. -/
theorem report_failed_agrees (h : s.Agrees a) (hq : s.claims.slot.request = some q) (hfree : s.Frees t)
    (hwho : r.requester = q.requester) (hfail : f.outcome ≠ .granted ∨ q.givenUp = true) : (t.report r f).Agrees a := by
  cases hreq : q.requester with
  | sequencer =>
    rw [report_sequencer (hwho.trans hreq)]
    exact reportSeq_failed_agrees h hq hreq hfree _ hfail
  | ageing =>
    rw [report_ageing (hwho.trans hreq)]
    exact agrees_of_keepsRest h (reportTest_denied h.toRest hq hreq hfree hfail)
  | visit =>
    rw [report_visit (hwho.trans hreq)]
    exact agrees_of_keepsRest h (reportVisit_refused h.toRest hq hreq hfree hfail)

theorem frees_setSlot (h : s.Frees t) : s.Frees (t.setSlot .free) :=
  ⟨changesOnly_then h.frame (setSlot_frame ..) rfl rfl, rfl⟩

theorem finalOutcome_agrees (h : s.Agrees a) (hq : s.claims.slot.request = some q) (hfree : s.Frees (t.setSlot .free))
    (hwho : r.requester = q.requester) (hfail : f.outcome ≠ .granted ∨ q.givenUp = true) :
    (t.finalOutcome r f).Agrees a := report_failed_agrees h hq hfree hwho hfail

theorem pairs_of_request (h : s.Agrees a) (hq : s.claims.slot.request = some q) : pairs q.kind q.scope = true := by
  cases hreq : q.requester with
  | sequencer =>
    obtain ⟨hk, hs, -⟩ := bypass_of_request h hq hreq
    rw [hk, hs]
    rfl
  | ageing =>
    obtain ⟨-, hk, hs, -⟩ := claiming_of_request h.toRest hq hreq
    rw [hk, hs]
    rfl
  | visit =>
    obtain ⟨hk, v, -, hs, -, -, hne⟩ := visit_of_request h.toRest hq hreq
    rw [hk, ← hs]
    cases hscope : v.scope with
    | cabinet => exact absurd hscope hne
    | string k => rfl

/-- A claim that succeeds, where no own entry bears its id (R82). -/
theorem settleGranted_agrees (h : s.Agrees a) (hq : s.claims.slot.request = some q) {id : Nat}
    (hnew : ∀ w ∈ s.claims.list, w.owner = s.own → w.claimId ≠ id) : (s.settleGranted q id).Agrees a := by
  rw [settleGranted_eq]
  cases hgiven : q.givenUp with
  | true => exact report_failed_agrees h hq (granted_frees hgiven id) rfl (.inr hgiven)
  | false =>
    have hentries := granted_entriesOk h.entries hq hgiven (pairs_of_request h hq) hnew
    cases hreq : q.requester with
    | sequencer =>
      rw [report_sequencer hreq]
      exact reportSeq_granted_agrees h hq hreq hgiven hentries _
    | ageing =>
      rw [report_ageing hreq]
      exact agrees_of_keepsRest h (reportTest_granted_keepsRest h.toRest hq hreq hgiven hentries)
    | visit =>
      rw [report_visit hreq]
      exact agrees_of_keepsRest h (reportVisit_admitted h.toRest hq hreq hgiven hentries)

/-- The requests of `t` are those of `s`, as far as the agreement speaks of them. -/
structure State.SameRequests (s t : State) : Prop where
  some : ∀ w r, t.asked w = some r → ∃ q, s.asked w = some q ∧ r.kind = q.kind ∧ r.scope = q.scope ∧ r.givenUp = q.givenUp
  isSome : ∀ w, (t.asked w).isSome = (s.asked w).isSome

theorem sameRequests_of_asked (h : ∀ w, t.asked w = s.asked w) : s.SameRequests t :=
  ⟨fun w r hr => ⟨r, h w ▸ hr, rfl, rfl, rfl⟩, fun w => by rw [h w]⟩

/-- A slot that changes in what the agreement does not speak of. -/
theorem agrees_of_sameRequests {g : List Piece} (h : s.Agrees a) (hframe : s.ChangesOnly g t) (hentries : t.EntriesOk a)
    (hsame : s.SameRequests t)
    (hg : Apart g [.supply, .pins, .startup, .image, .strings, .job, .withdrawals, .sequencer, .visits] := by rfl) :
    t.Agrees a := by
  have hown := fun c => ownOf_of_frame hframe c (apart_mono hg (by decide))
  have hjob : t.job = s.job := kept_of_apart hframe hg (p := .job) (by decide)
  have hstates : t.states = s.states := states_of_frame hframe (apart_mono hg (by decide))
  have hvisit : t.visit = s.visit := kept_of_apart hframe hg (p := .visits) (by decide)
  have hseq : t.seq = s.seq := kept_of_apart hframe hg (p := .sequencer) (by decide)
  have htest : t.testView = { s.testView with asked := t.asked .ageing } := by
    simp only [State.testView, hjob, hstates, hown]
  have hvisitView : t.visitView = { s.visitView with asked := t.asked .visit } := by
    simp only [State.visitView, hvisit, hown]
  have hcabinet : t.cabinetView = { s.cabinetView with asked := t.asked .sequencer } := by
    rw [cabinetView_of_seq hframe (apart_mono hg (by decide)), hseq, hown]
    rfl
  refine ⟨⟨hentries, ?_, ?_⟩, ?_⟩
  · rw [htest]
    refine { h.test with asked := fun r hr => ?_, waits := ?_ }
    · obtain ⟨q, hq, hk, hs, hg⟩ := hsame.some _ r hr
      obtain ⟨hk', hs', hg'⟩ := h.test.asked q hq
      exact ⟨hk.trans hk', hs.trans hs', hg.trans hg'⟩
    · exact (congrArg (· = true) (hsame.isSome .ageing)).to_iff.trans h.test.waits
  · rw [hvisitView]
    refine { h.visit with asked := fun r hr => ?_, waits := fun m hm ha => ?_ }
    · obtain ⟨q, hq, hk, hs, hg⟩ := hsame.some _ r hr
      obtain ⟨hk', hcur⟩ := h.visit.asked q hq
      exact ⟨hk.trans hk', by rw [hs, hg]; exact hcur⟩
    · obtain ⟨hne, hsome⟩ := h.visit.waits m hm ha
      exact ⟨hne, (hsame.isSome .visit).trans hsome⟩
  · rw [hcabinet]
    refine { h.cabinet with asked := fun r hr => ?_, waits := ?_ }
    · obtain ⟨q, hq, hk, hs, hg⟩ := hsame.some _ r hr
      obtain ⟨hk', hs', hg'⟩ := h.cabinet.asked q hq
      exact ⟨hk.trans hk', hs.trans hs', hg.trans hg'⟩
    · exact (congrArg (· = true) (hsame.isSome .sequencer)).to_iff.trans h.cabinet.waits

theorem retryOrEnd_agrees (h : s.Agrees a) (hq : s.claims.slot.request = some q) (hfree : s.Frees t)
    (hfail : f.outcome ≠ .granted) : (t.retryOrEnd q f).Agrees a := by
  unfold State.retryOrEnd
  split
  · exact finalOutcome_agrees h hq (frees_setSlot hfree) rfl (.inl hfail)
  · split
    · exact finalOutcome_agrees h hq (frees_setSlot hfree) rfl (.inl (by decide))
    · have hframe := changesOnly_then hfree.frame (setSlot_frame t (.retryWait q (t.now + t.retryDelay f.outcome)))
        (e := [.slot, .ownQueue]) rfl rfl
      refine agrees_of_sameRequests h hframe ?_ (sameRequests_of_asked fun w => ?_)
      · have hj := joined_of_request h.entries hq
        unfold State.EntriesOk
        rw [joined_of_frame hframe, own_of_frame hframe, list_of_frame hframe]
        exact { h.entries with
          flight := fun _ _ _ _ _ hx => nomatch hx
          before := fun hno => absurd (hj.symm.trans hno) (by decide) }
      · simp only [State.asked, hq]
        rfl

theorem settleFailed_agrees (h : s.Agrees a) (hq : s.claims.slot.request = some q) (hframe : s.ChangesOnly [.ownQueue] t)
    (hfail : f.outcome ≠ .granted) (id : Nat) : (t.settleFailed q id f).Agrees a := by
  have hfree : s.Frees (t.failed id) :=
    ⟨changesOnly_then hframe (failed_frame t id) rfl rfl, slot_of_frame (sendDrop_frame ..)⟩
  unfold State.settleFailed
  simp only
  split
  · exact retryOrEnd_agrees h hq hfree hfail
  · exact retryOrEnd_agrees h hq hfree hfail
  · exact retryOrEnd_agrees h hq hfree hfail
  all_goals exact finalOutcome_agrees h hq (frees_setSlot hfree) rfl (.inl hfail)

theorem returnFailure_not_granted {b : List Byte} (h : s.returnFailure q b = some f) : f.outcome ≠ .granted := by
  unfold State.returnFailure at h
  split at h
  · split at h
    all_goals
      cases h
      exact fun hx => nomatch hx
  · split at h
    · cases h
      exact fun hx => nomatch hx
    · split at h
      · cases h
        exact fun hx => nomatch hx
      · cases h

/-- No own entry bears the claim id in flight. -/
def State.FlightClear (s : State) : Prop := ∀ q id tag d, s.claims.slot = .inFlight q id tag d →
  ∀ w ∈ s.claims.list, w.owner = s.own → w.claimId ≠ id

theorem claimReturned_agrees (h : s.Agrees a) (hclear : s.FlightClear) (b : List Byte) : (s.claimReturned b).Agrees a := by
  cases hslot : s.claims.slot with
  | free => simpa [State.claimReturned, hslot] using h
  | retryWait q d => simpa [State.claimReturned, hslot] using h
  | inFlight q id tag d =>
    have hq : s.claims.slot.request = some q := by rw [hslot]; rfl
    by_cases htag : frTag b = tag
    · cases hf : s.returnFailure q b with
      | none =>
        rw [claimReturned_granted hslot htag hf]
        exact settleGranted_agrees h hq (hclear q id tag d hslot)
      | some f =>
        rw [claimReturned_failed hslot htag hf]
        exact settleFailed_agrees h hq (changesOnly_refl ..) (returnFailure_not_granted hf) id
    · rw [claimReturned_late hslot htag]
      exact h

/-! ### The timers of the slot (R84, R85) -/

theorem unqueueClaim_frame (s : State) (n : Nat) : s.ChangesOnly [.ownQueue] (s.unqueueClaim n) := by
  constructor; intro p hp; cases p <;> simp_all [Piece.kept, State.unqueueClaim, State.onLoop]

theorem claimExpires_agrees (h : s.Agrees a) : s.claimExpires.Agrees a := by
  cases hslot : s.claims.slot with
  | free => simpa [State.claimExpires, hslot] using h
  | retryWait q d => simpa [State.claimExpires, hslot] using h
  | inFlight q id tag d =>
    rw [claimExpires_inFlight hslot]
    exact settleFailed_agrees h (by rw [hslot]; rfl) (unqueueClaim_frame ..) (f := ⟨.lost, 0, 0, 0, 0⟩) (by decide) id

/-- A claim that goes out again for the same request. -/
theorem sendClaim_agrees (h : s.Agrees a) (hq : s.claims.slot.request = some q)
    (hsame : r.requester = q.requester ∧ r.kind = q.kind ∧ r.scope = q.scope ∧ r.givenUp = q.givenUp) :
    (s.sendClaim r).Agrees a := by
  obtain ⟨hwho, hk, hs, hg⟩ := hsame
  have hasked : ∀ w, s.asked w = if q.requester = w then some q else none := fun w => by
    by_cases hw : q.requester = w
    · rw [if_pos hw, ← hw, asked_self hq]
    · rw [if_neg hw, asked_other hq hw]
  refine agrees_of_sameRequests h (sendClaim_frame s r) (sendClaim_entriesOk h (joined_of_request h.entries hq) r)
    ⟨fun w r' hr => ?_, fun w => ?_⟩
  · rw [sendClaim_asked, hwho] at hr
    rw [hasked]
    split at hr
    · rename_i hw
      obtain rfl := Option.some.inj hr
      exact ⟨q, if_pos hw, hk, hs, hg⟩
    · cases hr
  · rw [sendClaim_asked, hwho, hasked]
    split <;> rfl

theorem retryExpires_agrees (h : s.Agrees a) : s.retryExpires.Agrees a := by
  cases hslot : s.claims.slot with
  | free => simpa [State.retryExpires, hslot] using h
  | inFlight q id tag d => simpa [State.retryExpires, hslot] using h
  | retryWait q d =>
    have hq : s.claims.slot.request = some q := by rw [hslot]; rfl
    cases hcheck : s.localCheck (s.ownHyp q.kind q.scope) with
    | some x =>
      rw [retryExpires_refused hslot hcheck]
      exact report_failed_agrees h hq (setSlot_frees s) rfl (.inl fun hx => nomatch hx)
    | none =>
      rw [retryExpires_sent hslot hcheck]
      exact sendClaim_agrees h hq ⟨rfl, rfl, rfl, rfl⟩

/-! ### An admission given up (R131) -/

/-- A current visit that changes in nothing its agreement speaks of. -/
theorem onCurrent_keepsRest (h : s.Rest a) {g : Visit → Visit} (hg : ∀ v, (g v).mark = v.mark) :
    s.KeepsRest a (s.onCurrent g) := by
  have hframe : s.ChangesOnly [.visits] (s.onCurrent g) := onVisit_frame ..
  have hcur : (s.onCurrent g).visit.current = s.visit.current.map g := rfl
  have hmark : ∀ v, (g v).scope = v.scope ∧ (g v).admitting = v.admitting := fun v =>
    ⟨congrArg VisitMark.scope (hg v), congrArg VisitMark.admitting (hg v)⟩
  have hopen : (s.onCurrent g).cabinetVisitOpen = s.cabinetVisitOpen := by
    unfold State.cabinetVisitOpen
    rw [hcur]
    cases s.visit.current with
    | none => rfl
    | some v => simp [hmark v]
  refine keepsRest_of_visit h (fun w _ => rfl) hframe (entriesOk_of_frame hframe h.entries)
    (fun c _ => ownOf_of_frame hframe c) hopen ?_
  have hview : (s.onCurrent g).visitView = s.visitView := by
    have hmap : (s.onCurrent g).visit.current.map Visit.mark = s.visit.current.map Visit.mark := by
      rw [hcur, Option.map_map]
      exact congrArg (fun k => s.visit.current.map k) (funext hg)
    simp only [State.visitView, hmap]
    rfl
  rw [hview]
  exact h.visit

theorem onCurrent_agrees (h : s.Agrees a) {g : Visit → Visit} (hg : ∀ v, (g v).mark = v.mark) : (s.onCurrent g).Agrees a :=
  agrees_of_keepsRest h (onCurrent_keepsRest h.toRest hg)

/-- An admission is given up: its claim in flight bears the mark, or its retry ends it (R86, R131). -/
theorem giveUpVisit_agrees (h : s.Agrees a) {v : Visit} (hv : s.visit.current = some v) (ha : v.admitting = true)
    (hopen : v.givenUp = false) : ((s.onCurrent (fun v => { v with givenUp := true })).giveUp .visit).Agrees a := by
  have hmap : s.visitView.current = some v.mark := by simp [State.visitView, hv]
  obtain ⟨hne, hsome⟩ := h.visit.waits v.mark hmap ha
  obtain ⟨q, hq⟩ := Option.isSome_iff_exists.mp hsome
  obtain ⟨hrequest, hwho⟩ := asked_eq_some.mp hq
  obtain ⟨hkind, hcur⟩ := h.visit.asked q hq
  have hmark : v.mark = ⟨q.scope, true, q.givenUp⟩ := Option.some.inj (hmap.symm.trans hcur)
  have hgiven : q.givenUp = false := (congrArg VisitMark.givenUp hmark).symm.trans hopen
  have hvisits : s.ChangesOnly [.visits] (s.onCurrent (fun v => { v with givenUp := true })) := onVisit_frame ..
  have hcurrent : (s.onCurrent (fun v => { v with givenUp := true })).visit.current = some { v with givenUp := true } := by
    show s.visit.current.map _ = _
    rw [hv]
    rfl
  cases hslot : s.claims.slot with
  | free =>
    rw [hslot] at hrequest
    cases hrequest
  | retryWait q' d =>
    obtain rfl : q' = q := by simpa [hslot, Slot.request] using hrequest
    rw [giveUp_retryWait (s := s.onCurrent (fun v => { v with givenUp := true })) hslot hwho, report_visit hwho,
      reportVisit_admitting (s := (s.onCurrent (fun v => { v with givenUp := true })).setSlot .free)
        (v := { v with givenUp := true }) hcurrent ha, if_neg (fun hx => nomatch hx.1)]
    exact agrees_of_keepsRest h (refused_keepsRest h.toRest hrequest hwho
      (changesOnly_then hvisits (setSlot_frame ..) rfl rfl) rfl hcurrent ..)
  | inFlight q' id tag d =>
    obtain rfl : q' = q := by simpa [hslot, Slot.request] using hrequest
    rw [giveUp_inFlight (s := s.onCurrent (fun v => { v with givenUp := true })) hslot hwho hgiven]
    have hframe := changesOnly_then hvisits (setSlot_frame (s.onCurrent (fun v => { v with givenUp := true }))
      (.inFlight { q' with givenUp := true } id tag d)) (e := [.visits, .slot]) rfl rfl
    have hself : State.asked ((s.onCurrent (fun v => { v with givenUp := true })).setSlot
        (.inFlight { q' with givenUp := true } id tag d)) .visit = some { q' with givenUp := true } :=
      asked_eq_some.mpr ⟨rfl, hwho⟩
    refine agrees_of_keepsRest h (keepsRest_of_visit h.toRest (fun w hw => ?_) hframe ?_
      (fun c _ => ownOf_of_frame hframe c) ?_ ⟨?_, fun r hr => ?_, fun m hm _ => ?_⟩)
    · rw [asked_other hrequest (hwho ▸ hw.symm)]
      exact asked_other (q := { q' with givenUp := true }) rfl (hwho ▸ hw.symm)
    · refine entriesAgree_marked (q := q') ?_
      rw [← hslot]
      exact h.entries
    · rw [cabinetVisitOpen_admitting hv ha]
      exact cabinetVisitOpen_admitting hcurrent ha
    · refine (congrArg (List.map _) (ownOf_of_frame hframe _)).trans (h.visit.held.trans ?_)
      rw [hmap]
      show admittedScopes _ = admittedScopes (Option.map Visit.mark (State.onCurrent s _).visit.current)
      rw [hcurrent]
      rfl
    · obtain rfl := Option.some.inj (hr.symm.trans hself)
      refine ⟨hkind, ?_⟩
      show Option.map Visit.mark (State.onCurrent s _).visit.current = _
      rw [hcurrent]
      exact congrArg some (congrArg (fun m : VisitMark => { m with givenUp := true }) hmark)
    · have hm : Option.map Visit.mark (State.onCurrent s _).visit.current = some m := hm
      rw [hcurrent] at hm
      obtain rfl := Option.some.inj hm
      exact ⟨hne, Option.isSome_iff_exists.mpr ⟨_, hself⟩⟩

end Sys2Proof.Machine

/-! PROOFS. Changes of one own entry, and the entries of peers, keep the agreement (sections 4.5 to 4.7). -/

namespace Sys2Proof.Machine

-- One proof after another: side by side they ask for more thread stacks than there is memory for.
set_option Elab.async false

variable {s t u : State} {a : Bool} {w : Withdrawal} {g : Withdrawal → Withdrawal} {own : Nat} {l : List Withdrawal}
  {x : Slot} {j : Bool}

/-! ### One own entry changed (R92, R93, R96) -/

/-- `g` applied to the entry of owner `own` and claim id `id`. -/
def Withdrawal.changedBy (own id : Nat) (g : Withdrawal → Withdrawal) (v : Withdrawal) : Withdrawal :=
  if v.isFor own id then g v else v

/-- Owner and claim id name one entry. -/
theorem eq_of_isFor (hd : (l.map (fun v => (v.owner, v.claimId))).Nodup) (hw : w ∈ l) (ho : w.owner = own) {v : Withdrawal}
    (hv : v ∈ l) (hfor : v.isFor own w.claimId = true) : v = w := by
  obtain ⟨hvo, hvi⟩ := (isFor_iff ..).mp hfor
  exact List.inj_on_of_nodup_map hd hv hw (by rw [hvo, hvi, ho])

/-- What keeps owner and claim id of an entry. -/
def KeepsId (g : Withdrawal → Withdrawal) : Prop := ∀ v, (g v).owner = v.owner ∧ (g v).claimId = v.claimId

theorem changedBy_keepsId (hg : KeepsId g) (id : Nat) : KeepsId (Withdrawal.changedBy own id g) := fun v => by
  unfold Withdrawal.changedBy
  split
  · exact hg v
  · exact ⟨rfl, rfl⟩

/-- A change entry by entry that keeps owners and claim ids, and leaves own entries fit. -/
theorem entriesAgree_map (h : EntriesAgree a j own l x) (hg : KeepsId g)
    (hfit : ∀ v ∈ l, v.owner = own → (g v).active = true ∧ pairs (g v).kind (g v).scope = true) :
    EntriesAgree a j own (l.map g) x where
  fit v hv hvo := by
    obtain ⟨y, hy, rfl⟩ := List.mem_map.mp hv
    exact hfit y hy ((hg y).1.symm.trans hvo)
  distinct := by
    rw [List.map_map]
    have hsame : ((fun v : Withdrawal => (v.owner, v.claimId)) ∘ g) = fun v => (v.owner, v.claimId) := funext fun v => by
      simp [hg v]
    rw [hsame]
    exact h.distinct
  room := by
    rw [List.filter_map, List.length_map]
    have hsame : ((fun v : Withdrawal => v.owner != own) ∘ g) = fun v => v.owner != own := funext fun v => by
      simp [hg v]
    rw [hsame]
    exact h.room
  flight ha q id tag d hx v hv hvo := by
    obtain ⟨y, hy, rfl⟩ := List.mem_map.mp hv
    rw [(hg y).2]
    exact h.flight ha q id tag d hx y hy ((hg y).1.symm.trans hvo)
  before hj := by
    obtain ⟨rfl, hx⟩ := h.before hj
    exact ⟨rfl, hx⟩

theorem entriesAgree_changed (h : EntriesAgree a j own l x) (hw : w ∈ l) (ho : w.owner = own) (hg : KeepsId g)
    (hfit : (g w).active = true ∧ pairs (g w).kind (g w).scope = true) :
    EntriesAgree a j own (l.map (Withdrawal.changedBy own w.claimId g)) x := by
  refine entriesAgree_map h (changedBy_keepsId hg _) fun v hv hvo => ?_
  unfold Withdrawal.changedBy
  split
  · rename_i hfor
    obtain rfl := eq_of_isFor h.distinct hw ho hv hfor
    exact hfit
  · exact h.fit v hv hvo

/-- The own entries of a class after a change that keeps the class of the entry. -/
theorem changed_ownOf (h : s.EntriesOk a) (hw : w ∈ s.claims.list) (ho : w.owner = s.own) (hg : KeepsId g)
    {c : WKind → Bool} (hc : c (g w).kind = c w.kind) :
    (s.updateEntries (fun v => v.isFor s.own w.claimId) g).ownOf c
      = (s.ownOf c).map (Withdrawal.changedBy s.own w.claimId g) := by
  show ((s.claims.list.map (Withdrawal.changedBy s.own w.claimId g)).filter (fun v => v.owner == s.own)).filter
    (fun v => c v.kind) = _
  unfold State.ownOf State.ownWithdrawals
  rw [List.filter_map, List.filter_map]
  have howner : ((fun v : Withdrawal => v.owner == s.own) ∘ Withdrawal.changedBy s.own w.claimId g)
      = fun v => v.owner == s.own := funext fun v => by
    simp [(changedBy_keepsId hg w.claimId v).1]
  rw [howner]
  refine congrArg (List.map _) (List.filter_congr fun v hv => ?_)
  show c (Withdrawal.changedBy s.own w.claimId g v).kind = c v.kind
  unfold Withdrawal.changedBy
  split
  · rename_i hfor
    obtain rfl := eq_of_isFor h.distinct hw ho (List.mem_filter.mp hv).1 hfor
    exact hc
  · rfl

theorem changed_entriesOk (h : s.EntriesOk a) (hw : w ∈ s.claims.list) (ho : w.owner = s.own) (hg : KeepsId g)
    (hfit : (g w).active = true ∧ pairs (g w).kind (g w).scope = true) :
    (s.updateEntries (fun v => v.isFor s.own w.claimId) g).EntriesOk a := entriesAgree_changed h hw ho hg hfit

/-! ### Entries of peers (R74, R88 to R91, R94) -/

/-- The own entries of `t` are those of `s`, and those of peers find their places. -/
structure PeersMove (own : Nat) (l m : List Withdrawal) : Prop where
  ours : m.filter (fun v => v.owner == own) = l.filter (fun v => v.owner == own)
  distinct : (l.map (fun v => (v.owner, v.claimId))).Nodup → (m.map (fun v => (v.owner, v.claimId))).Nodup
  room : (l.filter (fun v => v.owner != own)).length ≤ 29 → (m.filter (fun v => v.owner != own)).length ≤ 29

theorem peersMove_refl (own : Nat) (l : List Withdrawal) : PeersMove own l l := ⟨rfl, id, id⟩

theorem peersMove_filter {p : Withdrawal → Bool} (hp : ∀ v ∈ l, v.owner = own → p v = true) :
    PeersMove own l (l.filter p) where
  ours := by
    rw [List.filter_filter]
    refine List.filter_congr fun v hv => ?_
    by_cases ho : v.owner = own
    · simp [ho, hp v hv ho]
    · simp [ho]
  distinct hd := hd.sublist (List.filter_sublist.map _)
  room hr := ((List.filter_sublist.filter _).length_le).trans hr

/-- Entries known by a pair that is not an own one are changed to entries of that pair. -/
theorem peersMove_changed {n id : Nat} (hn : n ≠ own)
    (hg : ∀ v, v.owner = n → v.claimId = id → (g v).owner = n ∧ (g v).claimId = id) :
    PeersMove own l (l.map (Withdrawal.changedBy n id g)) := by
  have hid : KeepsId (Withdrawal.changedBy n id g) := fun v => by
    unfold Withdrawal.changedBy
    split
    · rename_i hfor
      obtain ⟨hvo, hvi⟩ := (isFor_iff ..).mp hfor
      obtain ⟨ho, hi⟩ := hg v hvo hvi
      exact ⟨ho.trans hvo.symm, hi.trans hvi.symm⟩
    · exact ⟨rfl, rfl⟩
  refine ⟨?_, fun hd => ?_, fun hr => ?_⟩
  · rw [List.filter_map]
    have hsame : ((fun v : Withdrawal => v.owner == own) ∘ Withdrawal.changedBy n id g) = fun v => v.owner == own :=
      funext fun v => by simp [hid v]
    rw [hsame]
    refine (List.map_congr_left fun v hv => ?_).trans (List.map_id _)
    refine if_neg fun hfor => hn ?_
    exact ((isFor_iff ..).mp hfor).1.symm.trans (beq_iff_eq.mp (List.mem_filter.mp hv).2)
  · rw [List.map_map]
    have hsame : ((fun v : Withdrawal => (v.owner, v.claimId)) ∘ Withdrawal.changedBy n id g)
        = fun v => (v.owner, v.claimId) := funext fun v => by simp [hid v]
    rw [hsame]
    exact hd
  · rw [List.filter_map, List.length_map]
    have hsame : ((fun v : Withdrawal => v.owner != own) ∘ Withdrawal.changedBy n id g) = fun v => v.owner != own :=
      funext fun v => by simp [hid v]
    rw [hsame]
    exact hr

theorem peersMove_add (hn : w.owner ≠ own) (hnew : l.any (fun v => v.isFor w.owner w.claimId) = false)
    (hroom : (l.filter (fun v => v.owner != own)).length < 29) : PeersMove own l (l ++ [w]) where
  ours := by simp [List.filter_append, hn]
  distinct hd := by
    rw [List.map_append, List.nodup_append]
    refine ⟨hd, List.nodup_singleton _, fun p hp r hr => ?_⟩
    obtain ⟨v, hv, rfl⟩ := List.mem_map.mp hp
    obtain rfl := List.mem_singleton.mp hr
    intro heq
    refine List.any_eq_false.mp hnew v hv ((isFor_iff ..).mpr ⟨congrArg Prod.fst heq, congrArg Prod.snd heq⟩)
  room _ := by simpa [List.filter_append, hn] using hroom

theorem entriesAgree_peers {m : List Withdrawal} (h : EntriesAgree a true own l x) (hm : PeersMove own l m) :
    EntriesAgree a true own m x := by
  have hmem : ∀ v ∈ m, v.owner = own → v ∈ l := fun v hv ho => by
    have hin : v ∈ m.filter (fun v => v.owner == own) := List.mem_filter.mpr ⟨hv, beq_iff_eq.mpr ho⟩
    rw [hm.ours] at hin
    exact (List.mem_filter.mp hin).1
  exact {
    fit := fun v hv ho => h.fit v (hmem v hv ho) ho
    distinct := hm.distinct h.distinct
    room := hm.room h.room
    flight := fun ha q id tag d hx v hv ho => h.flight ha q id tag d hx v (hmem v hv ho) ho
    before := fun hno => nomatch hno }

/-- A move of peers' entries keeps the agreement. -/
theorem peers_agrees {f : List Piece} (h : s.Agrees a) (hj : s.joined = true) (hframe : s.ChangesOnly f t)
    (hm : PeersMove s.own s.claims.list t.claims.list)
    (hf : Apart f [.supply, .pins, .startup, .image, .strings, .job, .slot, .sequencer, .visits] := by rfl) :
    t.Agrees a := by
  have hown : t.own = s.own := own_of_frame hframe (apart_mono hf (by decide))
  have hslot := slot_of_frame hframe (apart_mono hf (by decide))
  have hownOf : ∀ c, t.ownOf c = s.ownOf c := fun c => by
    unfold State.ownOf State.ownWithdrawals
    rw [hown, hm.ours]
  have hstart : t.joined = s.joined := joined_of_startup (kept_of_apart hframe hf (p := .startup) (by decide))
  refine ⟨⟨?_, ?_, ?_⟩, ?_⟩
  · have he := h.entries
    unfold State.EntriesOk at he ⊢
    rw [hj] at he
    rw [hstart, hj, hown, hslot]
    exact entriesAgree_peers he hm
  · rw [testView_of_frame hframe (hownOf _) (asked_of_slot hslot _) (apart_mono hf (by decide))]
    exact h.test
  · rw [visitView_of_frame hframe (hownOf _) (asked_of_slot hslot _) (apart_mono hf (by decide))]
    exact h.visit
  · rw [cabinetView_of_frame hframe (hownOf _) (asked_of_slot hslot _) (apart_mono hf (by decide))]
    exact h.cabinet

end Sys2Proof.Machine

/-! PROOFS. A cabinet that stands on its own entry and claims nothing: the bypass states it may enter, MAINT, and the
way back to the inverter (sections 5.2 to 5.7). -/

namespace Sys2Proof.Machine

-- One proof after another: side by side they ask for more thread stacks than there is memory for.
set_option Elab.async false

variable {s t u : State} {a : Bool} {f : List Piece} {w : Withdrawal} {g : Withdrawal → Withdrawal}

/-! ### One own entry changed, whatever its class -/

/-- The kinds of a changed entry are of the same classes. -/
def SameClasses (k m : WKind) : Prop :=
  m.isCabinet = k.isCabinet ∧ m.isTest = k.isTest ∧ m.isService = k.isService

theorem sameClasses_of_cabinet {k m : WKind} (hk : k.isCabinet = true) (hm : m.isCabinet = true) : SameClasses k m := by
  obtain ⟨-, hkt, hks⟩ := (class_of_kind k).resolve_right (by simp [hk])
  obtain ⟨-, hmt, hms⟩ := (class_of_kind m).resolve_right (by simp [hm])
  exact ⟨hm.trans hk.symm, hmt.trans hkt.symm, hms.trans hks.symm⟩

theorem changed_held (h : s.EntriesOk a) (hw : w ∈ s.claims.list) (ho : w.owner = s.own) (hg : KeepsId g)
    (hscope : ∀ v, (g v).scope = v.scope) {c : WKind → Bool} (hc : c (g w).kind = c w.kind) :
    ((s.updateEntries (fun v => v.isFor s.own w.claimId) g).ownOf c).map (fun v => v.scope)
      = (s.ownOf c).map (fun v => v.scope) := by
  rw [changed_ownOf h hw ho hg hc, List.map_map]
  refine List.map_congr_left fun v _ => ?_
  show (Withdrawal.changedBy s.own w.claimId g v).scope = v.scope
  unfold Withdrawal.changedBy
  split
  · exact hscope v
  · rfl

theorem changed_rest (h : s.Rest a) (hw : w ∈ s.claims.list) (ho : w.owner = s.own) (hg : KeepsId g)
    (hscope : ∀ v, (g v).scope = v.scope) (hfit : (g w).active = true ∧ pairs (g w).kind (g w).scope = true)
    (hsame : SameClasses w.kind (g w).kind) : (s.updateEntries (fun v => v.isFor s.own w.claimId) g).Rest a := by
  have hheld := fun c hc => changed_held h.entries hw ho hg hscope (c := c) hc
  have htest : (s.updateEntries (fun v => v.isFor s.own w.claimId) g).testView = s.testView := by
    unfold State.testView
    rw [hheld _ hsame.2.1]
    rfl
  have hvisit : (s.updateEntries (fun v => v.isFor s.own w.claimId) g).visitView = s.visitView := by
    unfold State.visitView
    rw [hheld _ hsame.2.2]
    rfl
  exact ⟨changed_entriesOk h.entries hw ho hg hfit, htest ▸ h.test, hvisit ▸ h.visit⟩

/-! ### A cabinet with an entry and no claim of its own -/

/-- From JOIN onward a cabinet has its own entry, and its request, if there is one, is superseded. -/
structure CabinetView.Holds (c : CabinetView) : Prop where
  start : c.start = .joined
  running : c.running = true
  held : c.held.length = 1
  asked : ∀ q, c.asked = some q → q.kind = .bypass ∧ q.scope = .cabinet ∧ q.givenUp = c.superseded
  waits : c.asked.isSome = true ↔ c.superseded = true

/-- The agreement but for the sequencer's position. -/
structure State.Holding (a : Bool) (s : State) : Prop where
  rest : s.Rest a
  cabinet : s.cabinetView.Holds

theorem holds_of_agrees {c : CabinetView} (h : c.Agrees) (hj : c.start = .joined) (hw : c.state.withdrawn = true) :
    c.Holds where
  start := hj
  running := h.running (.inl hj)
  held := by rw [h.held, hw]; rfl
  asked := h.asked
  waits := h.waits.trans (or_iff_right fun hc => by rw [hc] at hw; cases hw)

theorem agrees_of_holds {c : CabinetView} (h : c.Holds) (hw : c.state.withdrawn = true)
    (hout : c.ssFb = true → c.state ≠ .transferOut)
    (hmaint : c.state = .maint → c.visitOpen = true ∨ ∃ w ∈ c.held, w.kind = .maint ∧ w.unsanctioned = true)
    (hprior : c.prior.all SeqState.onStatic = true) : c.Agrees := by
  have hclaim : c.state ≠ .claiming := fun hc => by
    rw [hc] at hw
    cases hw
  exact {
    running := fun _ => h.running
    found := fun hwin => by rw [h.start] at hwin; cases hwin
    bypass := fun _ hb => ⟨hw, hout hb⟩
    before := fun hno => absurd h.start hno
    held := by rw [h.held, hw]; rfl
    maint := hmaint
    prior := hprior
    asked := h.asked
    waits := h.waits.trans (or_iff_right hclaim).symm
    claiming := fun hc => absurd hc hclaim }

theorem holding_of_agrees (h : s.Agrees a) (hj : s.joined = true) (hw : s.seq.state.withdrawn = true) : s.Holding a :=
  ⟨h.toRest, holds_of_agrees h.cabinet (beq_iff_eq.mp hj) hw⟩

theorem agrees_of_holding (h : s.Holding a) (hw : s.seq.state.withdrawn = true)
    (hout : s.pins.ssFb = true → s.seq.state ≠ .transferOut)
    (hmaint : s.seq.state = .maint →
      s.cabinetVisitOpen = true ∨ ∃ w ∈ s.ownOf WKind.isCabinet, w.kind = .maint ∧ w.unsanctioned = true)
    (hprior : s.seq.prior.all SeqState.onStatic = true) : s.Agrees a :=
  ⟨h.rest, agrees_of_holds h.cabinet hw hout hmaint hprior⟩

theorem holding_of_keepsRest (h : s.Holding a) (k : s.KeepsRest a t) : t.Holding a := ⟨k.rest, k.cabinet ▸ h.cabinet⟩

/-- The sequencer may move, and the visits stand. -/
theorem holding_moved (h : s.Holding a) (hframe : s.ChangesOnly f t) (hsup : t.seq.superseded = s.seq.superseded)
    (hf : Apart f [.supply, .pins, .startup, .image, .strings, .job, .withdrawals, .slot, .visits] := by rfl) :
    t.Holding a := by
  refine ⟨rest_of_frame hframe h.rest (apart_mono hf (by decide)), ?_⟩
  rw [cabinetView_of_seq hframe (apart_mono hf (by decide)), ownOf_of_frame hframe _ (apart_mono hf (by decide)),
    asked_of_slot (slot_of_frame hframe (apart_mono hf (by decide))), hsup]
  exact { h.cabinet with }

/-- The one entry of a class. -/
theorem ownOf_single {c : WKind → Bool} (hone : (s.ownOf c).length = 1) :
    ∃ w, s.ownOf c = [w] ∧ s.ownOfClass c = some w := by
  obtain ⟨w, hw⟩ := List.length_eq_one_iff.mp hone
  refine ⟨w, hw, ?_⟩
  show s.ownWithdrawals.find? (fun w => c w.kind) = some w
  rw [← List.head?_filter]
  exact congrArg List.head? hw

theorem pairs_of_cabinet {k : WKind} (hk : k.isCabinet = true) : pairs k .cabinet = true := by
  cases k with
  | bypass | maint => rfl
  | test | service => cases hk

/-- A change of the own cabinet entry that leaves it one. -/
theorem changed_single (h : s.Rest a) (hown : s.ownOf WKind.isCabinet = [w]) (hg : KeepsId g)
    (hscope : ∀ v, (g v).scope = v.scope) (hactive : (g w).active = w.active) (hcab : (g w).kind.isCabinet = true) :
    (s.updateEntries (fun v => v.isFor s.own w.claimId) g).Rest a
      ∧ (s.updateEntries (fun v => v.isFor s.own w.claimId) g).ownOf WKind.isCabinet = [g w] := by
  obtain ⟨hmem, howner, hkind⟩ := mem_ownOf.mp (hown ▸ List.mem_singleton.mpr rfl : w ∈ s.ownOf WKind.isCabinet)
  obtain ⟨hlive, hpair⟩ := h.entries.fit w hmem howner
  refine ⟨changed_rest h hmem howner hg hscope ⟨hactive.trans hlive, ?_⟩ (sameClasses_of_cabinet hkind hcab), ?_⟩
  · rw [hscope, scope_of_cabinet hpair hkind]
    exact pairs_of_cabinet hcab
  · rw [changed_ownOf h.entries hmem howner hg (hcab.trans hkind.symm), hown, List.map_singleton,
      Withdrawal.changedBy, if_pos ((isFor_iff ..).mpr ⟨howner, rfl⟩)]

theorem holding_changed (h : s.Holding a) (hown : s.ownOf WKind.isCabinet = [w]) (hg : KeepsId g)
    (hscope : ∀ v, (g v).scope = v.scope) (hactive : (g w).active = w.active) (hcab : (g w).kind.isCabinet = true) :
    (s.updateEntries (fun v => v.isFor s.own w.claimId) g).Holding a
      ∧ (s.updateEntries (fun v => v.isFor s.own w.claimId) g).ownOf WKind.isCabinet = [g w] := by
  obtain ⟨hrest, hself⟩ := changed_single h.rest hown hg hscope hactive hcab
  exact ⟨⟨hrest, { h.cabinet with held := congrArg List.length hself }⟩, hself⟩

/-! ### MAINT (R93, R115, R117) -/

theorem enterMaintKind_holding (h : s.Holding a) (b : Bool) : (s.enterMaintKind b).Holding a
    ∧ ∃ w ∈ (s.enterMaintKind b).ownOf WKind.isCabinet, w.kind = .maint ∧ (b = false → w.unsanctioned = true) := by
  obtain ⟨w, hown, hclass⟩ := ownOf_single h.cabinet.held
  obtain ⟨hholds, hself⟩ := holding_changed (g := Withdrawal.asMaint b) h hown (fun _ => ⟨rfl, rfl⟩) (fun _ => rfl) rfl rfl
  rw [enterMaintKind_eq hclass]
  refine ⟨holding_moved hholds (withStatusDue_frame _ true) rfl, w.asMaint b, ?_, rfl, fun hb => ?_⟩
  · rw [show State.ownOf (State.markStatus _) WKind.isCabinet = _ from ownOf_of_frame (withStatusDue_frame _ true) _, hself]
    exact List.mem_singleton.mpr rfl
  · simp [Withdrawal.asMaint, hb]

theorem leaveMaintKind_holding (h : s.Holding a) : s.leaveMaintKind.Holding a := by
  obtain ⟨w, hown, hclass⟩ := ownOf_single h.cabinet.held
  have hleave : s.leaveMaintKind = (s.updateEntries (fun v => v.isFor s.own w.claimId)
      (fun v => { v with kind := .bypass, unsanctioned := false })).markStatus := by
    unfold State.leaveMaintKind
    rw [hclass]
  rw [hleave]
  refine holding_moved (holding_changed h hown ?_ ?_ ?_ ?_).1 (withStatusDue_frame _ true) rfl
  · exact fun _ => ⟨rfl, rfl⟩
  · exact fun _ => rfl
  · rfl
  · rfl

theorem addAction_mark (x : VisitAction) (v : Visit) : (v.addAction x).mark = v.mark := by
  unfold Visit.addAction
  split <;> rfl

theorem autoAction_keepsRest (h : s.Rest a) (k : ActionKind) : s.KeepsRest a (s.autoAction k) := by
  unfold State.autoAction
  split
  · exact onCurrent_keepsRest h (addAction_mark _)
  · exact keepsRest_refl h

theorem inMaint_frame (s : State) (x : SeqState) : s.ChangesOnly [.sequencer, .requests, .lamp] (s.inMaint x) :=
  changesOnly_then (goto_frame ..) (onSeq_frame ..) rfl rfl

/-- Entry to MAINT (R115). -/
theorem enterMaint_agrees (h : s.Holding a) {x : SeqState} (hx : x.onStatic = true) (announce : Bool) :
    (s.enterMaint x announce).Agrees a := by
  have hin : (s.inMaint x).Holding a := holding_moved h (inMaint_frame s x) rfl
  have hprior : (some x).all SeqState.onStatic = true := hx
  cases hopen : s.cabinetVisitOpen with
  | true =>
    obtain ⟨hkind, -⟩ := enterMaintKind_holding hin true
    have hact := autoAction_keepsRest hkind.rest .maintEntered
    have hseq : (((s.inMaint x).enterMaintKind true).autoAction .maintEntered).seq = (s.inMaint x).seq :=
      ((autoAction_frame ..).kept .sequencer (by decide)).trans ((enterMaintKind_frame ..).kept .sequencer (by decide))
    have hvisit : ((s.inMaint x).enterMaintKind true).cabinetVisitOpen = true :=
      (cabinetVisitOpen_of_kept ((enterMaintKind_frame ..).kept .visits (by decide))).trans hopen
    rw [enterMaint_open hopen]
    refine agrees_of_holding (holding_of_keepsRest hkind hact) (by rw [hseq]; rfl) (fun _ => by rw [hseq]; exact fun hx => nomatch hx)
      (fun _ => .inl ?_) (by rw [hseq]; exact hprior)
    exact (congrArg CabinetView.visitOpen hact.cabinet).trans hvisit
  | false =>
    obtain ⟨hkind, w, hw, hmaint, hmark⟩ := enterMaintKind_holding hin false
    have hagrees : ((s.inMaint x).enterMaintKind false).Agrees a := by
      have hseq : ((s.inMaint x).enterMaintKind false).seq = (s.inMaint x).seq :=
        (enterMaintKind_frame ..).kept .sequencer (by decide)
      exact agrees_of_holding hkind (by rw [hseq]; rfl) (fun _ => by rw [hseq]; exact fun hx => nomatch hx)
        (fun _ => .inr ⟨w, hw, hmaint, hmark rfl⟩) (by rw [hseq]; exact hprior)
    have henter : s.enterMaint x announce = (if announce then ((s.inMaint x).enterMaintKind false).announceForced
        else (s.inMaint x).enterMaintKind false).notify .unsanctionedMaint
          ((s.inMaint x).enterMaintKind false).cabinetId x.code 0 0 := by
      unfold State.enterMaint
      simp only [hopen, Bool.false_eq_true, if_false]
      rfl
    rw [henter]
    refine agrees_of_frame (notify_frame ..) ?_
    split
    · exact agrees_of_frame (announceForced_frame _) hagrees
    · exact hagrees

theorem followRetransfer_position (s : State) : s.followRetransfer.seq.state = s.seq.state
    ∧ s.followRetransfer.seq.prior = s.seq.prior ∧ s.followRetransfer.seq.superseded = s.seq.superseded := by
  rw [followRetransfer_eq]
  exact ⟨rfl, rfl, rfl⟩

theorem static_withdrawn {x : SeqState} (hx : x.onStatic = true) :
    x.withdrawn = true ∧ x ≠ .transferOut ∧ x ≠ .maint := by
  cases x with
  | onBypass | forced | latched => decide
  | online | syncWait | claiming | transferOut | maint | transferIn => cases hx

/-- Entry to ON_BYPASS, FORCED or LATCHED (R106, R110). -/
theorem enterStatic_agrees (h : s.Holding a) {x : SeqState} (hx : x.onStatic = true) : (s.enterStatic x).Agrees a := by
  have hwithdrawn : x.withdrawn = true ∧ x ≠ .transferOut ∧ x ≠ .maint := static_withdrawn hx
  obtain ⟨hw, hout, hnot⟩ := hwithdrawn
  have hframe : s.ChangesOnly [.sequencer, .requests, .lamp] ((s.goto x).onSeq (fun q => { q with prior := none })) :=
    changesOnly_then (goto_frame ..) (onSeq_frame ..) rfl rfl
  have hin : ((s.goto x).onSeq (fun q => { q with prior := none })).Holding a := holding_moved h hframe rfl
  unfold State.enterStatic
  simp only
  split
  · exact enterMaint_agrees hin hx true
  · obtain ⟨hstate, hnone, hsup⟩ := followRetransfer_position ((s.goto x).onSeq (fun q => { q with prior := none }))
    refine agrees_of_holding (holding_moved hin (followRetransfer_frame _) hsup) (by rw [hstate]; exact hw) (fun _ => ?_)
      (fun hm => ?_) (by rw [hnone]; rfl)
    · rw [hstate]
      exact hout
    · rw [hstate] at hm
      exact absurd hm hnot

/-! ### Back on the inverter (R109, R114, R117) -/

/-- The cabinet back ONLINE, its entry released. -/
theorem online_of_holding (h : s.Holding a) (hframe : s.ChangesOnly f t) (hentries : t.EntriesOk a)
    (hnone : t.ownOf WKind.isCabinet = [])
    (hothers : ∀ c : WKind → Bool, ClassesApart WKind.isCabinet c → t.ownOf c = s.ownOf c)
    (hseq : t.seq.state = .online ∧ t.seq.prior = none ∧ t.seq.superseded = s.seq.superseded)
    (hdown : s.pins.ssFb = false)
    (hf : Apart f [.supply, .pins, .startup, .job, .strings, .slot, .visits] := by rfl) : t.Agrees a := by
  obtain ⟨hstate, hprior, hsup⟩ := hseq
  have hslot := asked_of_slot (slot_of_frame hframe (apart_mono hf (by decide)))
  refine ⟨rest_of_sequencer h.rest (fun w _ => hslot w) hframe hentries hothers (apart_mono hf (by decide)), ?_⟩
  rw [cabinetView_of_seq hframe (apart_mono hf (by decide)), hstate, hprior, hsup, hnone, hslot]
  exact {
    running := fun _ => h.cabinet.running
    found := fun hwin => by rw [show s.cabinetView.start = .joined from h.cabinet.start] at hwin; cases hwin
    bypass := fun _ hb => by rw [show s.cabinetView.ssFb = false from hdown] at hb; cases hb
    before := fun _ => rfl
    held := rfl
    maint := fun hm => nomatch hm
    prior := rfl
    asked := h.cabinet.asked
    waits := h.cabinet.waits.trans (by simp [State.cabinetView])
    claiming := fun hc => nomatch hc }

/-- A release before the way back. -/
theorem release_goOnline_agrees (h : s.Holding a) (hdown : s.pins.ssFb = false) :
    (s.release WKind.isCabinet).goOnline.Agrees a := by
  have hrelease := release_frame s WKind.isCabinet
  have hback := goOnline_frame (s.release WKind.isCabinet)
  have hframe := changesOnly_then hrelease hback (e := [.withdrawals, .ownQueue, .sequencer, .requests, .lamp]) rfl rfl
  obtain ⟨hstate, hprior, hsup⟩ := goOnline_position (s.release WKind.isCabinet)
  refine online_of_holding h hframe (entriesOk_of_frame hback (entriesOk_of_drops hrelease h.rest.entries (release_drops ..)))
    ((ownOf_of_frame hback _).trans (release_ownOf_self h.cabinet.held.le))
    (fun c hc => (ownOf_of_frame hback c).trans (release_ownOf_other _ hc)) ⟨hstate, hprior, ?_⟩ hdown
  rw [hsup, show (s.release WKind.isCabinet).seq = s.seq from hrelease.kept .sequencer (by decide)]

/-- A release behind the way back. -/
theorem goOnline_release_agrees (h : s.Holding a) (hdown : s.pins.ssFb = false) :
    (s.goOnline.release WKind.isCabinet).Agrees a := by
  have hback := goOnline_frame s
  have hrelease := release_frame s.goOnline WKind.isCabinet
  have hframe := changesOnly_then hback hrelease (e := [.withdrawals, .ownQueue, .sequencer, .requests, .lamp]) rfl rfl
  have hseq : (s.goOnline.release WKind.isCabinet).seq = s.goOnline.seq := hrelease.kept .sequencer (by decide)
  refine online_of_holding h hframe (entriesOk_of_drops hrelease (entriesOk_of_frame hback h.rest.entries) (release_drops ..))
    (release_ownOf_self ?_) (fun c hc => (release_ownOf_other _ hc).trans (ownOf_of_frame hback c)) ?_ hdown
  · rw [ownOf_of_frame hback]
    exact h.cabinet.held.le
  · rw [hseq]
    exact goOnline_position s

end Sys2Proof.Machine

/-! PROOFS. A forced withdrawal of the cabinet, and the switch lines from JOIN onward, keep the agreement
(sections 5.3 to 5.7 and 4.6). -/

namespace Sys2Proof.Machine

-- One proof after another: side by side they ask for more thread stacks than there is memory for.
set_option Elab.async false

variable {s t u : State} {a : Bool} {f : List Piece} {w : Withdrawal}

/-! ### The entry of a forced withdrawal (R92) -/

/-- What an operation that records the cabinet's withdrawal leaves: one cabinet entry, and all else as it was. -/
structure State.Records (a : Bool) (s t : State) : Prop where
  rest : t.Rest a
  view : t.cabinetView = { s.cabinetView with held := t.ownOf WKind.isCabinet }
  one : (t.ownOf WKind.isCabinet).length = 1

theorem records_of_keepsRest (h : s.Records a t) (k : t.KeepsRest a u) : s.Records a u := by
  have hheld : u.ownOf WKind.isCabinet = t.ownOf WKind.isCabinet := congrArg CabinetView.held k.cabinet
  refine ⟨k.rest, ?_, ?_⟩
  · rw [k.cabinet, h.view, hheld]
  · rw [hheld]
    exact h.one

theorem enterForced_some (hclass : s.ownOfClass WKind.isCabinet = some w) : s.enterForced
    = (s.updateEntries (fun v => v.isFor s.own w.claimId) (fun v => { v with forced := true })).markStatus := by
  unfold State.enterForced
  rw [hclass]

theorem enterForced_none (hclass : s.ownOfClass WKind.isCabinet = none) : s.enterForced
    = (s.onClaims (fun c => { c with lastId := s.newClaimId })).addOwnEntry s.forcedEntry := by
  unfold State.enterForced
  rw [hclass]
  rfl

theorem ownOfClass_none_of_nil {c : WKind → Bool} (hnil : s.ownOf c = []) : s.ownOfClass c = none := by
  show s.ownWithdrawals.find? (fun w => c w.kind) = none
  rw [← List.head?_filter]
  exact congrArg List.head? hnil

/-- A cabinet that has no entry gets one, ACTIVE, with a new id. -/
theorem enterForced_records_new (h : s.Rest a) (hj : s.joined = true) (hnil : s.ownOf WKind.isCabinet = [])
    (hahead : a = true → s.idAhead = true) : s.Records a s.enterForced := by
  rw [enterForced_none (ownOfClass_none_of_nil hnil)]
  have hown := fun c => addOwnEntry_ownOf (s := s.onClaims (fun c => { c with lastId := s.newClaimId }))
    (w := s.forcedEntry) rfl c
  have hself : State.ownOf ((s.onClaims (fun c => { c with lastId := s.newClaimId })).addOwnEntry s.forcedEntry)
      WKind.isCabinet = [s.forcedEntry] := by
    rw [hown, show State.ownOf (s.onClaims (fun c => { c with lastId := s.newClaimId })) WKind.isCabinet
      = s.ownOf WKind.isCabinet from rfl, hnil]
    rfl
  have hother : ∀ c : WKind → Bool, c .bypass = false → State.ownOf ((s.onClaims (fun c =>
      { c with lastId := s.newClaimId })).addOwnEntry s.forcedEntry) c = s.ownOf c := fun c hc => by
    rw [hown, show s.forcedEntry.kind = .bypass from rfl, hc]
    exact List.append_nil _
  refine ⟨⟨?_, ?_, ?_⟩, rfl, congrArg List.length hself⟩
  · have hentries : EntriesAgree a s.joined s.own (s.claims.list ++ [s.forcedEntry]) s.claims.slot := by
      refine entriesAgree_addOwn h.entries rfl ⟨rfl, rfl⟩ hj (newClaimId_new (own_length_of h (by rw [hnil]; decide)))
        fun ha q id tag d hslot => ?_
      have hnot := hahead ha
      show s.newClaimId ≠ id
      simpa [State.idAhead, State.claimInFlight, hslot] using hnot
    exact hentries
  · have hview : State.testView ((s.onClaims (fun c => { c with lastId := s.newClaimId })).addOwnEntry s.forcedEntry)
        = s.testView := by
      unfold State.testView
      rw [hother _ rfl]
      rfl
    rw [hview]
    exact h.test
  · have hview : State.visitView ((s.onClaims (fun c => { c with lastId := s.newClaimId })).addOwnEntry s.forcedEntry)
        = s.visitView := by
      unfold State.visitView
      rw [hother _ rfl]
      rfl
    rw [hview]
    exact h.visit

theorem enterForced_records (h : s.Rest a) (hj : s.joined = true) (hheld : (s.ownOf WKind.isCabinet).length ≤ 1)
    (hahead : a = true → s.idAhead = true) : s.Records a s.enterForced := by
  obtain hnil | hone : s.ownOf WKind.isCabinet = [] ∨ (s.ownOf WKind.isCabinet).length = 1 := by
    rw [← List.length_eq_zero_iff]
    omega
  · exact enterForced_records_new h hj hnil hahead
  · obtain ⟨w, hown, hclass⟩ := ownOf_single hone
    have hcab : WKind.isCabinet w.kind = true := (ownOfClass_some hclass).2.2
    obtain ⟨hrest, hself⟩ := changed_single (g := fun v => { v with forced := true }) h hown
      (fun _ => ⟨rfl, rfl⟩) (fun _ => rfl) rfl hcab
    rw [enterForced_some hclass]
    have hsame := ownOf_of_frame (withStatusDue_frame (s.updateEntries (fun v => v.isFor s.own w.claimId)
      (fun v => { v with forced := true })) true) WKind.isCabinet
    exact ⟨rest_of_frame (withStatusDue_frame _ true) hrest, rfl, (congrArg List.length (hsame.trans hself)).trans rfl⟩

theorem recordForced_records (h : s.Rest a) (hj : s.joined = true) (hheld : (s.ownOf WKind.isCabinet).length ≤ 1)
    (hahead : a = true → s.idAhead = true) : s.Records a s.recordForced := by
  have henter := enterForced_records h hj hheld hahead
  exact records_of_keepsRest henter (keepsRest_of_frame (announceForced_frame _) henter.rest)

/-! ### Steps 1 to 3 of R110 -/

/-- The agreement from JOIN onward but for the switch's level, MAINT and `prior`. -/
structure CabinetView.Stands (c : CabinetView) : Prop where
  start : c.start = .joined
  running : c.running = true
  held : c.held.length = if c.state.withdrawn then 1 else 0
  asked : ∀ q, c.asked = some q → q.kind = .bypass ∧ q.scope = .cabinet ∧ q.givenUp = c.superseded
  waits : c.asked.isSome = true ↔ c.state = .claiming ∨ c.superseded = true
  claiming : c.state = .claiming → c.superseded = false

theorem stands_of_agrees {c : CabinetView} (h : c.Agrees) (hj : c.start = .joined) : c.Stands :=
  ⟨hj, h.running (.inl hj), h.held, h.asked, h.waits, h.claiming⟩

/-- A cabinet that claims nothing is one that holds, once its entry is recorded. -/
theorem holding_of_records (h : s.cabinetView.Stands) (hstate : s.seq.state ≠ .claiming) (hr : s.Records a t) :
    t.Holding a := by
  refine ⟨hr.rest, ?_⟩
  rw [hr.view]
  exact ⟨h.start, h.running, hr.one, h.asked, h.waits.trans (or_iff_right hstate)⟩

/-- The sequencer with its own request superseded (R110 step 3). -/
def State.superseding (t : State) : State := t.onSeq (fun q => { q with superseded := true })

theorem superseding_frame (t : State) : t.ChangesOnly [.sequencer] t.superseding := onSeq_frame ..

section
variable (h : s.cabinetView.Stands) (hstate : s.seq.state = .claiming) (hr : s.Records a t)
include h hstate hr

/-- The sequencer's own request, which stands in the slot in CLAIMING. -/
theorem claiming_request : ∃ q, t.claims.slot.request = some q ∧ q.requester = .sequencer ∧ q.kind = .bypass
    ∧ q.scope = .cabinet ∧ q.givenUp = false := by
  obtain ⟨q, hq⟩ := Option.isSome_iff_exists.mp (h.waits.mpr (.inl hstate))
  have hasked : t.asked .sequencer = s.asked .sequencer := congrArg CabinetView.asked hr.view
  obtain ⟨hslot, hwho⟩ := asked_eq_some.mp (hasked.trans hq)
  obtain ⟨hk, hs, hg⟩ := h.asked q hq
  exact ⟨q, hslot, hwho, hk, hs, hg.trans (h.claiming hstate)⟩

/-- The request in flight is given up, and the sequencer free of it (R110 step 3). -/
theorem superseded_holding : (t.superseding.giveUp .sequencer).Holding a := by
  obtain ⟨q, hrequest, hwho, hkind, hscope, hgiven⟩ := claiming_request h hstate hr
  have hstart : t.cabinetView.start = .joined := (congrArg CabinetView.start hr.view).trans h.start
  have hrun : t.cabinetView.running = true := (congrArg CabinetView.running hr.view).trans h.running
  have honSeq := superseding_frame t
  have hrest : t.superseding.Rest a := rest_of_frame honSeq hr.rest
  have hone : (State.ownOf t.superseding WKind.isCabinet).length = 1 := by
    rw [ownOf_of_frame honSeq]
    exact hr.one
  cases hslot : t.claims.slot with
  | free =>
    rw [hslot] at hrequest
    cases hrequest
  | retryWait q' d =>
    obtain rfl : q' = q := by simpa [hslot, Slot.request] using hrequest
    obtain ⟨hfreed, hview⟩ := superseded_answered hrest hrequest hwho (setSlot_frees t.superseding) rfl q'.lastId
      (Final.bare .abandoned)
    rw [giveUp_retryWait (s := t.superseding) hslot hwho, report_sequencer hwho]
    refine ⟨hfreed, ?_⟩
    rw [hview]
    exact ⟨hstart, hrun, hone, (fun _ hq => nomatch hq), ⟨(fun hx => nomatch hx), (fun hx => nomatch hx)⟩⟩
  | inFlight q' id tag d =>
    obtain rfl : q' = q := by simpa [hslot, Slot.request] using hrequest
    rw [giveUp_inFlight (s := t.superseding) hslot hwho hgiven]
    have hset := setSlot_frame t.superseding (.inFlight { q' with givenUp := true } id tag d)
    have hself : State.asked (t.superseding.setSlot
        (.inFlight { q' with givenUp := true } id tag d)) .sequencer = some { q' with givenUp := true } :=
      asked_eq_some.mpr ⟨rfl, hwho⟩
    refine ⟨rest_of_sequencer hrest (fun w hw => ?_) hset ?_ fun c _ => ownOf_of_frame hset c, ?_⟩
    · rw [asked_other (s := t.superseding) hrequest (hwho ▸ hw.symm)]
      exact asked_other (q := { q' with givenUp := true }) rfl (hwho ▸ hw.symm)
    · refine entriesAgree_marked (q := q') ?_
      rw [← hslot]
      exact hrest.entries
    · refine ⟨hstart, hrun, ?_, fun r hr => ?_, iff_of_true ?_ rfl⟩
      · exact (congrArg List.length (ownOf_of_frame hset _)).trans hone
      · obtain rfl := Option.some.inj (hr.symm.trans hself)
        exact ⟨hkind, hscope, rfl⟩
      · exact Option.isSome_iff_exists.mpr ⟨_, hself⟩

end

/-- Steps 1 to 3 of R110 leave a cabinet that holds. -/
theorem forcedSteps_holding (h : s.Rest a) (hc : s.cabinetView.Stands) (hahead : a = true → s.idAhead = true) :
    s.forcedSteps.Holding a := by
  have hheld : (s.ownOf WKind.isCabinet).length ≤ 1 := by
    rw [show (s.ownOf WKind.isCabinet).length = _ from hc.held]
    split <;> decide
  have hrecord := recordForced_records h (beq_iff_eq.mpr hc.start) hheld hahead
  have hr : s.Records a s.forcedRecord := records_of_keepsRest hrecord (abortTest_keepsRest hrecord.rest _)
  by_cases hclaim : s.seq.state = .claiming
  · rw [forcedSteps_claiming hclaim]
    exact superseded_holding hc hclaim hr
  have hholds := holding_of_records hc hclaim hr
  by_cases hwait : s.seq.state = .syncWait
  · rw [forcedSteps_syncWait hwait]
    refine holding_moved hholds (changesOnly_then (onSeq_frame ..) (notify_frame ..) (e := [.sequencer, .notices]) rfl rfl) ?_
    rw [transferResult_seq]
    rfl
  · rwa [forcedSteps_else hwait hclaim]

/-! ### The switch lines (R106, R109, R110, R114, R115, R117, R118) -/

theorem forcedTransfer_agrees (h : s.Rest a) (hc : s.cabinetView.Stands) (hahead : a = true → s.idAhead = true) :
    s.forcedTransfer.Agrees a := by
  rw [forcedTransfer_eq]
  refine enterStatic_agrees (holding_moved (forcedSteps_holding h hc hahead)
    (changesOnly_then (onSeq_frame ..) (notify_frame ..) (e := [.sequencer, .notices]) rfl rfl) ?_) (forcedState_static s)
  exact (congrArg Sequencer.superseded ((notify_frame ..).kept .sequencer (by decide))).trans rfl

theorem forcedMaint_agrees (h : s.Rest a) (hc : s.cabinetView.Stands) (hahead : a = true → s.idAhead = true) :
    s.forcedMaint.Agrees a := by
  unfold State.forcedMaint
  refine enterMaint_agrees (holding_moved (forcedSteps_holding h hc hahead)
    (changesOnly_then (onSeq_frame ..) (notify_frame ..) (e := [.sequencer, .notices]) rfl rfl) ?_) rfl true
  exact (congrArg Sequencer.superseded ((notify_frame ..).kept .sequencer (by decide))).trans rfl

/-- A rise of SS_FB (R106, R110), whatever the line read in the agreement before. -/
theorem switchToBypass_agrees (h : s.Rest a) (hc : CabinetView.Agrees { s.cabinetView with ssFb := false })
    (hj : s.joined = true) (hahead : a = true → s.idAhead = true) : s.switchToBypass.Agrees a := by
  have hstart : s.cabinetView.start = .joined := beq_iff_eq.mp hj
  have hstands : s.cabinetView.Stands := { stands_of_agrees hc hstart with }
  by_cases hforced : s.seq.state ∈ [SeqState.online, .syncWait, .claiming]
  · rw [switchToBypass_forced hforced]
    exact forcedTransfer_agrees h hstands hahead
  have hwithdrawn : s.seq.state.withdrawn = true := by
    cases hstate : s.seq.state <;> simp_all [SeqState.withdrawn]
  have hholds : s.Holding a := ⟨h, { holds_of_agrees hc hstart hwithdrawn with }⟩
  by_cases hout : s.seq.state = .transferOut
  · unfold State.switchToBypass
    rw [hout]
    exact enterStatic_agrees (holding_moved hholds (notify_frame ..)
      (congrArg Sequencer.superseded ((notify_frame ..).kept .sequencer (by decide)))) rfl
  · have hquiet : s.seq.state ∈ [SeqState.onBypass, .forced, .latched, .maint, .transferIn] := by
      cases hstate : s.seq.state <;> simp_all
    rw [switchToBypass_quiet hquiet]
    exact agrees_of_holding hholds hwithdrawn (fun _ => hout) hc.maint hc.prior

theorem prior_static (h : s.Agrees a) : (s.seq.prior.getD .forced).onStatic = true := by
  have hprior : s.seq.prior.all SeqState.onStatic = true := h.cabinet.prior
  cases hp : s.seq.prior with
  | none => rfl
  | some x => simpa [hp] using hprior

theorem backOnline_agrees (h : s.Agrees a) (hj : s.joined = true) (hw : s.seq.state.withdrawn = true)
    (hdown : s.pins.ssFb = false) (k : NoticeKind) (b c d e : Int) :
    (((s.release WKind.isCabinet).goOnline).notify k b c d e).Agrees a :=
  agrees_of_frame (notify_frame ..) (release_goOnline_agrees (holding_of_agrees h hj hw) hdown)

/-- A fall of SS_FB (R109, R114). -/
theorem switchToInverter_agrees (h : s.Agrees a) (hj : s.joined = true) (hdown : s.pins.ssFb = false) :
    s.switchToInverter.Agrees a := by
  cases hstate : s.seq.state with
  | online | syncWait | claiming | transferOut | maint => simpa [State.switchToInverter, hstate] using h
  | onBypass | forced | latched | transferIn =>
    unfold State.switchToInverter
    rw [hstate]
    exact backOnline_agrees h hj (by rw [hstate]; rfl) hdown ..

/-- A rise of MBS_CLOSED (R109, R115, R118). -/
theorem maintCloses_agrees (h : s.Agrees a) (hj : s.joined = true) (hahead : a = true → s.idAhead = true) :
    s.maintCloses.Agrees a := by
  cases hstate : s.seq.state with
  | online | syncWait | claiming | transferOut =>
    rw [maintCloses_inverter (by rw [hstate]; decide)]
    exact forcedMaint_agrees h.toRest (stands_of_agrees h.cabinet (beq_iff_eq.mp hj)) hahead
  | onBypass | forced | latched =>
    unfold State.maintCloses
    rw [hstate]
    exact enterMaint_agrees (holding_of_agrees h hj (by rw [hstate]; rfl)) rfl true
  | maint => simpa [State.maintCloses, hstate] using h
  | transferIn =>
    unfold State.maintCloses
    rw [hstate]
    exact enterMaint_agrees (holding_of_agrees (agrees_of_frame (notify_frame ..) h)
      (by rw [joined_of_frame (notify_frame ..)]; exact hj) (by
        rw [show (State.notify s _ _ _ _ _).seq = s.seq from (notify_frame ..).kept .sequencer (by decide), hstate]; rfl))
      (prior_static h) true

/-- A fall of MBS_CLOSED (R117). -/
theorem maintOpens_agrees (h : s.Agrees a) (hj : s.joined = true) : s.maintOpens.Agrees a := by
  unfold State.maintOpens
  by_cases hstate : s.seq.state = .maint
  · have hact : (s.autoAction .maintLeft).Agrees a := agrees_of_keepsRest h (autoAction_keepsRest h.toRest _)
    have hframe := autoAction_frame s .maintLeft
    have hseq : (s.autoAction .maintLeft).seq = s.seq := hframe.kept .sequencer (by decide)
    have hjoined : (s.autoAction .maintLeft).joined = true := (joined_of_frame hframe).trans hj
    have hwithdrawn : (s.autoAction .maintLeft).seq.state.withdrawn = true := by
      rw [hseq, hstate]
      rfl
    have hpins : (s.autoAction .maintLeft).pins = s.pins := hframe.kept .pins (by decide)
    rw [if_pos hstate]
    simp only
    split
    · exact enterStatic_agrees (leaveMaintKind_holding (holding_of_agrees hact hjoined hwithdrawn)) (prior_static h)
    · rename_i hdown
      exact backOnline_agrees hact hjoined hwithdrawn (by rw [hpins]; simpa using hdown) ..
  · rwa [if_neg hstate]

end Sys2Proof.Machine

/-! PROOFS. The sequencer's own movements keep the agreement: the wait for readiness, its claim, a return, a transfer
that fails, and the position taken up at JOIN (sections 5.1, 5.3, 5.5, 5.6, 5.8 and 10.4). -/

namespace Sys2Proof.Machine

-- One proof after another: side by side they ask for more thread stacks than there is memory for.
set_option Elab.async false

variable {s t u : State} {a : Bool} {f : List Piece}

/-! ### Movements that leave the position (R99, R105, R113) -/

/-- The sequencer's position, as the agreement speaks of it. -/
def Sequencer.position (x : Sequencer) : SeqState × Option SeqState × Bool × Found := ⟨x.state, x.prior, x.superseded, x.found⟩

theorem keepsRest_of_position (h : s.Rest a) (hframe : s.ChangesOnly f t) (hsame : t.seq.position = s.seq.position)
    (hf : Apart f [.supply, .pins, .startup, .image, .strings, .job, .withdrawals, .slot, .visits] := by rfl) :
    s.KeepsRest a t := by
  refine ⟨rest_of_frame hframe h (apart_mono hf (by decide)), ?_⟩
  obtain ⟨hstate, hprior, hsup, hfound⟩ : t.seq.state = s.seq.state ∧ t.seq.prior = s.seq.prior
      ∧ t.seq.superseded = s.seq.superseded ∧ t.seq.found = s.seq.found := by
    simpa [Sequencer.position] using hsame
  rw [cabinetView_of_seq hframe (apart_mono hf (by decide)), ownOf_of_frame hframe _ (apart_mono hf (by decide)),
    asked_of_slot (slot_of_frame hframe (apart_mono hf (by decide))), hstate, hprior, hsup, hfound]
  rfl

theorem agrees_of_position (h : s.Agrees a) (hframe : s.ChangesOnly f t) (hsame : t.seq.position = s.seq.position)
    (hf : Apart f [.supply, .pins, .startup, .image, .strings, .job, .withdrawals, .slot, .visits] := by rfl) :
    t.Agrees a := agrees_of_keepsRest h (keepsRest_of_position h.toRest hframe hsame hf)

theorem followRetransfer_agrees (h : s.Agrees a) : s.followRetransfer.Agrees a :=
  agrees_of_position h (followRetransfer_frame _) (by rw [followRetransfer_eq]; rfl)

theorem joined_of_moved (h : s.Agrees a) (hstate : s.seq.state ≠ .online) : s.joined = true := by
  by_contra hj
  exact hstate (h.cabinet.before fun hx => hj (beq_iff_eq.mpr hx))

/-! ### On the inverter (R102 to R104) -/

/-- A sequencer that neither stands on an entry nor claims. -/
def SeqState.bare : SeqState → Bool
  | .online | .syncWait => true
  | .claiming | .transferOut | .onBypass | .forced | .latched | .maint | .transferIn => false

theorem bare_facts {x : SeqState} (h : x.bare = true) : x.withdrawn = false ∧ x ≠ .claiming ∧ x ≠ .maint := by
  cases x with
  | online | syncWait => decide
  | claiming | transferOut | onBypass | forced | latched | maint | transferIn => cases h

theorem inverter_of_bare (h : s.Agrees a) (hj : s.joined = true) (hs : s.seq.state.bare = true) : s.pins.ssFb = false := by
  by_contra hb
  obtain ⟨hw, -⟩ := h.cabinet.bypass (beq_iff_eq.mp hj) (by simpa [State.cabinetView] using hb)
  rw [show s.cabinetView.state.withdrawn = false from (bare_facts hs).1] at hw
  cases hw

theorem bare_moved (h : s.Agrees a) (hframe : s.ChangesOnly f t) (hj : s.joined = true) (hs : s.seq.state.bare = true)
    (ht : t.seq.state.bare = true) (hsup : t.seq.superseded = s.seq.superseded)
    (hprior : t.seq.prior.all SeqState.onStatic = true)
    (hf : Apart f [.supply, .pins, .startup, .image, .strings, .job, .withdrawals, .slot, .visits] := by rfl) :
    t.Agrees a := by
  obtain ⟨hfrom, hnot, -⟩ := bare_facts hs
  obtain ⟨hto, hnever, hmaint⟩ := bare_facts ht
  refine ⟨rest_of_frame hframe h.toRest (apart_mono hf (by decide)), cabinet_moved h.cabinet hframe hj
    (asked_of_slot (slot_of_frame hframe (apart_mono hf (by decide))) _) hsup hnot hnever (fun hb => ?_) ?_
    (fun hm => absurd hm hmaint) hprior (apart_mono hf (by decide))⟩
  · rw [inverter_of_bare h hj hs] at hb
    cases hb
  · rw [ownOf_of_frame hframe _ (apart_mono hf (by decide)), hto]
    exact h.cabinet.held.trans (by rw [show s.cabinetView.state.withdrawn = false from hfrom])

theorem goOnline_agrees (h : s.Agrees a) (hj : s.joined = true) (hs : s.seq.state.bare = true) : s.goOnline.Agrees a :=
  bare_moved h (goOnline_frame s) hj hs rfl rfl rfl

theorem enterSyncWait_agrees (h : s.Agrees a) (hj : s.joined = true) (hs : s.seq.state.bare = true) (m : Nat) :
    (s.enterSyncWait m).Agrees a :=
  bare_moved h (changesOnly_then (goto_frame ..) (onSeq_frame ..) (e := [.sequencer, .requests, .lamp]) rfl rfl) hj hs rfl rfl
    h.cabinet.prior

/-- A ready sequencer whose claim goes out (R103). -/
theorem readySent_agrees (h : s.Agrees a) (hwait : s.seq.state = .syncWait) (hfree : s.claims.slot = .free) (m : Nat) :
    (((s.sendClaim ⟨.sequencer, .bypass, .cabinet, m, 0, false, 0⟩).goto .claiming).onSeq
      (fun q => { q with pending := true })).Agrees a := by
  have hj := joined_of_moved h (by rw [hwait]; decide)
  have hsend := sendClaim_frame s ⟨.sequencer, .bypass, .cabinet, m, 0, false, 0⟩
  have hlast : (s.sendClaim ⟨.sequencer, .bypass, .cabinet, m, 0, false, 0⟩).ChangesOnly [.sequencer, .requests, .lamp]
      (((s.sendClaim ⟨.sequencer, .bypass, .cabinet, m, 0, false, 0⟩).goto .claiming).onSeq
        (fun q => { q with pending := true })) := changesOnly_then (goto_frame ..) (onSeq_frame ..) rfl rfl
  have hframe := changesOnly_then hsend hlast (e := [.claimIds, .slot, .ownQueue, .sequencer, .requests, .lamp]) rfl rfl
  have hasked : ∀ w, State.asked (((s.sendClaim ⟨.sequencer, .bypass, .cabinet, m, 0, false, 0⟩).goto .claiming).onSeq
      (fun q => { q with pending := true })) w = if Requester.sequencer = w then
        some ⟨.sequencer, .bypass, .cabinet, m, 0, false, s.newClaimId⟩ else none := fun w =>
    (asked_of_slot (slot_of_frame hlast) w).trans (sendClaim_asked ..)
  have hplain : s.seq.superseded = false := by
    by_contra hsup
    have hx : (s.asked .sequencer).isSome = true := h.cabinet.waits.mpr (.inr (by simpa [State.cabinetView] using hsup))
    rw [asked_none hfree] at hx
    cases hx
  have hsup : (((s.sendClaim ⟨.sequencer, .bypass, .cabinet, m, 0, false, 0⟩).goto .claiming).onSeq
      (fun q => { q with pending := true })).seq.superseded = false :=
    (congrArg Sequencer.superseded (hsend.kept .sequencer (by decide))).trans hplain
  have hheld : s.ownOf WKind.isCabinet = [] := by
    have hlen : (s.ownOf WKind.isCabinet).length = _ := h.cabinet.held
    rw [show s.cabinetView.state = .syncWait from hwait] at hlen
    exact List.length_eq_zero_iff.mp hlen
  refine ⟨rest_of_sequencer h.toRest (fun w hw => ?_) hframe
    (entriesOk_of_frame hlast (sendClaim_entriesOk h hj _)) (fun c _ => ownOf_of_frame hframe c), ?_⟩
  · rw [hasked, if_neg hw.symm, asked_none hfree]
  refine cabinet_of h.cabinet hframe hj (fun hb => ?_) ?_ (fun hm => nomatch hm) ?_ (fun q hq => ?_) ?_ (fun _ => hsup)
  · rw [inverter_of_bare h hj (by rw [hwait]; rfl)] at hb
    cases hb
  · rw [ownOf_of_frame hframe, hheld]
    rfl
  · exact (congrArg (fun x : Sequencer => x.prior.all SeqState.onStatic) (hsend.kept .sequencer (by decide))).trans
      h.cabinet.prior
  · rw [hasked, if_pos rfl] at hq
    obtain rfl := Option.some.inj hq
    exact ⟨rfl, rfl, hsup.symm⟩
  · rw [hasked, if_pos rfl]
    exact iff_of_true rfl (.inl rfl)

theorem transferResult_agrees (h : s.Agrees a) (i b c d : Nat) : (s.transferResult i b c d).Agrees a :=
  agrees_of_frame (notify_frame ..) h

/-- The readiness test (R103). -/
theorem testReady_agrees (h : s.Agrees a) : s.testReady.Agrees a := by
  by_cases hready : s.seq.state = .syncWait ∧ s.phase.lock = 4 ∧ s.seq.bypOk = true
  · obtain ⟨hwait, hlock, hbyp⟩ := hready
    have hj := joined_of_moved h (by rw [hwait]; decide)
    have hasking : s.asking.Agrees a := agrees_of_position h (asking_frame s) rfl
    have hback : s.asking.goOnline.Agrees a := goOnline_agrees hasking hj (congrArg SeqState.bare hwait)
    by_cases hfree : s.claims.slot = .free
    · cases hcheck : s.localCheck ⟨s.own, .bypass, .cabinet⟩ with
      | some x =>
        rw [testReady_refused hwait hlock hbyp hfree hcheck]
        exact transferResult_agrees hback ..
      | none =>
        rw [testReady_sent hwait hlock hbyp hfree hcheck]
        exact readySent_agrees hasking hwait hfree _
    · rw [testReady_busy hwait hlock hbyp hfree]
      exact transferResult_agrees hback ..
  · rw [testReady_idle (by simpa only [not_and_or, Bool.not_eq_true] using hready)]
    exact h

theorem formBypOk_agrees (h : s.Agrees a) : s.formBypOk.Agrees a :=
  testReady_agrees (agrees_of_position h (onSeq_frame ..) rfl)

/-! ### A return and a transfer that fails (R106, R108, R109) -/

theorem startReturn_agrees (h : s.Agrees a) (hs : s.seq.state.onStatic = true) (m : XferMode) :
    (s.startReturn m).Agrees a := by
  obtain ⟨hw, -, -⟩ := static_withdrawn hs
  have hj := joined_of_moved h fun hx => by
    rw [hx] at hw
    cases hw
  have hframe : s.ChangesOnly [.sequencer, .requests, .lamp] (s.startReturn m) :=
    changesOnly_then (changesOnly_then (goto_frame ..) (onSeq_frame ..) (e := [.sequencer, .requests, .lamp]) rfl rfl)
      (startXfer_frame ..) rfl rfl
  exact agrees_of_holding (holding_moved (holding_of_agrees h hj hw) hframe rfl) rfl (fun _ hx => nomatch hx)
    (fun hm => nomatch hm) hs

theorem failTransfer_agrees (h : s.Agrees a) (c : FaultCause) : (s.failTransfer c).Agrees a := by
  unfold State.failTransfer
  simp only
  cases hstate : s.seq.state with
  | online | syncWait | claiming | onBypass | forced | latched | maint => exact h
  | transferOut =>
    have hj := joined_of_moved h (by rw [hstate]; decide)
    refine agrees_of_frame (notify_frame ..) (goOnline_release_agrees (holding_of_agrees h hj (by rw [hstate]; rfl)) ?_)
    by_contra hb
    obtain ⟨-, hout⟩ := h.cabinet.bypass (beq_iff_eq.mp hj) (by simpa [State.cabinetView] using hb)
    exact hout hstate
  | transferIn =>
    have hj := joined_of_moved h (by rw [hstate]; decide)
    obtain ⟨hw, hout, hnot⟩ := static_withdrawn (prior_static h)
    have hframe : s.ChangesOnly [.sequencer, .requests, .lamp]
        ((s.goto (s.seq.prior.getD .forced)).onSeq (fun q => { q with prior := none })) :=
      changesOnly_then (goto_frame ..) (onSeq_frame ..) rfl rfl
    exact agrees_of_frame (notify_frame ..) (followRetransfer_agrees (agrees_of_holding (holding_moved
      (holding_of_agrees h hj (by rw [hstate]; rfl)) hframe rfl) hw (fun _ => hout) (fun hm => absurd hm hnot) rfl))

theorem lockRecheck_agrees (h : s.Agrees a) : s.lockRecheck.Agrees a := by
  unfold State.lockRecheck
  split
  · split
    · exact h
    · split
      · exact agrees_of_position h (onSeq_frame ..) rfl
      · exact failTransfer_agrees h _
  · exact followRetransfer_agrees h

/-! ### JOIN (R120, R194) -/

theorem entriesAgree_nil (a j : Bool) (own : Nat) : EntriesAgree a j own [] .free where
  fit _ hw := nomatch hw
  distinct := List.nodup_nil
  room := Nat.zero_le _
  flight _ _ _ _ _ hx := nomatch hx
  before _ := ⟨rfl, rfl⟩

theorem joining_rest (h : s.Agrees a) (hwin : s.inWindow = true) : s.joining.Rest a := by
  have hbefore : s.joined = false := by
    have hstart : s.startup.state = .startWindow := beq_iff_eq.mp hwin
    simp [State.joined, hstart]
  obtain ⟨hlist, hslot⟩ := h.entries.before hbefore
  have hentries : EntriesAgree a true s.own s.claims.list s.claims.slot := by
    rw [hlist, hslot]
    exact entriesAgree_nil ..
  exact ⟨hentries, h.test, h.visit⟩

theorem joining_stands (h : s.Agrees a) (hwin : s.inWindow = true) : s.joining.cabinetView.Stands := by
  have hstart : s.startup.state = .startWindow := beq_iff_eq.mp hwin
  exact {
    start := rfl
    running := h.cabinet.running (.inr hstart)
    held := h.cabinet.held
    asked := h.cabinet.asked
    waits := h.cabinet.waits
    claiming := h.cabinet.claiming }

/-- The position taken up at JOIN (R120). -/
theorem takePosition_agrees (h : s.Agrees a) (hwin : s.inWindow = true) (hahead : a = true → s.idAhead = true) :
    s.joining.takePosition.Agrees a := by
  have hstart : s.startup.state = .startWindow := beq_iff_eq.mp hwin
  have honline : s.seq.state = .online := h.cabinet.before (by rw [show s.cabinetView.start = _ from hstart]; decide)
  have hrest := joining_rest h hwin
  have hstands := joining_stands h hwin
  have hclaim : s.joining.seq.state ≠ .claiming := by
    rw [show s.joining.seq.state = .online from honline]
    decide
  have hheld : (s.joining.ownOf WKind.isCabinet).length ≤ 1 := by
    rw [show (s.joining.ownOf WKind.isCabinet).length = _ from hstands.held]
    split <;> decide
  have hfound : s.joining.seq.found = s.pins.found := h.cabinet.found hstart
  unfold State.takePosition
  cases hwhere : s.joining.seq.found with
  | inverter =>
    have hdown : s.pins.ssFb = false := by
      rw [hwhere] at hfound
      unfold Pins.found at hfound
      split at hfound
      · cases hfound
      · split at hfound
        · cases hfound
        · rename_i hno
          simpa using hno
    refine ⟨hrest, { hstands with
      running := fun _ => hstands.running
      found := fun hx => nomatch hx
      bypass := fun _ hb => ?_
      before := fun _ => honline
      maint := fun hm => ?_
      prior := h.cabinet.prior }⟩
    · rw [show s.joining.cabinetView.ssFb = false from hdown] at hb
      cases hb
    · rw [show s.joining.cabinetView.state = .online from honline] at hm
      cases hm
  | bypass =>
    have hholds := holding_of_records hstands hclaim (recordForced_records hrest rfl hheld hahead)
    exact enterStatic_agrees (holding_moved hholds (notify_frame ..)
      (congrArg Sequencer.superseded ((notify_frame ..).kept .sequencer (by decide)))) rfl
  | maintBypass =>
    have hholds := holding_of_records hstands hclaim (enterForced_records hrest rfl hheld hahead)
    exact agrees_of_frame (announceForced_frame _) (enterMaint_agrees (holding_moved hholds (notify_frame ..)
      (congrArg Sequencer.superseded ((notify_frame ..).kept .sequencer (by decide)))) rfl false)

/-- Records whose states stand leave the test's view. -/
theorem agrees_of_states (h : s.Agrees a) (hframe : s.ChangesOnly f t) (hstates : t.states = s.states)
    (hf : Apart f [.supply, .pins, .startup, .image, .job, .withdrawals, .slot, .sequencer, .visits] := by rfl) :
    t.Agrees a := by
  have hown := fun c => ownOf_of_frame hframe c (apart_mono hf (by decide))
  have hasked := asked_of_slot (slot_of_frame hframe (apart_mono hf (by decide)))
  have hjob : t.job = s.job := kept_of_apart hframe hf (p := .job) (by decide)
  have htest : t.testView = s.testView := by simp only [State.testView, hjob, hstates, hown, hasked]
  refine ⟨⟨entriesOk_of_frame hframe h.entries (apart_mono hf (by decide)), htest ▸ h.test, ?_⟩, ?_⟩
  · rw [visitView_of_frame hframe (hown _) (hasked _) (apart_mono hf (by decide))]
    exact h.visit
  · rw [cabinetView_of_frame hframe (hown _) (hasked _) (apart_mono hf (by decide))]
    exact h.cabinet

theorem started_agrees (h : s.Agrees a) (hj : s.joined = true) (d m : Nat) : (s.started d m).Agrees a := by
  have hstates : (s.started d m).states = s.states := by
    show (s.strings.map StringRec.dropBaseline).map (fun x => x.state) = _
    rw [List.map_map]
    rfl
  have htest : (s.started d m).testView = s.testView := by
    unfold State.testView
    rw [hstates]
    rfl
  refine ⟨⟨h.entries, htest ▸ h.test, h.visit⟩, { h.cabinet with found := fun hx => ?_ }⟩
  rw [show (s.started d m).cabinetView.start = .joined from beq_iff_eq.mp hj] at hx
  cases hx

theorem joinFloor_agrees (h : s.Agrees a) (hwin : s.inWindow = true) (hahead : a = true → s.idAhead = true) :
    s.joinFloor.Agrees a := by
  have hframe := changesOnly_then (moves_frame (takePosition_moves (g := .all) s.joining)) (evalMargin_frame _)
    (e := takeUpPieces ++ evalPieces) rfl rfl
  rw [joinFloor_eq]
  exact started_agrees (evalMargin_agrees (takePosition_agrees h hwin hahead))
    (joined_of_startup (s := s.joining) (hframe.kept .startup (by decide))) ..

end Sys2Proof.Machine

/-! PROOFS. The rows' shapes, and the commands of the floor view, the ageing unit and the visit unit, keep the agreement
(sections 1.6, 2.2, 3.4 and 6.2 to 6.6). -/

namespace Sys2Proof.Machine

-- One proof after another: side by side they ask for more thread stacks than there is memory for.
set_option Elab.async false

variable {s t u : State} {a : Bool} {f : List Piece} {w : Withdrawal}

/-! ### The shapes of a row -/

theorem event_agrees {c : Bool} {body : State → State} (h : s.Agrees a) (hev : s.event c body = .next t)
    (hb : c = true → (s.withStatusDue false).Agrees a → (body (s.withStatusDue false)).Agrees a) : t.Agrees a :=
  agrees_of_answers (m := fun _ u => u.Agrees a) h (event_answers hev fun _ hc =>
    hb hc (agrees_of_frame (withStatusDue_frame ..) h)) fun _ _ hu => hu

theorem command_agrees {row : Instr} {body : List Byte → State → State} (h : s.Agrees a)
    (hev : s.command row body = .next t)
    (hb : ∀ r, (s.withStatusDue false).Agrees a → (body r (s.withStatusDue false)).Agrees a) : t.Agrees a :=
  agrees_of_answers (m := fun _ u => u.Agrees a) h (command_answers hev fun r _ _ _ _ =>
    hb r (agrees_of_frame (withStatusDue_frame ..) h)) fun _ _ hu => hu

theorem answer_agrees (h : s.Agrees a) (c : ReplyCode) (l : List Byte) : (s.answer c l).Agrees a :=
  agrees_of_frame (answer_frame ..) h

theorem whenJoined_agrees {body : State → State} (h : s.Agrees a) (hb : s.joined = true → (body s).Agrees a) :
    (s.whenJoined body).Agrees a := by
  unfold State.whenJoined
  split
  · exact hb ‹_›
  · exact answer_agrees h ..

/-! ### A request that goes out (R77) -/

theorem sent_asked {r : Request} {g : List Piece} (hlast : (s.sendClaim r).ChangesOnly g t) (w : Requester)
    (hg : Apart g [.slot] := by rfl) :
    t.asked w = if r.requester = w then some { r with lastId := s.newClaimId } else none :=
  (asked_of_slot (slot_of_frame hlast hg) w).trans (sendClaim_asked ..)

theorem sent_other {r : Request} {g : List Piece} (hfree : s.claims.slot = .free) (hlast : (s.sendClaim r).ChangesOnly g t)
    {w : Requester} (hw : r.requester ≠ w) (hg : Apart g [.slot] := by rfl) : t.asked w = s.asked w := by
  rw [sent_asked hlast w hg, if_neg hw, asked_none hfree]

/-- A test is claimed (R38). -/
theorem claimTest_agrees (h : s.Agrees a) (hj : s.joined = true) (hidle : s.job.state = .idle) {k : Nat}
    (hk : k < s.strings.length) (target limit : Nat) : (s.claimTest k target limit).Agrees a := by
  unfold State.claimTest
  by_cases hfree : s.claims.slot = .free
  · cases hcheck : s.localCheck (s.ownHyp .test (.string k)) with
    | some x =>
      rw [requestClaim_refused hfree hcheck]
      exact answer_agrees h ..
    | none =>
      rw [requestClaim_sent hfree hcheck]
      refine answer_agrees ?_ ..
      have hjob := withJob_frame (s.sendClaim ⟨.ageing, .test, .string k, limit, 0, false, 0⟩)
        ⟨.claiming, k, target, limit, none, none⟩
      have hframe := changesOnly_then (sendClaim_frame s _) hjob (e := [.claimIds, .slot, .ownQueue, .job]) rfl rfl
      have hother := fun {w} => sent_other (w := w) hfree hjob
      have hself := sent_asked hjob .ageing
      obtain ⟨hheld, hno⟩ := test_quiet h.test (by rw [show s.testView.state = .idle from hidle]; decide)
      refine ⟨⟨entriesOk_of_frame hjob (sendClaim_entriesOk h hj _), ?_, ?_⟩, ?_⟩
      · refine ⟨?_, fun i x hx => ?_, fun _ => ?_, fun q hq => ?_, ?_⟩
        · exact (congrArg (List.map _) (ownOf_of_frame hframe _)).trans hheld
        · have hx : s.states[i]? = some x := (states_of_frame hframe) ▸ hx
          exact iff_of_false (fun ht => hno i (ht ▸ hx)) fun hr => nomatch hr.1
        · show k < (State.states _).length
          rw [states_of_frame hframe]
          simpa [State.states] using hk
        · obtain rfl := Option.some.inj ((hself.trans (if_pos rfl)).symm.trans hq)
          exact ⟨rfl, rfl, rfl⟩
        · exact iff_of_true (Option.isSome_iff_exists.mpr ⟨_, hself.trans (if_pos rfl)⟩) rfl
      · rw [visitView_of_frame hframe (ownOf_of_frame hframe _) (hother fun hx => nomatch hx)]
        exact h.visit
      · rw [cabinetView_of_frame hframe (ownOf_of_frame hframe _) (hother fun hx => nomatch hx)]
        exact h.cabinet
  · rw [requestClaim_busy hfree]
    exact answer_agrees h ..

/-! ### Visits opened and closed (R127, R128, R141) -/

theorem visit_unheld (h : s.Agrees a) (hcur : s.visit.current = none) : s.visitView.held = [] := by
  rw [h.visit.held, show s.visitView.current = s.visit.current.map Visit.mark from rfl, hcur]
  rfl

theorem createVisit_frame (s : State) (tech : Nat) (scope : Scope) (m : Nat) (b : Bool) :
    s.ChangesOnly [.visits] (s.createVisit tech scope m b) := onVisit_frame ..

theorem openString_agrees (h : s.Agrees a) (hj : s.joined = true) (hcur : s.visit.current = none) (tech k m : Nat) :
    (s.openString tech k m).Agrees a := by
  unfold State.openString
  by_cases hfree : s.claims.slot = .free
  · cases hcheck : s.localCheck (s.ownHyp .service (.string k)) with
    | some x =>
      rw [requestClaim_refused hfree hcheck]
      exact answer_agrees h ..
    | none =>
      rw [requestClaim_sent hfree hcheck]
      refine answer_agrees ?_ ..
      have hvisit := createVisit_frame (s.sendClaim ⟨.visit, .service, .string k, m, 0, false, 0⟩) tech (.string k) m true
      have hframe := changesOnly_then (sendClaim_frame s _) hvisit (e := [.claimIds, .slot, .ownQueue, .visits]) rfl rfl
      have hself := sent_asked hvisit .visit
      refine agrees_of_keepsRest h (keepsRest_of_visit h.toRest (fun w hw => sent_other hfree hvisit hw.symm) hframe
        (entriesOk_of_frame hvisit (sendClaim_entriesOk h hj _)) (fun c _ => ownOf_of_frame hframe c)
        ((cabinetVisitOpen_none hcur).symm ▸ rfl) ⟨?_, fun q hq => ?_, fun v hv _ => ?_⟩)
      · exact (congrArg (List.map _) (ownOf_of_frame hframe _)).trans (visit_unheld h hcur)
      · obtain rfl := Option.some.inj ((hself.trans (if_pos rfl)).symm.trans hq)
        exact ⟨rfl, rfl⟩
      · obtain rfl := Option.some.inj hv
        exact ⟨fun hx => (nomatch hx), Option.isSome_iff_exists.mpr ⟨_, hself.trans (if_pos rfl)⟩⟩
  · rw [requestClaim_busy hfree]
    exact answer_agrees h ..

/-- Without an admission the visit unit has no request. -/
theorem visit_unasked (h : s.Agrees a) (hno : ∀ v, s.visit.current = some v → v.admitting = false) :
    s.asked .visit = none := by
  cases hasked : s.asked .visit with
  | none => rfl
  | some q =>
    obtain ⟨-, hcur⟩ := h.visit.asked q hasked
    obtain ⟨v, hv, hmark⟩ := Option.map_eq_some_iff.mp hcur
    have hadm : v.admitting = true := congrArg VisitMark.admitting hmark
    rw [hno v hv] at hadm
    cases hadm

theorem openCabinet_agrees (h : s.Agrees a) (hcur : s.visit.current = none) (tech m : Nat) :
    (s.openCabinet tech m).Agrees a := by
  have hvisit := createVisit_frame s tech .cabinet m false
  have hcreated : (s.createVisit tech .cabinet m false).Agrees a := by
    have hrest : (s.createVisit tech .cabinet m false).Rest a := by
      refine ⟨h.entries, h.test, ⟨(visit_unheld h hcur :), fun q hq => ?_, fun v hv hadm => ?_⟩⟩
      · have hq : s.asked .visit = some q := hq
        rw [visit_unasked h fun v hv => by rw [hcur] at hv; cases hv] at hq
        cases hq
      · obtain rfl := Option.some.inj hv
        cases hadm
    exact ⟨hrest, { h.cabinet with maint := fun _ => .inl rfl }⟩
  unfold State.openCabinet
  exact answer_agrees (agrees_of_frame (changesOnly_then (formPermit_frame _) (visitOpenedNotice_frame _)
    (e := [.lamp, .notices]) rfl rfl) hcreated) ..

/-- The cabinet's view where a CABINET visit is no longer OPEN. -/
theorem cabinetView_of_visits (h : s.ChangesOnly f t) (hheld : t.ownOf WKind.isCabinet = s.ownOf WKind.isCabinet)
    (hasked : t.asked .sequencer = s.asked .sequencer)
    (hf : Apart f [.supply, .pins, .startup, .sequencer] := by rfl) :
    t.cabinetView = { s.cabinetView with visitOpen := t.cabinetVisitOpen } := by
  have hpower : t.power = s.power := kept_of_apart h hf (p := .supply) (by decide)
  have hpins : t.pins = s.pins := kept_of_apart h hf (p := .pins) (by decide)
  have hstartup : t.startup = s.startup := kept_of_apart h hf (p := .startup) (by decide)
  have hseq : t.seq = s.seq := kept_of_apart h hf (p := .sequencer) (by decide)
  simp only [State.cabinetView, State.running, hpower, hpins, hstartup, hseq, hheld, hasked]

/-- The visit leaves its place, where no SERVICE entry stands and no CABINET visit sanctions MAINT. -/
theorem retired_agrees (h : s.Agrees a) (hbefore : s.ChangesOnly [.withdrawals, .ownQueue] t) (hentries : t.EntriesOk a)
    (hnone : t.ownOf WKind.isService = []) (hothers : ∀ c : WKind → Bool, c .service = false → t.ownOf c = s.ownOf c)
    (hunasked : s.asked .visit = none) (hmaint : s.cabinetVisitOpen = true → s.seq.state ≠ .maint)
    {v : Visit} (hcur : s.visit.current = some v) : (t.retireVisit none).Agrees a := by
  have hlast := retireVisit_frame t none
  have hframe := changesOnly_then hbefore hlast (e := [.withdrawals, .ownQueue, .visits, .lamp]) rfl rfl
  have hasked := asked_of_slot (slot_of_frame hframe)
  have hown := fun c => ownOf_of_frame hlast c
  have hgone : (t.retireVisit none).visit.current = none := by
    rw [retireVisit_eq ((congrArg Visits.current (hbefore.kept .visits (by decide))).trans hcur)]
  refine ⟨⟨entriesOk_of_frame hlast hentries, ?_, novisit_agrees ?_ ?_ ((hasked _).trans hunasked)⟩, ?_⟩
  · rw [testView_of_frame hframe ((hown _).trans (hothers _ rfl)) (hasked _)]
    exact h.test
  · exact congrArg (Option.map Visit.mark) hgone
  · exact congrArg (List.map _) ((hown _).trans hnone)
  · rw [cabinetView_of_visits hframe ((hown _).trans (hothers _ rfl)) (hasked _)]
    exact { h.cabinet with maint := fun hm => .inr ((h.cabinet.maint hm).resolve_left fun hopen => hmaint hopen hm) }

/-- An OPEN visit leaves its place, with the SERVICE entry it stood on (R141). -/
theorem closeVisit_agrees (h : s.Agrees a) {v : Visit} (hcur : s.visit.current = some v) (hopen : v.admitting = false)
    (hno : s.closeObstacle v = none) : (s.closeVisit v).Agrees a := by
  have hunasked := visit_unasked h fun x hx => by
    obtain rfl := Option.some.inj (hcur.symm.trans hx)
    exact hopen
  have hheld : (s.ownOf WKind.isService).map (fun w => w.scope) = admittedScopes (s.visit.current.map Visit.mark) :=
    h.visit.held
  unfold State.closeVisit
  refine agrees_of_frame (notify_frame ..) ?_
  cases hscope : v.scope with
  | cabinet =>
    refine retired_agrees h (changesOnly_refl ..) h.entries ?_ (fun _ _ => rfl) hunasked (fun _ hm => ?_) hcur
    · rw [hcur] at hheld
      exact List.map_eq_nil_iff.mp (hheld.trans (if_neg (by simp [Visit.mark, hscope])))
    · simp [State.closeObstacle, hscope, hm] at hno
  | string k =>
    have hrelease := release_frame s WKind.isService
    refine retired_agrees h hrelease (entriesOk_of_drops hrelease h.entries (release_drops ..))
      (release_ownOf_self (held_lengths h.toRest).2) (fun c hc => release_ownOf_other _ ?_) hunasked (fun hc => ?_) hcur
    · simp [ClassesApart, WKind.isService, hc]
    · simp [State.cabinetVisitOpen, hcur, hscope] at hc

theorem cancelVisit_agrees (h : s.Agrees a) {v : Visit} (hcur : s.visit.current = some v) (ha : v.admitting = true) :
    (s.cancelVisit v).Agrees a := by
  unfold State.cancelVisit
  split
  · exact answer_agrees h ..
  · rename_i hgiven
    exact answer_agrees (giveUpVisit_agrees h hcur ha (by simpa using hgiven)) ..

/-! ### Actions on strings (R28, R29, R134 to R137) -/

/-- The state of a string that is not under test changes to another that is none. -/
theorem setStringState_agrees (h : s.Agrees a) {k : Nat} {x y : StringState} (hx : s.stringIs k x = true)
    (hxt : x ≠ .test) (hyt : y ≠ .test) : (s.setStringState k y).Agrees a := by
  have hat : s.states[k]? = some x := by
    rw [states_getElem?]
    cases hr : s.strings[k]? with
    | none => simp [State.stringIs, hr] at hx
    | some r => simpa [State.stringIs, hr] using hx
  have hnot : ¬ (s.job.state = .running ∧ s.job.k = k) := fun hrun => hxt ((h.test.tested k x hat).mpr hrun)
  have hstates := setStringState_states s k y
  have htest : (s.setStringState k y).testView = { s.testView with states := s.states.set k y } := by
    rw [← hstates]
    rfl
  refine ⟨⟨h.entries, ?_, h.visit⟩, h.cabinet⟩
  rw [htest]
  refine { h.test with tested := fun i z hz => ?_, place := fun hrun => ?_ }
  · replace hz : (s.states.set k y)[i]? = some z := hz
    rw [List.getElem?_set] at hz
    split at hz
    · rename_i hki
      subst hki
      refine iff_of_false (fun ht => ?_) hnot
      split at hz
      · exact hyt ((Option.some.inj hz).trans ht)
      · cases hz
    · exact h.test.tested i z hz
  · show s.job.k < (s.states.set k y).length
    rw [List.length_set]
    exact h.test.place hrun

theorem onString_agrees (h : s.Agrees a) (k : Nat) {g : StringRec → StringRec} (hg : ∀ x, (g x).state = x.state) :
    (s.onString k g).Agrees a :=
  agrees_of_states h (onString_frame ..) (onString_states s k hg)

theorem recompute_agrees (h : s.Agrees a) (k : Nat) : (s.recompute k).Agrees a :=
  agrees_of_states h (recompute_frame ..) (recompute_states s k)

theorem loadString_agrees (h : s.Agrees a) (k : Nat) (r : List Byte) : (s.loadString k r).Agrees a := by
  refine recompute_agrees (onString_agrees h k ?_) k
  exact fun _ => rfl

theorem replaceString_agrees (h : s.Agrees a) (k : Nat) : (s.replaceString k).Agrees a :=
  recompute_agrees (onString_agrees h k (g := StringRec.renew) fun _ => rfl) k

theorem restoreString_agrees (h : s.Agrees a) {k : Nat} (hx : s.stringIs k .isolated = true) :
    (s.restoreString k).Agrees a :=
  onString_agrees (setStringState_agrees h hx (by decide) (by decide)) k (g := StringRec.dropBaseline) fun _ => rfl

theorem visitAction_agrees (h : s.Agrees a) {r : List Byte} {listed needsK : Bool} {obstacle : Visit → Option Nat}
    {effect : State → State} {kind : ActionKind} (heff : ∀ v, obstacle v = none → (effect s).Agrees a) :
    (s.visitAction r listed needsK obstacle effect kind).Agrees a := by
  have hans := fun c l => answer_agrees h c l
  unfold State.visitAction
  split
  · exact hans ..
  split
  · exact hans ..
  split
  · exact hans ..
  split
  · exact hans ..
  split
  · exact hans ..
  split
  · exact hans ..
  split
  · exact hans ..
  split
  · exact hans ..
  split
  · exact hans ..
  · rename_i hno
    exact answer_agrees (onCurrent_agrees (heff _ hno) (addAction_mark _)) ..

theorem stringObstacle_none {k : Nat} {x : StringState} {v : Visit} (h : s.stringObstacle k x v = none) :
    s.stringIs k x = true := by
  by_contra hx
  unfold State.stringObstacle at h
  split at h
  · cases h
  · rw [if_pos (by simpa using hx)] at h
    cases h

/-! ### The ageing tick (R16) -/

theorem tickString_agrees (h : s.Agrees a) (day : Bool) (k : Nat) : (s.tickString day k).Agrees a := by
  have htick : (s.onString k StringRec.tick).Agrees a := onString_agrees h k fun _ => rfl
  unfold State.tickString
  simp only
  split
  · exact recompute_agrees (onString_agrees htick k (g := StringRec.dayEnd) fun _ => rfl) k
  · exact recompute_agrees htick k

theorem wholeTick_agrees (h : s.Agrees a) : s.wholeTick.Agrees a := by
  have hall : ∀ (l : List Nat) (u : State), u.Agrees a → (l.foldl (State.tickString (s.ticks.count == 1439)) u).Agrees a := by
    intro l
    induction l with
    | nil => exact fun _ hu => hu
    | cons k l ih => exact fun u hu => ih _ (tickString_agrees hu _ k)
  exact agrees_of_frame (moves_frame (withTicks_moves (g := .all) ..)) (hall _ s h)

end Sys2Proof.Machine

/-! PROOFS. The frames that complete at a port keep the agreement: those of peers, and the own ones come home
(sections 3.3, 4.3 to 4.5 and 7.4). -/

namespace Sys2Proof.Machine

-- One proof after another: side by side they ask for more thread stacks than there is memory for.
set_option Elab.async false

variable {s t u : State} {a : Bool} {f : List Piece} {w : Withdrawal} {n id : Nat} {b : List Byte} {p : Port}

/-! ### Entries of one peer -/

theorem agrees_of_moves (h : Moves .all f s t) (hs : s.Agrees a) (hf : Apart f standingPieces := by rfl) : t.Agrees a :=
  agrees_of_frame (moves_frame h) hs hf

theorem updatePeer_agrees (h : s.Agrees a) (hj : s.joined = true) (hn : n ≠ s.own) {g : Withdrawal → Withdrawal}
    (hg : ∀ v, v.owner = n → v.claimId = id → (g v).owner = n ∧ (g v).claimId = id) :
    (s.updateEntries (fun v => v.isFor n id) g).Agrees a :=
  peers_agrees h hj (updateEntries_frame ..) (peersMove_changed hn hg)

theorem removePeers_agrees (h : s.Agrees a) (hj : s.joined = true) {q : Withdrawal → Bool}
    (hq : ∀ v ∈ s.claims.list, v.owner = s.own → q v = false) : (s.removeEntries q).Agrees a := by
  refine peers_agrees h hj (removeEntries_frame ..) ?_
  rw [removeEntries_list]
  exact peersMove_filter fun v hv ho => by rw [hq v hv ho]; rfl

/-- A peer's entry that the list does not hold joins it where there is room. -/
theorem peersMove_stored (hn : w.owner ≠ s.own) (hnew : s.claims.list.any (fun v => v.isFor w.owner w.claimId) = false)
    (hroom : ¬ s.listFull = true) : PeersMove s.own s.claims.list (s.claims.list ++ [w]) :=
  peersMove_add hn hnew (listFull_eq_false hroom)

/-- A peer's entry is lost to a full list (R74). -/
theorem loseEntry_agrees (h : s.Agrees a) (hj : s.joined = true) (w : Withdrawal) : (s.loseEntry w).Agrees a := by
  refine peers_agrees h hj (loseEntry_frame ..) ?_
  rw [loseEntry_list]
  exact peersMove_refl ..

theorem addPeerEntry_agrees (h : s.Agrees a) (hj : s.joined = true) (hn : w.owner ≠ s.own)
    (hnew : s.claims.list.any (fun v => v.isFor w.owner w.claimId) = false) : (s.addPeerEntry w).Agrees a := by
  unfold State.addPeerEntry
  split
  · exact loseEntry_agrees h hj w
  · exact peers_agrees h hj (setList_frame ..) (peersMove_stored hn hnew ‹_›)

/-! ### The frames of peers (R56, R57, R78 to R80, R88, R89, R91, R94) -/

theorem takeGrant_agrees (h : s.Agrees a) (hj : s.joined = true) (hn : frOrigin b ≠ s.own) : (s.takeGrant b).Agrees a := by
  unfold State.takeGrant
  simp only
  split
  · exact updatePeer_agrees h hj hn fun _ ho hi => ⟨ho, hi⟩
  · exact addPeerEntry_agrees h hj hn (Bool.eq_false_iff.mpr ‹_›)

theorem takeForced_agrees (h : s.Agrees a) (hj : s.joined = true) (hn : frOrigin b ≠ s.own) : (s.takeForced b).Agrees a := by
  unfold State.takeForced
  simp only
  split
  · exact updatePeer_agrees h hj hn fun _ ho hi => ⟨ho, hi⟩
  · exact addPeerEntry_agrees h hj hn (Bool.eq_false_iff.mpr ‹_›)

theorem takeDrop_agrees (h : s.Agrees a) (hj : s.joined = true) (hn : frOrigin b ≠ s.own) : (s.takeDrop b).Agrees a := by
  refine removePeers_agrees h hj fun v _ ho => ?_
  simp [Withdrawal.isFor, ho, hn.symm]

theorem takeCarried_agrees (h : s.Agrees a) (hj : s.joined = true) (hn : n ≠ s.own) (c : Carried) :
    (s.takeCarried n c).Agrees a := by
  unfold State.takeCarried
  split
  · exact updatePeer_agrees h hj hn fun _ ho hi => ⟨ho, hi⟩
  · exact addPeerEntry_agrees h hj hn (Bool.eq_false_iff.mpr ‹_›)

theorem reconcile_agrees (h : s.Agrees a) (hj : s.joined = true) (hn : n ≠ s.own) (cs : List Carried) (i : Option Nat) :
    (s.reconcile n cs i).Agrees a := by
  unfold State.reconcile
  have hall : ∀ (l : List Carried) (u : State), u.Agrees a → u.joined = true → n ≠ u.own →
      (l.foldl (State.takeCarried n) u).Agrees a ∧ (l.foldl (State.takeCarried n) u).joined = true
        ∧ n ≠ (l.foldl (State.takeCarried n) u).own := by
    intro l
    induction l with
    | nil => exact fun _ hu huj hun => ⟨hu, huj, hun⟩
    | cons c l ih =>
      intro u hu huj hun
      have hmove := takeCarried_moves (g := .all) hun c
      exact ih _ (takeCarried_agrees hu huj hun c) ((joined_of_frame (moves_frame hmove)).trans huj)
        (by rwa [moves_own hmove])
  obtain ⟨hu, huj, hun⟩ := hall cs s h hj hn
  refine removePeers_agrees hu huj fun v _ ho => ?_
  simp [ho, hun.symm]

theorem takeStatus_agrees (h : s.Agrees a) (hj : s.joined = true) (hn : frOrigin b ≠ s.own) :
    (s.takeStatus b).Agrees a := by
  unfold State.takeStatus
  simp only
  split
  · exact h
  · have hmove := refreshPeer_moves (g := .all) s (frOrigin b) (e := statusEntry b) rfl
    exact reconcile_agrees (agrees_of_moves hmove h) ((joined_of_frame (moves_frame hmove)).trans hj)
      (by rwa [moves_own hmove]) ..

theorem letPass_agrees (h : s.Agrees a) (hj : s.joined = true) (hn : frOrigin b ≠ s.own) : (s.letPass b).1.Agrees a := by
  unfold State.letPass
  simp only
  split
  · exact updatePeer_agrees h hj hn fun _ _ _ => ⟨rfl, rfl⟩
  · rename_i hnew
    split
    · exact loseEntry_agrees h hj _
    · exact peers_agrees h hj (setList_frame ..) (peersMove_stored hn (Bool.eq_false_iff.mpr hnew) ‹_›)

theorem takeClaim_agrees (h : s.Agrees a) (hj : s.joined = true) (hn : frOrigin b ≠ s.own) :
    (s.takeClaim b).1.Agrees a := by
  have hrefresh := refreshPeer_moves (g := .all) s (frOrigin b) (e := claimEntry b (s.peer (frOrigin b))) rfl
  have heval := evalMargin_agrees (agrees_of_moves hrefresh h)
  have hframe := changesOnly_then (moves_frame hrefresh) (evalMargin_frame _) (e := .peers :: .notices :: evalPieces) rfl rfl
  unfold State.takeClaim
  simp only
  split
  · exact heval
  · exact letPass_agrees heval ((joined_of_frame hframe).trans hj) (by rwa [own_of_frame hframe])

theorem takeIn_agrees (h : s.Agrees a) (hj : s.joined = true) (hlen : 11 ≤ b.length) (hn : frOrigin b ≠ s.own) :
    (s.takeIn b).1.Agrees a := by
  unfold State.takeIn
  simp only
  split
  · exact takeStatus_agrees h hj hn
  · refine takeClaim_agrees h hj ?_
    unfold frOrigin
    rwa [byteAt_setVisited (by omega) (by decide) (by decide)]
  · exact takeGrant_agrees h hj hn
  · exact takeDrop_agrees h hj hn
  · exact takeForced_agrees h hj hn
  · exact h

/-! ### Own frames, and what completes at a port (R151, R152) -/

theorem flightClear_of (h : s.Agrees true) : s.FlightClear := h.entries.flight rfl

theorem comeHome_agrees (h : s.Agrees true) (b : List Byte) : (s.comeHome b).Agrees true := by
  have hend : (s.endFlight (frTag b)).Agrees true := agrees_of_moves (endFlight_moves s _) h
  unfold State.comeHome
  simp only
  split
  · exact claimReturned_agrees hend (flightClear_of hend) b
  · exact hend

theorem forward_agrees (h : s.Agrees a) (p : Port) (b : List Byte) : (s.forward p b).Agrees a :=
  agrees_of_frame (forward_frame ..) h

theorem handleFrame_agrees (h : s.Agrees true) (hlen : 11 ≤ b.length) : (s.handleFrame p b).Agrees true := by
  unfold State.handleFrame
  split
  · exact forward_agrees h ..
  · rename_i hj
    split
    · unfold State.handleOwn
      split
      · split
        · exact comeHome_agrees h b
        · split
          · exact forward_agrees h ..
          · exact comeHome_agrees h b
      · exact forward_agrees (agrees_of_moves (foundDuplicate_moves s p b) h) ..
    · rename_i hn
      split
      · exact forward_agrees h ..
      · exact forward_agrees (takeIn_agrees h (by simpa using hj) hlen hn) ..

theorem checkFrame_agrees (h : s.Agrees true) (p : Port) (b : List Byte) : (s.checkFrame p b).Agrees true := by
  unfold State.checkFrame
  split
  · exact h
  · split
    · rename_i hok
      exact handleFrame_agrees h (length_of_frameOk hok)
    · exact agrees_of_frame (onPort_frame ..) h

end Sys2Proof.Machine

/-! PROOFS. Take-ins, the host watchdog, the phase capture and the timers of entries keep the agreement
(sections 2.3, 4.5, 4.7, 8.2 to 8.4). -/

namespace Sys2Proof.Machine

-- One proof after another: side by side they ask for more thread stacks than there is memory for.
set_option Elab.async false

variable {s t u : State} {a : Bool} {w : Withdrawal}

/-! ### The records of a take-in (R11 to R17, R31, R168) -/

theorem takeFlags_state (h : Hold) (x : Sample) (r : StringRec) : (r.takeFlags h x).state = r.state := by
  unfold StringRec.takeFlags
  split
  · rfl
  · split <;> rfl

theorem takeTemp_state (b : Bool) (z : Int) (r : StringRec) : (r.takeTemp b z).state = r.state := by
  unfold StringRec.takeTemp
  split
  · rfl
  · split <;> rfl

theorem count_state (p : StringParams) (b : Bool) (i : Int) (dt : Nat) (r : StringRec) : (r.count p b i dt).state = r.state :=
  countRun_state ..

theorem countIn_state (p : StringParams) (base running : Bool) (dt : Nat) (h : Handed) (r : StringRec) :
    (r.countIn p base running dt h).state = r.state := by
  unfold StringRec.countIn
  split
  · exact takeTemp_state ..
  · simp only
    rw [takeTemp_state]
    split
    · exact count_state p false h.current dt r
    · exact count_state p false h.current dt r

theorem tryCapture_agrees (h : s.Agrees a) (k : Nat) (g : Handed) : (s.tryCapture k g).Agrees a := by
  unfold State.tryCapture
  split
  · split
    · split
      · split
        · exact recompute_agrees (onString_agrees h k (g := StringRec.accept _) fun _ => rfl) k
        · exact onString_agrees h k fun _ => rfl
      · exact h
    · exact h
  · exact h

theorem testEndCheck_agrees (h : s.Agrees a) (k : Nat) (g : Handed) : (s.testEndCheck k g).Agrees a := by
  unfold State.testEndCheck
  split
  · rename_i hrun
    split
    · split
      · exact endTest_agrees h hrun.1 _
      · split
        · exact endTest_agrees h hrun.1 _
        · exact h
    · exact h
  · exact h

theorem stringTakeIn_agrees (h : s.Agrees a) (base : Bool) (dt k : Nat) (g : Handed) :
    (s.stringTakeIn base dt k g).Agrees a := by
  have hcount := onString_agrees h k (countIn_state (s.params k) base (s.job.state == .running && s.job.k == k) dt g)
  unfold State.stringTakeIn
  simp only
  refine onString_agrees (testEndCheck_agrees ?_ k g) k fun _ => rfl
  split
  · exact hcount
  · exact tryCapture_agrees hcount k g

theorem onIntake_agrees (h : s.Agrees a) (g : Intake → Intake) : (s.onIntake g).Agrees a :=
  agrees_of_moves (onIntake_moves s g) h

theorem takeString_agrees (h : s.Agrees a) (m : MeasFrame) (base : Bool) (dt k : Nat) :
    (s.takeString m base dt k).Agrees a := by
  have hflags : ∀ i : Intake → Intake, ∀ y x, ((s.onIntake i).onString k (StringRec.takeFlags y x)).Agrees a :=
    fun i y x => onString_agrees (onIntake_agrees h i) k (takeFlags_state y x)
  unfold State.takeString
  simp only
  split
  · exact stringTakeIn_agrees (hflags ..) ..
  · exact onString_agrees (hflags ..) k fun r => takeTemp_state ..

/-! ### The take-in (R166, R167, R170, R171, R174) -/

theorem handOver_agrees (h : s.Agrees a) (m : MeasFrame) (base : Bool) (dt : Nat) : (s.handOver m base dt).Agrees a := by
  have hall : ∀ (l : List Nat) (u : State), u.Agrees a → (l.foldl (State.takeString m base dt) u).Agrees a := by
    intro l
    induction l with
    | nil => exact fun _ hu => hu
    | cons k l ih => exact fun u hu => ih _ (takeString_agrees hu m base dt k)
  have hstrings := hall (List.range s.strings.length) s h
  unfold State.handOver
  simp only
  refine formBypOk_agrees (evalMargin_agrees ?_)
  split
  · exact onIntake_agrees hstrings _
  · exact hstrings

theorem feedDog_agrees (h : s.Agrees a) : s.feedDog.Agrees a := agrees_of_moves (feedDog_moves s) h

theorem takeFrame_agrees (h : s.Agrees a) (m : MeasFrame) : (s.takeFrame m).Agrees a := by
  unfold State.takeFrame
  simp only
  split
  · have hdrawn := agrees_of_moves (sinceTakeIn_moves s) h
    exact agrees_of_frame (raise_frame ..) (evalMargin_agrees (handOver_agrees (feedDog_agrees (onIntake_agrees hdrawn _)) ..))
  · exact handOver_agrees (feedDog_agrees (onIntake_agrees h _)) ..

theorem examine_agrees (h : s.Agrees a) (i : Nat) : (s.examine i).Agrees a := by
  have hrole : ∀ r, (s.setRole i r).Agrees a := fun r => onIntake_agrees h _
  unfold State.examine
  simp only
  split
  · split
    · exact onIntake_agrees (hrole _) _
    · exact takeFrame_agrees (hrole _) _
  · exact hrole _

/-! ### The watchdog (R172, R173) -/

theorem formAllAvail_agrees (h : s.Agrees a) : s.formAllAvail.Agrees a := by
  refine agrees_of_states h (moves_frame (formAllAvail_moves (g := .all) s)) ?_
  show (s.strings.map (StringRec.formAvail s.hostSilent)).map (fun x => x.state) = _
  rw [List.map_map]
  rfl

theorem goStale_agrees (h : s.Agrees a) : s.goStale.Agrees a := by
  have hdog := formAllAvail_agrees (agrees_of_moves (withDog_moves s ⟨.hostStale, some (s.now + s.cfg.hostTimeout)⟩) h)
  exact agrees_of_moves (dogNotice_moves ..) (evalMargin_agrees (abortTest_agrees (onIntake_agrees hdog _) _))

theorem goUnsupervised_agrees (h : s.Agrees a) : s.goUnsupervised.Agrees a := by
  have hdog := agrees_of_moves (withDog_moves s ⟨.unsupervised, none⟩) h
  exact agrees_of_moves (dogNotice_moves ..) (evalMargin_agrees (agrees_of_moves (unsupervisedLine_moves _ true) hdog))

/-! ### The phase capture (R99, R100, R176 to R178) -/

theorem onPhase_agrees (h : s.Agrees a) (g : Phase → Phase) : (s.onPhase g).Agrees a :=
  agrees_of_moves (onPhase_moves s g) h

theorem onValidity_agrees (h : s.Agrees a) (s0 : State) : (State.onValidity s0 s).Agrees a := by
  unfold State.onValidity
  split
  · exact h
  · exact formBypOk_agrees h

theorem evalCycle_agrees (h : s.Agrees a) : s.evalCycle.Agrees a := by
  have hcycle := onPhase_agrees h (Phase.cycle s.cfg.slipMax s.cfg.syncWindow s.counter)
  unfold State.evalCycle
  simp only
  split
  · split
    · exact testReady_agrees (lockRecheck_agrees hcycle)
    · exact lockRecheck_agrees hcycle
  · exact hcycle

theorem advance_agrees (h : s.Agrees a) : s.advance.Agrees a := agrees_of_frame (advance_frame s) h

theorem wrapCounter_agrees (h : s.Agrees a) : s.wrapCounter.Agrees a := by
  have hvalid := fun g => onValidity_agrees (onPhase_agrees h g) s
  unfold State.wrapCounter
  simp only
  split
  · exact lockRecheck_agrees (hvalid _)
  · exact hvalid _

/-! ### Timers of entries (R62, R90, R96) -/

/-- An own entry that is overdue is of its kind still (R96). -/
theorem markOverdue_agrees (h : s.Agrees a) (hmem : w ∈ s.claims.list) (ho : w.owner = s.own) :
    (s.markOverdue w).Agrees a := by
  have hg : KeepsId (fun v : Withdrawal => { v with overdue := true }) := fun _ => ⟨rfl, rfl⟩
  have hcab := changed_ownOf (c := WKind.isCabinet) h.entries hmem ho hg rfl
  refine agrees_of_frame (notify_frame ..) ⟨changed_rest h.toRest hmem ho hg (fun _ => rfl)
    (h.entries.fit w hmem ho) ⟨rfl, rfl, rfl⟩, { h.cabinet with held := ?_, maint := fun hm => ?_ }⟩
  · refine Eq.trans ?_ h.cabinet.held
    exact (congrArg List.length hcab).trans (List.length_map ..)
  · refine (h.cabinet.maint hm).imp_right fun ⟨v, hv, hk, hu⟩ => ?_
    refine ⟨Withdrawal.changedBy s.own w.claimId (fun v => { v with overdue := true }) v, ?_, ?_, ?_⟩
    · exact (congrArg (Membership.mem · _) hcab).mpr (List.mem_map_of_mem hv)
    · unfold Withdrawal.changedBy
      split <;> exact hk
    · unfold Withdrawal.changedBy
      split <;> exact hu

theorem forget_agrees (h : s.Agrees a) (hj : s.joined = true) {n : Nat} (hn : n ≠ s.own) : (s.forget n).Agrees a := by
  have hfirst : s.ChangesOnly [.peers, .notices] ((s.setPeer n PeerEntry.blank).notify .peerState n EntryState.lost.code
      EntryState.absent.code PeerEntry.blank.core.period) :=
    changesOnly_then (setPeer_frame ..) (notify_frame ..) rfl rfl
  refine removePeers_agrees (agrees_of_frame hfirst h) ((joined_of_frame hfirst).trans hj) fun v _ ho => ?_
  rw [own_of_frame hfirst] at ho
  simp [ho, hn.symm]

/-- Own entries are ACTIVE, so that a hold ends for peers alone (R73, R90). -/
theorem holdExpiry_agrees (h : s.Agrees a) (hj : s.joined = true) (n id : Nat) :
    (s.removeEntries (fun w => w.isFor n id && s.holdDue w)).Agrees a := by
  refine removePeers_agrees h hj fun v hv ho => ?_
  simp [State.holdDue, (h.entries.fit v hv ho).1]

end Sys2Proof.Machine

/-! PROOFS. The rows of the lines, of start-up and of reset keep the agreement (sections 5.8, 8.4, 10.1 and 10.2). -/

namespace Sys2Proof.Machine

-- One proof after another: side by side they ask for more thread stacks than there is memory for.
set_option Elab.async false

variable {s t u : State} {a : Bool} {f : List Piece}

/-! ### A part before JOIN -/

/-- What a part before JOIN has of its own: nothing. -/
theorem before_unowned (h : s.Agrees a) (hj : s.joined = false) (c : WKind → Bool) (r : Requester) :
    s.ownOf c = [] ∧ s.asked r = none := by
  obtain ⟨hlist, hslot⟩ := h.entries.before hj
  refine ⟨?_, asked_none hslot⟩
  simp [State.ownOf, State.ownWithdrawals, hlist]

theorem before_idle (h : s.Agrees a) (hj : s.joined = false) : s.job.state = .idle := by
  obtain ⟨hnone, hasked⟩ := before_unowned h hj WKind.isTest .ageing
  cases hstate : s.job.state with
  | idle => rfl
  | claiming =>
    have hx : (s.asked .ageing).isSome = true := h.test.waits.mpr hstate
    rw [hasked] at hx
    cases hx
  | running =>
    have hx : (s.ownOf WKind.isTest).map (fun w => w.scope) = [.string s.job.k] := h.test.held.trans (if_pos hstate)
    rw [hnone] at hx
    cases hx

/-- Start-up, the image and the records before JOIN (R191 to R193). -/
theorem startup_agrees (h : s.Agrees a) (hbefore : s.joined = false)
    (hframe : s.ChangesOnly [.startup, .image, .strings, .sequencer] t) (hafter : t.startup.state ≠ .joined)
    (hno : ∀ k : Nat, t.states[k]? ≠ some StringState.test)
    (hseq : t.seq.state = s.seq.state ∧ t.seq.prior = s.seq.prior ∧ t.seq.superseded = s.seq.superseded)
    (hwin : t.startup.state = .startWindow → t.running = true ∧ t.seq.found = t.pins.found) : t.Agrees a := by
  obtain ⟨hlist, hslot⟩ := h.entries.before hbefore
  have hlist' : t.claims.list = [] := (list_of_frame hframe).trans hlist
  have hslot' : t.claims.slot = .free := (slot_of_frame hframe).trans hslot
  have hnone : ∀ c, t.ownOf c = [] := fun c => by simp [State.ownOf, State.ownWithdrawals, hlist']
  have hasked : ∀ r, t.asked r = none := fun r => asked_none hslot'
  have hj : t.joined = false := by simpa [State.joined] using hafter
  obtain ⟨hstate, hprior, hsup⟩ := hseq
  have honline : s.seq.state = .online := h.cabinet.before fun hx => by simp [State.joined, show s.startup.state = _ from hx] at hbefore
  have hjob : t.job = s.job := hframe.kept .job (by decide)
  have hvisit : t.visit = s.visit := hframe.kept .visits (by decide)
  have hplain : s.seq.superseded = false := by
    by_contra hx
    have hsome : (s.asked .sequencer).isSome = true := h.cabinet.waits.mpr (.inr (by simpa [State.cabinetView] using hx))
    rw [asked_none hslot] at hsome
    cases hsome
  refine ⟨⟨?_, idle_agrees ?_ ?_ hno (hasked _), ?_⟩, ?_⟩
  · unfold State.EntriesOk
    rw [hlist', hslot']
    exact entriesAgree_nil ..
  · exact (congrArg TestJob.state hjob).trans (before_idle h hbefore)
  · exact congrArg (List.map _) (hnone _)
  · have hview : t.visitView = s.visitView := by
      unfold State.visitView
      rw [hvisit, hnone, (before_unowned h hbefore WKind.isService .visit).1, hasked,
        (before_unowned h hbefore WKind.isService .visit).2]
    rw [hview]
    exact h.visit
  · exact {
      running := fun hx => (hwin (hx.resolve_left hafter)).1
      found := fun hx => (hwin hx).2
      bypass := fun hx => absurd hx hafter
      before := fun _ => hstate.trans honline
      held := by
        rw [show t.cabinetView.held = [] from hnone _, show t.cabinetView.state = .online from hstate.trans honline]
        rfl
      maint := fun hm => by
        rw [show t.cabinetView.state = .online from hstate.trans honline] at hm
        cases hm
      prior := by
        rw [show t.cabinetView.prior = s.seq.prior from hprior]
        exact h.cabinet.prior
      asked := fun q hq => by
        rw [show t.cabinetView.asked = none from hasked _] at hq
        cases hq
      waits := by
        rw [show t.cabinetView.asked = none from hasked _, show t.cabinetView.state = .online from hstate.trans honline,
          show t.cabinetView.superseded = false from hsup.trans hplain]
        simp
      claiming := fun _ => hsup.trans hplain }

theorem notest_before (h : s.Agrees a) (hj : s.joined = false) (k : Nat) : s.states[k]? ≠ some StringState.test :=
  (test_quiet h.test (by rw [show s.testView.state = .idle from before_idle h hj]; decide)).2 k

theorem builtRecord_state (p : StringParams) : (builtRecord p).state = .inService := rfl

theorem onStartup_frame (s : State) (g : StartUp → StartUp) : s.ChangesOnly [.startup] (s.onStartup g) :=
  moves_frame (onStartup_moves (g := .all) s g)

/-- A change of the start-up state that enters neither the window nor JOINED. -/
theorem startupOnly_agrees (h : s.Agrees a) (hj : s.joined = false) {g : StartUp → StartUp}
    (hafter : (g s.startup).state ≠ .joined ∧ (g s.startup).state ≠ .startWindow) : (s.onStartup g).Agrees a :=
  startup_agrees h hj (changesOnly_mono (onStartup_frame s g) rfl) hafter.1 (notest_before h hj :) ⟨rfl, rfl, rfl⟩
    fun hx => absurd hx hafter.2

theorem reading_before (hr : s.startup.state = .loading) : s.joined = false := by simp [State.joined, hr]

theorem attemptFails_agrees (h : s.Agrees a) (hl : s.startup.state = .loading) : s.attemptFails.Agrees a := by
  unfold State.attemptFails State.configFault
  split
  · exact startupOnly_agrees h (reading_before hl) ⟨by simp, by simp⟩
  · exact startupOnly_agrees h (reading_before hl) ⟨by simp [hl], by simp [hl]⟩

theorem imageRead_agrees (h : s.Agrees a) (hl : s.startup.state = .loading) (hrun : s.running = true) (b : List Byte) :
    (s.imageRead b).Agrees a := by
  unfold State.imageRead
  split
  · exact attemptFails_agrees h hl
  · split
    · exact startupOnly_agrees h (reading_before hl) ⟨by simp, by simp⟩
    · refine startup_agrees h (reading_before hl) (enterWindow_image s _ hl).frame (fun hx => nomatch hx) (fun k hk => ?_)
        ⟨rfl, rfl, rfl⟩ fun _ => ⟨hrun, rfl⟩
      have hk : ((((imageOf b).strings.map builtRecord).map (fun x => x.state)))[k]? = some StringState.test := hk
      rw [List.map_map, List.getElem?_map] at hk
      obtain ⟨p, -, hp⟩ := Option.map_eq_some_iff.mp hk
      exact nomatch (builtRecord_state p).symm.trans hp

/-! ### The lines (R99, R113, R119, R133) -/

/-- A line that is neither a switch nor RESET_N. -/
theorem onPins_agrees (h : s.Agrees a) {set : Pins → Pins}
    (hset : ∀ p, (set p).resetN = p.resetN ∧ (set p).ssFb = p.ssFb ∧ (set p).mbsClosed = p.mbsClosed) :
    (s.onPins set).Agrees a := by
  obtain ⟨hreset, hfb, hmbs⟩ := hset s.pins
  have hview : (s.onPins set).cabinetView = s.cabinetView := by
    have hfound : (set s.pins).found = s.pins.found := by simp only [Pins.found, hfb, hmbs]
    have hrun : (s.onPins set).running = s.running := congrArg (s.power && ·) hreset
    show CabinetView.mk _ (s.onPins set).running (set s.pins).ssFb (set s.pins).found _ _ _ _ _ _ _ = _
    rw [hrun, hfb, hfound]
    rfl
  exact ⟨⟨h.entries, h.test, h.visit⟩, hview ▸ h.cabinet⟩

theorem lineEvent_agrees {c : Bool} {set : Pins → Pins} {body : State → State} (h : s.Agrees a)
    (hset : ∀ p, (set p).resetN = p.resetN ∧ (set p).ssFb = p.ssFb ∧ (set p).mbsClosed = p.mbsClosed)
    (hev : s.lineEvent c set body = .next t) (hb : ∀ u : State, u.Agrees a → (body u).Agrees a) : t.Agrees a := by
  unfold State.lineEvent at hev
  split at hev
  · exact event_agrees (onPins_agrees h hset) hev fun _ hu => hb _ hu
  · rwa [← Host.Outcome.next.inj hev]

/-- The switch's level is of no account but in the window and from JOIN onward. -/
theorem switch_idle (h : s.Agrees a) (set : Pins → Pins)
    (hj : s.startup.state ≠ .joined) (hw : s.startup.state ≠ .startWindow) : (s.onPins set).Agrees a :=
  ⟨⟨h.entries, h.test, h.visit⟩, { h.cabinet with
    running := fun hx => absurd hx (by rintro (hx | hx); exacts [hj hx, hw hx])
    found := fun hx => absurd hx hw
    bypass := fun hx => absurd hx hj }⟩

/-- The switch in the start window re-forms `found` (R119). -/
theorem switch_window (h : s.Agrees a) {set : Pins → Pins} (hset : ∀ p, (set p).resetN = p.resetN)
    (hw : s.startup.state = .startWindow) :
    ((s.onPins set).onSeq (fun q => { q with found := (set s.pins).found })).Agrees a := by
  have hj : s.startup.state ≠ .joined := by rw [hw]; decide
  refine ⟨⟨h.entries, h.test, h.visit⟩, { h.cabinet with
    running := fun hx => ?_
    found := fun _ => rfl
    bypass := fun hx => absurd hx hj }⟩
  have hrun : (s.onPins set).running = s.running := congrArg (s.power && ·) (hset s.pins)
  exact hrun.trans (h.cabinet.running hx)

/-- From JOIN onward the level counts where the line reads bypass. -/
theorem switch_joined (h : s.Agrees a) {set : Pins → Pins} (hset : ∀ p, (set p).resetN = p.resetN) (hj : s.joined = true)
    (b : Bool) (hb : b = true → s.pins.ssFb = true) :
    CabinetView.Agrees { (s.onPins set).cabinetView with ssFb := b } := by
  have hstart : s.startup.state = .joined := beq_iff_eq.mp hj
  have hrun : (s.onPins set).running = s.running := congrArg (s.power && ·) (hset s.pins)
  refine { h.cabinet with
    running := fun hx => hrun.trans (h.cabinet.running hx)
    found := fun hx => ?_
    bypass := fun hx hb' => h.cabinet.bypass hx (hb hb') }
  rw [show (s.onPins set).cabinetView.start = .joined from hstart] at hx
  cases hx

theorem onSwitch_inJoined {body : State → State} (h : s.startup.state = .joined) : s.onSwitch body = body s := by
  unfold State.onSwitch
  rw [h]

theorem onSwitch_inWindow {body : State → State} (h : s.startup.state = .startWindow) :
    s.onSwitch body = s.onSeq (fun q => { q with found := s.pins.found }) := by
  unfold State.onSwitch
  rw [h]

theorem onSwitch_outside {body : State → State} (hj : s.startup.state ≠ .joined) (hw : s.startup.state ≠ .startWindow) :
    s.onSwitch body = s := by
  unfold State.onSwitch
  split
  · rfl
  · rfl
  · exact absurd ‹_› hw
  · exact absurd ‹_› hj

theorem switch_agrees {c : Bool} {set : Pins → Pins} {body : State → State} (h : s.Agrees a)
    (hset : ∀ p, (set p).resetN = p.resetN) (hev : s.lineEvent c set (fun s => s.onSwitch body) = .next t)
    (hbody : c = true → s.joined = true → (body ((s.onPins set).withStatusDue false)).Agrees a) : t.Agrees a := by
  unfold State.lineEvent at hev
  split at hev
  · rename_i hc
    have hrun : (s.onPins set).running = s.running := congrArg (s.power && ·) (hset s.pins)
    by_cases hr : s.running = true
    · rw [event_next (hrun.trans hr) rfl] at hev
      obtain rfl := Host.Outcome.next.inj hev
      refine finish_agrees _ ?_
      show (State.onSwitch ((s.onPins set).withStatusDue false) body).Agrees a
      have hquiet : ∀ u : State, u.Agrees a → (u.withStatusDue false).Agrees a := fun u hu =>
        agrees_of_frame (withStatusDue_frame ..) hu
      cases hstart : s.startup.state with
      | joined =>
        rw [onSwitch_inJoined (s := (s.onPins set).withStatusDue false) hstart]
        exact hbody hc (beq_iff_eq.mpr hstart)
      | startWindow =>
        rw [onSwitch_inWindow (s := (s.onPins set).withStatusDue false) hstart]
        exact hquiet _ (switch_window h hset hstart)
      | loading | configFault =>
        rw [onSwitch_outside (s := (s.onPins set).withStatusDue false) (fun hx => nomatch hstart.symm.trans hx)
          fun hx => nomatch hstart.symm.trans hx]
        exact hquiet _ (switch_idle h set (by rw [hstart]; decide) (by rw [hstart]; decide))
    · have hstop : (s.onPins set).running = false := by
        rw [hrun]
        simpa using hr
      rw [event_idle (by rw [hstop]; rfl)] at hev
      obtain rfl := Host.Outcome.next.inj hev
      exact switch_idle h set (fun hx => hr (h.cabinet.running (.inl hx))) fun hx => hr (h.cabinet.running (.inr hx))
  · rwa [← Host.Outcome.next.inj hev]

theorem ssFbRise_agrees (h : s.Agrees a) (hahead : a = true → s.idAhead = true) (hev : execSsFbRise s = .next t) :
    t.Agrees a :=
  switch_agrees (set := fun p => { p with ssFb := true }) h (fun _ => rfl) hev fun _ hj =>
    switchToBypass_agrees ⟨h.entries, h.test, h.visit⟩
      (switch_joined (set := fun p => { p with ssFb := true }) h (fun _ => rfl) hj false fun hx => nomatch hx) hj hahead

theorem ssFbFall_agrees (h : s.Agrees a) (hev : execSsFbFall s = .next t) : t.Agrees a :=
  switch_agrees (set := fun p => { p with ssFb := false }) h (fun _ => rfl) hev fun _ hj =>
    switchToInverter_agrees ⟨⟨h.entries, h.test, h.visit⟩,
      switch_joined (set := fun p => { p with ssFb := false }) h (fun _ => rfl) hj false fun hx => nomatch hx⟩ hj rfl

theorem mbsClosed_agrees (h : s.Agrees a) (hj : s.joined = true) (b : Bool) :
    ((s.onPins (fun p => { p with mbsClosed := b })).withStatusDue false).Agrees a :=
  ⟨⟨h.entries, h.test, h.visit⟩,
    switch_joined (set := fun p => { p with mbsClosed := b }) h (fun _ => rfl) hj s.pins.ssFb id⟩

theorem mbsClosedRise_agrees (h : s.Agrees a) (hahead : a = true → s.idAhead = true) (hev : execMbsClosedRise s = .next t) :
    t.Agrees a :=
  switch_agrees (set := fun p => { p with mbsClosed := true }) h (fun _ => rfl) hev fun _ hj =>
    maintCloses_agrees (mbsClosed_agrees h hj true) hj hahead

theorem mbsClosedFall_agrees (h : s.Agrees a) (hev : execMbsClosedFall s = .next t) : t.Agrees a :=
  switch_agrees (set := fun p => { p with mbsClosed := false }) h (fun _ => rfl) hev fun _ hj =>
    maintOpens_agrees (mbsClosed_agrees h hj false) hj

/-! ### Reset (R190) -/

theorem reset_agrees (a : Bool) (p : Pins) (b : Bool) : ((s.resetAll.withPins p).withPower b).Agrees a where
  entries := entriesAgree_nil ..
  test := idle_agrees rfl rfl (fun _ hk => nomatch hk) rfl
  visit := novisit_agrees rfl rfl rfl
  cabinet := {
    running := fun hx => by rcases hx with hx | hx <;> cases hx
    found := fun hx => nomatch hx
    bypass := fun hx => nomatch hx
    before := fun _ => rfl
    held := rfl
    maint := fun hm => nomatch hm
    prior := rfl
    asked := fun _ hq => nomatch hq
    waits := ⟨(fun hx => nomatch hx), fun hx => by rcases hx with hx | hx <;> cases hx⟩
    claiming := fun _ => rfl }

end Sys2Proof.Machine

/-! PROOFS. Every row keeps the agreement, and with it the laws of the cabinet and of the own withdrawals
(sections 2.3, 4.1, 4.2, 5.2, 5.7 and 6.5). -/

namespace Sys2Proof.Machine

-- One proof after another: side by side they ask for more thread stacks than there is memory for.
set_option Elab.async false

variable {s t u : State} {a : Bool} {f : List Piece}

/-! ### Rows whose event keeps the pieces the agreement speaks of -/

theorem agrees_of_answersMoves (h : s.Agrees a) (hans : s.Answers (Moves .all f) t)
    (hf : Apart f standingPieces := by rfl) : t.Agrees a :=
  agrees_of_answers h hans fun _ hu hm => agrees_of_moves hm hu hf

/-! ### Commands (sections 1.6, 2.2, 3.4, 5.3, 5.5, 6.2 and 6.6) -/

theorem join_agrees (h : s.Agrees a) (hahead : a = true → s.idAhead = true) (hev : execJoin s = .next t) : t.Agrees a := by
  refine command_agrees h hev fun r hu => ?_
  split
  · exact answer_agrees hu ..
  · exact answer_agrees hu ..
  · rename_i hstart
    exact answer_agrees (joinFloor_agrees hu (beq_iff_eq.mpr hstart) hahead) ..
  · exact answer_agrees hu ..

theorem windowExpiry_agrees (h : s.Agrees a) (hahead : a = true → s.idAhead = true) (hev : execStartWindowExpiry s = .next t) :
    t.Agrees a :=
  event_agrees h hev fun hc hu => joinFloor_agrees hu (Bool.and_eq_true_iff.mp hc).1 hahead

theorem loadAgeing_agrees (h : s.Agrees a) (hev : execLoadAgeing s = .next t) : t.Agrees a := by
  refine command_agrees h hev fun r hu => ?_
  simp only
  split
  · exact answer_agrees hu ..
  · exact answer_agrees hu ..
  · exact answer_agrees hu ..
  · split
    · exact answer_agrees hu ..
    · split
      · exact answer_agrees hu ..
      · split
        · exact answer_agrees hu ..
        · exact answer_agrees (loadString_agrees hu ..) ..

theorem forgetStation_agrees (h : s.Agrees a) (hev : execForgetStation s = .next t) : t.Agrees a := by
  refine command_agrees h hev fun r hu => whenJoined_agrees hu fun hj => ?_
  simp only
  split
  · exact answer_agrees hu ..
  · split
    · exact answer_agrees hu ..
    · rename_i hno
      exact answer_agrees (forget_agrees hu hj fun hx => hno (.inl hx)) ..

theorem reqBypass_agrees (h : s.Agrees a) (hev : execReqBypass s = .next t) : t.Agrees a := by
  refine command_agrees h hev fun r hu => whenJoined_agrees hu fun hj => ?_
  simp only
  split
  · exact answer_agrees hu ..
  split
  · exact answer_agrees hu ..
  split
  · exact answer_agrees hu ..
  · rename_i hstate
    have honline : s.seq.state = .online := not_not.mp hstate
    split
    · exact answer_agrees hu ..
    split
    · exact answer_agrees hu ..
    · exact answer_agrees (testReady_agrees (enterSyncWait_agrees hu hj (congrArg SeqState.bare honline) _)) ..

theorem reqReturn_agrees (h : s.Agrees a) (hev : execReqReturn s = .next t) : t.Agrees a := by
  refine command_agrees h hev fun r hu => whenJoined_agrees hu fun hj => ?_
  simp only
  split
  · exact answer_agrees hu ..
  split
  · exact answer_agrees hu ..
  split
  · exact answer_agrees hu ..
  · rename_i hstatic
    split
    · exact answer_agrees hu ..
    split
    · exact answer_agrees (startReturn_agrees hu (by simpa using hstatic) _) ..
    · exact answer_agrees hu ..

theorem reqTest_agrees (h : s.Agrees a) (hev : execReqTest s = .next t) : t.Agrees a := by
  refine command_agrees h hev fun r hu => whenJoined_agrees hu fun hj => ?_
  simp only
  split
  · exact answer_agrees hu ..
  · rename_i rec hrec
    split
    · exact answer_agrees hu ..
    split
    · exact answer_agrees hu ..
    split
    · exact answer_agrees hu ..
    split
    · exact answer_agrees hu ..
    · exact claimTest_agrees hu hj (idle_of_testObstacle ‹_›) (List.getElem?_eq_some_iff.mp hrec).1 ..

theorem abortTestRow_agrees (h : s.Agrees a) (hev : execAbortTest s = .next t) : t.Agrees a := by
  refine command_agrees h hev fun r hu => whenJoined_agrees hu fun _ => ?_
  split
  · exact answer_agrees hu ..
  · split
    · exact answer_agrees hu ..
    · exact answer_agrees (abortTest_agrees hu _) ..
  · exact answer_agrees (abortTest_agrees hu _) ..

theorem openVisit_agrees (h : s.Agrees a) (hev : execOpenVisit s = .next t) : t.Agrees a := by
  refine command_agrees h hev fun r hu => whenJoined_agrees hu fun hj => ?_
  split
  · exact answer_agrees hu ..
  split
  · exact answer_agrees hu ..
  split
  · exact answer_agrees hu ..
  split
  · exact answer_agrees hu ..
  · rename_i hcur
    have hnone : (s.withStatusDue false).visit.current = none := by simpa using hcur
    split
    · exact openCabinet_agrees hu hnone ..
    split
    · exact answer_agrees hu ..
    · exact openString_agrees hu hj hnone ..

theorem closeVisitRow_agrees (h : s.Agrees a) (hev : execCloseVisit s = .next t) : t.Agrees a := by
  refine command_agrees h hev fun r hu => whenJoined_agrees hu fun _ => ?_
  split
  · exact answer_agrees hu ..
  split
  · exact answer_agrees hu ..
  · rename_i v hcur
    split
    · exact answer_agrees hu ..
    split
    · exact answer_agrees hu ..
    split
    · exact cancelVisit_agrees hu hcur ‹_›
    · rename_i hopen
      split
      · exact answer_agrees hu ..
      · exact answer_agrees (closeVisit_agrees hu hcur (by simpa using hopen) ‹_›) ..

theorem visitRow_agrees {row : Instr} {listed needsK : List Byte → Bool} {obstacle : State → List Byte → Visit → Option Nat}
    {effect : List Byte → State → State} {kind : ActionKind} (h : s.Agrees a)
    (hev : s.command row (fun r s => s.whenJoined (fun s =>
      s.visitAction r (listed r) (needsK r) (obstacle s r) (effect r) kind)) = .next t)
    (heff : ∀ r (u : State) v, u.Agrees a → obstacle u r v = none → (effect r u).Agrees a) : t.Agrees a :=
  command_agrees h hev fun r hu => whenJoined_agrees hu fun _ => visitAction_agrees hu fun v => heff r _ v hu

/-! ### Timers and events -/

theorem withdrawalOverdue_agrees {c : Nat} (h : s.Agrees a) (hev : execWithdrawalOverdue c s = .next t) : t.Agrees a := by
  refine event_agrees h hev fun _ hu => ?_
  split
  · rename_i w hw
    have hdue := List.find?_some hw
    have howner : w.owner = s.own := by
      simp only [State.overdueDue, Bool.and_eq_true, beq_iff_eq] at hdue
      obtain ⟨-, ⟨⟨howner, -⟩, -⟩, -⟩ := hdue
      exact howner
    exact markOverdue_agrees hu (List.mem_of_find?_eq_some hw) howner
  · exact hu

theorem raiseLevel_agrees (h : s.Agrees a) (l : OverdueLevel) (k : NoticeKind) : (s.raiseLevel l k).Agrees a := by
  unfold State.raiseLevel
  split
  · exact agrees_of_frame (notify_frame ..) (onCurrent_agrees h fun _ => rfl)
  · exact h

theorem keyNotice_agrees (h : s.Agrees a) (b : Bool) (k : NoticeKind) (v : Visit) :
    ((s.onCurrent (fun v => { v with keyOut := b })).keyNotice k v).Agrees a :=
  agrees_of_frame (notify_frame ..) (onCurrent_agrees h fun _ => rfl)

theorem keyOnFall_agrees (h : s.Agrees a) (hev : execKeyOnFall s = .next t) : t.Agrees a := by
  refine lineEvent_agrees (set := fun p => { p with keyOn := false }) h (fun _ => ⟨rfl, rfl, rfl⟩) hev fun u hu => ?_
  split
  · exact keyNotice_agrees hu ..
  · exact hu

theorem keyOnRise_agrees (h : s.Agrees a) (hev : execKeyOnRise s = .next t) : t.Agrees a := by
  refine lineEvent_agrees (set := fun p => { p with keyOn := true }) h (fun _ => ⟨rfl, rfl, rfl⟩) hev fun u hu => ?_
  split
  · split
    · exact keyNotice_agrees hu ..
    · exact hu
  · exact hu

theorem invOkRise_agrees (h : s.Agrees a) (hev : execInvOkRise s = .next t) : t.Agrees a := by
  refine lineEvent_agrees (set := fun p => { p with invOk := true }) h (fun _ => ⟨rfl, rfl, rfl⟩) hev fun u hu => ?_
  split
  · exact followRetransfer_agrees hu
  · exact hu

theorem invOkFall_agrees (h : s.Agrees a) (hev : execInvOkFall s = .next t) : t.Agrees a := by
  refine lineEvent_agrees (set := fun p => { p with invOk := false }) h (fun _ => ⟨rfl, rfl, rfl⟩) hev fun u hu => ?_
  split
  · split
    · exact failTransfer_agrees hu _
    · exact followRetransfer_agrees hu
  · exact hu

theorem measTakeIn_agrees (h : s.Agrees a) (hev : execMeasTakeIn s = .next t) : t.Agrees a := by
  refine event_agrees h hev fun _ hu => ?_
  split
  · exact examine_agrees hu _
  · exact hu

theorem frameCompleted_agrees {p : Port} (h : s.Agrees true) (hev : execFrameCompleted p s = .next t) : t.Agrees true := by
  refine event_agrees h hev fun _ hu => ?_
  split
  · exact checkFrame_agrees (agrees_of_frame (onPort_frame ..) hu) ..
  · exact hu

theorem zcBypEdge_agrees (h : s.Agrees a) (hev : execZcBypEdge s = .next t) : t.Agrees a := by
  refine event_agrees h hev fun _ hu => ?_
  have hvalid := fun g => onValidity_agrees (onPhase_agrees hu g) (s.withStatusDue false)
  simp only
  split
  · exact evalCycle_agrees (hvalid _)
  · exact hvalid _

/-! ### Every row -/

theorem exec_agrees {i : Instr} (h : s.Agrees true) (hahead : a = true → s.idAhead = true) (hev : exec i s = .next t) :
    t.Agrees a := by
  have hs := agrees_weaken h a
  cases i with
  | powerOn | powerOff | resetNFall | resetNRise | resetTakesEffect =>
    obtain rfl | ⟨p, b, rfl⟩ := exec_reset (by decide) hev
    · exact hs
    · exact reset_agrees a p b
  | imageReadComplete b =>
    refine agrees_of_answers (m := fun _ u => u.Agrees a) hs (event_answers hev fun hrun hc => ?_) fun _ _ hu => hu
    have hl : s.startup.state = .loading := beq_iff_eq.mp (Bool.and_eq_true_iff.mp hc).1
    exact imageRead_agrees (agrees_of_frame (withStatusDue_frame s false) hs) hl hrun b
  | imageReadFailed =>
    exact event_agrees hs hev fun hc hu => attemptFails_agrees hu (beq_iff_eq.mp (Bool.and_eq_true_iff.mp hc).1)
  | imageReadRetry =>
    refine event_agrees hs hev fun hc hu => ?_
    have hl : s.startup.state = .loading := beq_iff_eq.mp (Bool.and_eq_true_iff.mp hc).1
    exact startupOnly_agrees hu (reading_before hl) ⟨(fun hx => nomatch hl.symm.trans hx),
      fun hx => nomatch hl.symm.trans hx⟩
  | startWindowExpiry => exact windowExpiry_agrees hs hahead hev
  | join => exact join_agrees hs hahead hev
  | reset => exact agrees_of_answersMoves hs (execReset_answers hev)
  | loadAgeing => exact loadAgeing_agrees hs hev
  | readString => exact agrees_of_answersMoves hs (execReadString_answers hev)
  | readFloor => exact agrees_of_answersMoves hs (execReadFloor_answers hev)
  | readView => exact agrees_of_answersMoves hs (execReadView_answers hev)
  | readWithdrawals => exact agrees_of_answersMoves hs (execReadWithdrawals_answers hev)
  | readVisit => exact agrees_of_answersMoves hs (execReadVisit_answers hev)
  | unknownCommand => exact agrees_of_answersMoves hs (execUnknownCommand_answers hev)
  | readCounters => exact agrees_of_answersMoves hs (execReadCounters_answers hev)
  | forgetStation => exact forgetStation_agrees hs hev
  | reqBypass => exact reqBypass_agrees hs hev
  | reqReturn => exact reqReturn_agrees hs hev
  | reqTest => exact reqTest_agrees hs hev
  | abortTest => exact abortTestRow_agrees hs hev
  | openVisit => exact openVisit_agrees hs hev
  | closeVisit => exact closeVisitRow_agrees hs hev
  | isolate =>
    exact visitRow_agrees hs hev fun _ _ _ hu hno =>
      setStringState_agrees hu (stringObstacle_none hno) (by decide) (by decide)
  | replace => exact visitRow_agrees hs hev fun _ _ _ hu _ => replaceString_agrees hu _
  | restore => exact visitRow_agrees hs hev fun _ _ _ hu hno => restoreString_agrees hu (stringObstacle_none hno)
  | note => exact visitRow_agrees hs hev fun _ _ _ hu _ => hu
  | measWrite b => exact agrees_of_answersMoves hs (execMeasWrite_answers hev)
  | cmdWrite b => exact agrees_of_answersMoves hs (execCmdWrite_answers hev)
  | replyRead =>
    exact agrees_of_answersMoves hs (event_answers hev fun _ _ => .trans (opened_moves ..) (replyTaken_moves _))
  | noticeRead =>
    exact agrees_of_answersMoves hs (event_answers hev fun _ _ => .trans (opened_moves ..) (noticeTaken_moves _))
  | statusRead =>
    exact agrees_of_answersMoves hs (event_answers hev fun _ _ => .trans (opened_moves ..) (statusTaken_moves _))
  | badTransaction b => exact agrees_of_answersMoves hs (execBadTransaction_answers hev)
  | transactionEndsEarly => exact agrees_of_answersMoves hs (event_answers hev fun _ _ => endEarly_moves _)
  | transactionBegins k =>
    exact agrees_of_answersMoves hs (event_answers hev fun _ _ => .trans (endEarly_moves _) (openTxn_moves ..))
  | measTakeIn => exact measTakeIn_agrees hs hev
  | takeInEnd => exact agrees_of_answersMoves hs (execTakeInEnd_answers hev)
  | symbolReceived p y => exact agrees_of_answersMoves hs (execSymbolReceived_answers hev)
  | lineBreak p => exact agrees_of_answersMoves hs (execLineBreak_answers hev)
  | frameCompleted p => exact agrees_weaken (frameCompleted_agrees h hev) a
  | transmitNextFrame p => exact agrees_of_answersMoves hs (event_answers hev fun _ hc => transmit_moves _ p hc)
  | inFlightTagExpiry n => exact agrees_of_answersMoves hs (event_answers hev fun _ _ => endFlight_moves ..)
  | statusPeriod => exact agrees_of_answersMoves hs (event_answers hev fun _ _ => markStatus_moves _)
  | peerStale n => exact agrees_of_answersMoves hs (event_answers hev fun _ _ => movePeer_moves _ n (by decide))
  | peerLost n => exact agrees_of_answersMoves hs (event_answers hev fun _ _ => movePeer_moves _ n (by decide))
  | provisionalHoldExpiry o c =>
    exact event_agrees hs hev fun hc hu => holdExpiry_agrees hu (Bool.and_eq_true_iff.mp hc).1 o c
  | claimTimerExpiry => exact event_agrees hs hev fun _ hu => claimExpires_agrees hu
  | retryTimerExpiry => exact event_agrees hs hev fun _ hu => retryExpires_agrees hu
  | withdrawalOverdue c => exact withdrawalOverdue_agrees hs hev
  | ageingTick => exact event_agrees hs hev fun _ hu => wholeTick_agrees hu
  | dayBoundary => exact event_agrees hs hev fun _ hu => wholeTick_agrees hu
  | testLimitExpiry =>
    exact event_agrees hs hev fun hc hu => endTest_agrees hu (beq_iff_eq.mp (Bool.and_eq_true_iff.mp hc).1) _
  | hostStale => exact event_agrees hs hev fun _ hu => goStale_agrees hu
  | unsupervised => exact event_agrees hs hev fun _ hu => goUnsupervised_agrees hu
  | ssFbRise => exact ssFbRise_agrees hs hahead hev
  | ssFbFall => exact ssFbFall_agrees hs hev
  | mbsClosedRise => exact mbsClosedRise_agrees hs hahead hev
  | mbsClosedFall => exact mbsClosedFall_agrees hs hev
  | invOkRise => exact invOkRise_agrees hs hev
  | invOkFall => exact invOkFall_agrees hs hev
  | autoRetransfer =>
    refine event_agrees hs hev fun hc hu => agrees_of_frame (notify_frame ..) (startReturn_agrees hu ?_ _)
    exact congrArg SeqState.onStatic (beq_iff_eq.mp (Bool.and_eq_true_iff.mp hc).1)
  | syncFail =>
    refine event_agrees hs hev fun hc hu => agrees_of_frame (notify_frame ..) ?_
    have hwait : s.seq.state = .syncWait := beq_iff_eq.mp (Bool.and_eq_true_iff.mp hc).1
    exact goOnline_agrees hu (joined_of_moved hu fun hx => nomatch hwait.symm.trans hx) (congrArg SeqState.bare hwait)
  | confirmTimeout => exact event_agrees hs hev fun _ hu => failTransfer_agrees hu _
  | zcInvEdge => exact event_agrees hs hev fun _ hu => onPhase_agrees hu _
  | zcBypEdge => exact zcBypEdge_agrees hs hev
  | phaseCounterWrap => exact event_agrees hs hev fun _ hu => wrapCounter_agrees (advance_agrees hu)
  | keyOnFall => exact keyOnFall_agrees hs hev
  | keyOnRise => exact keyOnRise_agrees hs hev
  | visitOverdue => exact event_agrees hs hev fun _ hu => raiseLevel_agrees hu ..
  | visitLong => exact event_agrees hs hev fun _ hu => raiseLevel_agrees hu ..

/-- Every step keeps the agreement, and the claim ids apart where the next id is not the one in flight. -/
theorem step_agrees (h : s.Agrees true) (hahead : a = true → s.idAhead = true) (hev : step s = .next t) : t.Agrees a := by
  refine step_gives (P := fun u => u.Agrees true ∧ (a = true → u.idAhead = true)) (Q := fun u => u.Agrees a) ⟨h, hahead⟩ hev
    (fun u l n hu => ⟨⟨⟨hu.1.entries, hu.1.test, hu.1.visit⟩, hu.1.cabinet⟩, hu.2⟩) (fun hu => agrees_weaken hu.1 a)
    (fun u hu => advance_agrees (agrees_weaken hu.1 a)) fun i u v hu hv => exec_agrees hu.1 hu.2 hv

/-! ### The laws of the cabinet and of the owners -/

/-- Settles O58: the law of the cabinet is read off the agreement that every step keeps. -/
theorem cabinetKept : Obligations.CabinetKept := by
  intro s t hcabinet howners hpairs _ hstep
  exact cabinetOk_of (step_agrees (a := false) (agrees_of hcabinet howners hpairs) (fun hx => nomatch hx) hstep)

/-- Settles O59: the laws of the owners and of the claim ids are read off the agreement that every step keeps; an
admission's level and the reset state stand by themselves. -/
theorem ownersKept : Obligations.OwnersKept := by
  refine ⟨fun s t howners hcabinet _ _ hpairs hstep => ?_, fun s t hpairs hahead howners hcabinet _ hstep => ?_,
    fun s t hadm hstep => step_admissionOk hadm hstep, by decide, by decide⟩
  · exact ownersOk_of (step_agrees (a := false) (agrees_of hcabinet howners hpairs) (fun hx => nomatch hx) hstep)
  · exact pairsOk_of (step_agrees (agrees_of hcabinet howners hpairs) (fun _ => hahead) hstep)

end Sys2Proof.Machine
